-- ==== Sys2Proof/Word.lean ====
section
/-! DEFINITION. The plain types every other file uses: bytes, words, tile numbers and the two kinds of sparse list. -/

namespace Sys2Proof

/-- One byte (00 R9). -/
abbrev Byte := BitVec 8

/-- One 64-bit general register (03 R84). -/
abbrev Word := BitVec 64

/-- A physical tile number p = 9 × region + position, 0 to 71 (01 R21). -/
abbrev PTile := Fin 72

/-- A stored memory: (address, byte) pairs, addresses strictly rising, no entry equal to 0, the value an unlisted byte reads as (08 R265). -/
abbrev Mem := List Host.Cell

/-- A sparse table: (key, value) pairs, keys strictly rising. -/
abbrev SMap (α : Type) := List (Nat × α)

end Sys2Proof
end

