-- ==== Sys2Proof/Syntax.lean ====
section
/-! DEFINITION. The commands of the part: one constructor per row of spec/opcode_table.json, with the row's operands. -/

namespace Sys2Proof

/-- An addressing mode of an L slot (03 R91). -/
inductive LMode where
  | offset (o : BitVec 14)
  | postImm (inc : BitVec 14)
  | index (g : Fin 64)
  | postReg (g : Fin 64)
  | update (inc : BitVec 14)
  deriving DecidableEq, Repr


/-- The SecTAG of a received frame (11 R361): its secure channel identifier, its packet number, and whether the ICV verifies. -/
structure SecTag where
  sci : Nat
  pn : Nat
  ok : Bool
  deriving DecidableEq, Repr

/-- What the MAC hands on of a received frame (11 R345, R360, R361): its length from destination address to FCS, its VLAN id if tagged, and its SecTAG if it has one. -/
structure L2Head where
  len : Nat
  vid : Option (BitVec 12)
  sec : Option SecTag
  deriving DecidableEq, Repr

/-- A received UDP datagram (01 R26, 11 R354, R358). Addresses are 16 bytes, IPv4 as IPv4-mapped addresses. -/
structure InFrame where
  head : L2Head
  rtag : Option (BitVec 16)
  src : List (BitVec 8)
  dst : List (BitVec 8)
  sport : BitVec 16
  dport : BitVec 16
  payload : List (BitVec 8)
  deriving DecidableEq, Repr

/-- Why a frame is dropped (11 R345, R346). -/
inductive DropKind where
  | pause
  | pfc
  | oversize
  | tcp
  | fragment
  | other
  deriving DecidableEq, Repr

/-- The link fields of a received Beryl frame (13 R415): LINK_SEQ, LINK_ACK, LINK_CREDIT, and the reply it carries. -/
structure BLinkHead where
  seq : BitVec 16
  ack : BitVec 16
  credit0 : BitVec 4
  credit1 : BitVec 4
  code : BitVec 8
  rdst : BitVec 8
  rwindow : BitVec 8
  rtag : BitVec 9
  count : BitVec 7
  deriving DecidableEq, Repr

/-- The addressing fields of a received Beryl frame (13 R415): VC, DST, SRC, HOPS, and the window and generation it names. -/
structure BAddr where
  vc : Bool
  dst : BitVec 8
  src : BitVec 8
  hops : BitVec 8
  window : BitVec 6
  gen : BitVec 2
  deriving DecidableEq, Repr

/-- One entry of a READ or WRITE request (12 R393): object, offset, and LENGTH; data are a WRITE's bytes. -/
structure AEntry where
  index : BitVec 16
  sub : BitVec 8
  reserved : BitVec 8
  offset : BitVec 32
  length : BitVec 16
  data : List (BitVec 8)
  deriving DecidableEq, Repr

/-- A received PROTECTED datagram (12 R386, R391, R393): the frame it came in, SESSION and COUNTER, whether its tag verifies, and the body header of its plaintext. The payload of the frame is the ciphertext and is not read. -/
structure AMsg where
  e : Fin 2
  frame : InFrame
  session : BitVec 16
  counter : BitVec 64
  ok : Bool
  flags : BitVec 8
  req : BitVec 16
  count : BitVec 16
  code : BitVec 16
  deriving DecidableEq, Repr

/-- The commands: every constructor is one row of spec/opcode_table.json and carries that row's operands. -/
inductive Instr where
  /-- At each tick boundary the part advances the tick number, closes input sets, applies staged writes and pause, and begins step 0 (02 R44). -/
  | tickBoundary
  /-- TICK_OUT falls 1 µs after it rose (02 R51). -/
  | tickOutEnd
  /-- At each step boundary STEP_COUNT advances and the budget monitor, item starts, restarts and power requests are processed (02 R42). -/
  | stepBoundary
  /-- At the start of the guard the part stops running items of classes 1–3 and ends them FAILED(TICK_OVERRUN) (02 R46). -/
  | guardStart
  /-- A tile that has no running item takes the head of the highest non-empty load-balancing queue (02 R66). -/
  | lbItemTake (p : PTile)
  /-- An attempt that has run more live steps than its allowance raises the job fault ITEM_TIMEOUT (15 R476). -/
  | itemTimeout (p : PTile)
  /-- A rising edge of TICK_IN inside the window becomes a boundary; an edge outside it is ignored and counted (02 R50). -/
  | tickInEdge
  /-- After tick_in_loss expected edges are missing in a row, the part enters holdover (02 R50). -/
  | tickInLoss
  /-- The pixel core issues one 256-bit bundle; it checks the encoding and serves loop-back and zero-count loop skips (03 R76). -/
  | bundleIssue (p : PTile)
  /-- Opcode 0 in any slot does nothing (03 R77). -/
  | nop (p : PTile)
  /-- 64-bit integer add of two g registers (03 R120). -/
  | add (p : PTile) (d : Fin 64) (a : Fin 64) (b : Fin 64)
  /-- 64-bit integer subtract of two g registers (03 R120). -/
  | sub (p : PTile) (d : Fin 64) (a : Fin 64) (b : Fin 64)
  /-- Bitwise AND of two g registers (03 R120). -/
  | and (p : PTile) (d : Fin 64) (a : Fin 64) (b : Fin 64)
  /-- Bitwise OR of two g registers (03 R120). -/
  | or (p : PTile) (d : Fin 64) (a : Fin 64) (b : Fin 64)
  /-- Bitwise XOR of two g registers (03 R120). -/
  | xor (p : PTile) (d : Fin 64) (a : Fin 64) (b : Fin 64)
  /-- Shift left by source 2 bits [5:0] (03 R121). -/
  | shl (p : PTile) (d : Fin 64) (a : Fin 64) (b : Fin 64)
  /-- Logical shift right by source 2 bits [5:0] (03 R121). -/
  | shr (p : PTile) (d : Fin 64) (a : Fin 64) (b : Fin 64)
  /-- Arithmetic shift right by source 2 bits [5:0] (03 R121). -/
  | sar (p : PTile) (d : Fin 64) (a : Fin 64) (b : Fin 64)
  /-- Signed minimum of two g registers (03 R120). -/
  | min (p : PTile) (d : Fin 64) (a : Fin 64) (b : Fin 64)
  /-- Signed maximum of two g registers (03 R120). -/
  | max (p : PTile) (d : Fin 64) (a : Fin 64) (b : Fin 64)
  /-- Writes 1 when the two sources are equal, otherwise 0 (03 R120). -/
  | cmpEq (p : PTile) (d : Fin 64) (a : Fin 64) (b : Fin 64)
  /-- Writes 1 when source 1 is signed-less than source 2 (03 R120). -/
  | cmpLt (p : PTile) (d : Fin 64) (a : Fin 64) (b : Fin 64)
  /-- Writes 1 when source 1 is unsigned-less than source 2 (03 R120). -/
  | cmpLtu (p : PTile) (d : Fin 64) (a : Fin 64) (b : Fin 64)
  /-- Signed absolute value of source 1 (03 R121). -/
  | abs (p : PTile) (d : Fin 64) (a : Fin 64)
  /-- Selects source 1 or source 2 by a condition g register (03 R121). -/
  | sel (p : PTile) (d : Fin 64) (a : Fin 64) (b : Fin 64) (c : Fin 64)
  /-- Clamps source 1 between the limits packed in source 2 (03 R120). -/
  | clamp (p : PTile) (d : Fin 64) (a : Fin 64) (b : Fin 64)
  /-- Four unsigned saturating byte sums (03 R120). -/
  | add4Bu (p : PTile) (d : Fin 64) (a : Fin 64) (b : Fin 64)
  /-- Four unsigned byte means, halves rounded up (03 R120). -/
  | avg4Bu (p : PTile) (d : Fin 64) (a : Fin 64) (b : Fin 64)
  /-- Sum of four absolute byte differences (03 R120). -/
  | sad4Bu (p : PTile) (d : Fin 64) (a : Fin 64) (b : Fin 64)
  /-- Add of a signed 14-bit immediate (03 R121). -/
  | addi (p : PTile) (d : Fin 64) (a : Fin 64) (imm : BitVec 14)
  /-- AND with a 14-bit immediate (03 R121). -/
  | andi (p : PTile) (d : Fin 64) (a : Fin 64) (imm : BitVec 14)
  /-- OR with a 14-bit immediate (03 R121). -/
  | ori (p : PTile) (d : Fin 64) (a : Fin 64) (imm : BitVec 14)
  /-- XOR with a 14-bit immediate (03 R121). -/
  | xori (p : PTile) (d : Fin 64) (a : Fin 64) (imm : BitVec 14)
  /-- Shift left by an immediate (03 R121). -/
  | shli (p : PTile) (d : Fin 64) (a : Fin 64) (imm : BitVec 14)
  /-- Logical shift right by an immediate (03 R121). -/
  | shri (p : PTile) (d : Fin 64) (a : Fin 64) (imm : BitVec 14)
  /-- Arithmetic shift right by an immediate (03 R121). -/
  | sari (p : PTile) (d : Fin 64) (a : Fin 64) (imm : BitVec 14)
  /-- Compares source 1 for equality with a sign-extended immediate (03 R121). -/
  | cmpiEq (p : PTile) (d : Fin 64) (a : Fin 64) (imm : BitVec 14)
  /-- Signed less-than compare of source 1 with an immediate (03 R121). -/
  | cmpiLt (p : PTile) (d : Fin 64) (a : Fin 64) (imm : BitVec 14)
  /-- Unsigned less-than compare of source 1 with an immediate (03 R121). -/
  | cmpiLtu (p : PTile) (d : Fin 64) (a : Fin 64) (imm : BitVec 14)
  /-- Writes a sign-extended 14-bit immediate to the destination (03 R121). -/
  | movi0 (p : PTile) (d : Fin 64) (imm : BitVec 14)
  /-- Replaces bits [27:14] of source 1 with the immediate (03 R121). -/
  | movi1 (p : PTile) (d : Fin 64) (a : Fin 64) (imm : BitVec 14)
  /-- Replaces bits [41:28] of source 1 with the immediate (03 R121). -/
  | movi2 (p : PTile) (d : Fin 64) (a : Fin 64) (imm : BitVec 14)
  /-- Replaces bits [55:42] of source 1 with the immediate (03 R121). -/
  | movi3 (p : PTile) (d : Fin 64) (a : Fin 64) (imm : BitVec 14)
  /-- Replaces bits [63:56] of source 1 with the immediate (03 R121). -/
  | movi4 (p : PTile) (d : Fin 64) (a : Fin 64) (imm : BitVec 14)
  /-- Loads a sign-extended byte from core memory (03 R120). -/
  | ldB (p : PTile) (port : Fin 2) (d : Fin 64) (a : Fin 8) (m : LMode)
  /-- Loads a zero-extended byte from core memory (03 R120). -/
  | ldBu (p : PTile) (port : Fin 2) (d : Fin 64) (a : Fin 8) (m : LMode)
  /-- Loads a sign-extended 16-bit value from core memory (03 R120). -/
  | ldH (p : PTile) (port : Fin 2) (d : Fin 64) (a : Fin 8) (m : LMode)
  /-- Loads a zero-extended 16-bit value from core memory (03 R120). -/
  | ldHu (p : PTile) (port : Fin 2) (d : Fin 64) (a : Fin 8) (m : LMode)
  /-- Loads a sign-extended 32-bit value from core memory (03 R120). -/
  | ldW (p : PTile) (port : Fin 2) (d : Fin 64) (a : Fin 8) (m : LMode)
  /-- Loads a zero-extended 32-bit value from core memory (03 R120). -/
  | ldWu (p : PTile) (port : Fin 2) (d : Fin 64) (a : Fin 8) (m : LMode)
  /-- Loads a 64-bit value from core memory (03 R120). -/
  | ldD (p : PTile) (port : Fin 2) (d : Fin 64) (a : Fin 8) (m : LMode)
  /-- Stores a byte to core memory (03 R94). -/
  | stB (p : PTile) (port : Fin 2) (d : Fin 64) (a : Fin 8) (m : LMode)
  /-- Stores 16 bits to core memory (03 R94). -/
  | stH (p : PTile) (port : Fin 2) (d : Fin 64) (a : Fin 8) (m : LMode)
  /-- Stores 32 bits to core memory (03 R94). -/
  | stW (p : PTile) (port : Fin 2) (d : Fin 64) (a : Fin 8) (m : LMode)
  /-- Stores 64 bits to core memory (03 R94). -/
  | stD (p : PTile) (port : Fin 2) (d : Fin 64) (a : Fin 8) (m : LMode)
  /-- Updates an address register by an increment without a memory access (03 R91). -/
  | aupd (p : PTile) (port : Fin 2) (a : Fin 8) (inc : BitVec 14)
  /-- Moves a g register to an a register (03 R121). -/
  | mva (p : PTile) (port : Fin 2) (d : Fin 64) (a : Fin 8)
  /-- Moves an a register to a g register (03 R121). -/
  | mvg (p : PTile) (port : Fin 2) (d : Fin 64) (a : Fin 8)
  /-- Low 64 bits of a signed 64 × 64 product (03 R100). -/
  | mul (p : PTile) (d : Fin 64) (a : Fin 64) (b : Fin 64)
  /-- High 64 bits of a signed 64 × 64 product (03 R100). -/
  | mulh (p : PTile) (d : Fin 64) (a : Fin 64) (b : Fin 64)
  /-- Rounded and saturated 16 × 16 fractional product (03 R100). -/
  | mulrH (p : PTile) (d : Fin 64) (a : Fin 64) (b : Fin 64)
  /-- Adds a 32 × 32 product to an accumulator (03 R96). -/
  | mac (p : PTile) (n : Fin 4) (a : Fin 64) (b : Fin 64) (sub : BitVec 2)
  /-- Subtracts a 32 × 32 product from an accumulator (03 R96). -/
  | msu (p : PTile) (n : Fin 4) (a : Fin 64) (b : Fin 64) (sub : BitVec 2)
  /-- Adds two 16 × 16 products to an accumulator (03 R96). -/
  | mac2H (p : PTile) (n : Fin 4) (a : Fin 64) (b : Fin 64) (sub : BitVec 2)
  /-- Adds four 8 × 8 products to an accumulator (03 R96). -/
  | mac4B (p : PTile) (n : Fin 4) (a : Fin 64) (b : Fin 64) (sub : BitVec 2)
  /-- Sets an accumulator to 0 (03 R99). -/
  | accClr (p : PTile) (n : Fin 4)
  /-- Loads a shifted, sign-extended g value into an accumulator (03 R99). -/
  | accLd (p : PTile) (n : Fin 4) (a : Fin 64) (shift : BitVec 6)
  /-- Moves an accumulator to a g register with shift, rounding and saturation (03 R98). -/
  | accMv (p : PTile) (d : Fin 64) (n : Fin 4) (shift : BitVec 6) (sub : BitVec 2)
  /-- Shifts an accumulator by a signed g value (03 R100). -/
  | accSh (p : PTile) (n : Fin 4) (a : Fin 64)
  /-- Counts the bits below bit 71 that equal bit 71 (03 R100). -/
  | norm (p : PTile) (d : Fin 64) (n : Fin 4)
  /-- Writes the block exponent 8 − norm (03 R100). -/
  | exp (p : PTile) (d : Fin 64) (n : Fin 4)
  /-- Writes the larger of the exponent and a g source (03 R100). -/
  | expmax (p : PTile) (d : Fin 64) (n : Fin 4) (b : Fin 64)
  /-- Relative branch with five delay bundles (03 R122). -/
  | br (p : PTile) (off : BitVec 20)
  /-- Branch taken when the condition register is 0 (03 R122). -/
  | brZ (p : PTile) (g : Fin 64) (off : BitVec 20)
  /-- Branch taken when the condition register is not 0 (03 R122). -/
  | brNz (p : PTile) (g : Fin 64) (off : BitVec 20)
  /-- Relative branch that writes the return address to g31 (03 R120). -/
  | call (p : PTile) (off : BitVec 20)
  /-- Branches to the address held in a g register (03 R120). -/
  | brR (p : PTile) (g : Fin 64)
  /-- Writes the count, start and end of a loop level and arms it (03 R101). -/
  | loopSet (p : PTile) (lvl : Fin 2) (g : Fin 64) (start : BitVec 10) (len : BitVec 9)
  /-- Restores a loop level's registers from saved values (03 R101). -/
  | loopRest (p : PTile) (lvl : Fin 2) (gc : Fin 64) (gs : Fin 64) (ge : Fin 64)
  /-- Disarms a loop level (03 R101). -/
  | loopClr (p : PTile) (lvl : Fin 2)
  /-- Writes a circular base and length pair, or faults CB_INVALID (03 R90). -/
  | cbSet (p : PTile) (n : Fin 8) (g : Fin 64)
  /-- Writes a control register that has no row of its own (03 R87). -/
  | mtc (p : PTile) (g : Fin 64) (n : BitVec 8)
  /-- Reads a control register into a g register (03 R87). -/
  | mfc (p : PTile) (d : Fin 64) (n : BitVec 8)
  /-- Writing 1 to INT_PENDING bits clears those pending interrupts (03 R86). -/
  | intPendingClear (p : PTile) (g : Fin 64)
  /-- Writing 1 to BELL_FROM bits clears the doorbells that have been served (03 R123). -/
  | bellFromClear (p : PTile) (g : Fin 64)
  /-- Decrements ROT_OFS by 1 modulo 32 for the next bundle (03 R85). -/
  | rot (p : PTile)
  /-- Opens or extends a non-interruptible region of n tile cycles (03 R112). -/
  | nint (p : PTile) (n : BitVec 9)
  /-- Holds issue, then copies the scalar state into the step shadow with the idempotent flag (03 R106). -/
  | mark (p : PTile) (f : Bool)
  /-- Hands a DMA descriptor from a v register to a channel and validates it (09 R282). -/
  | dmaStart (p : PTile) (c : Fin 8) (vs : Fin 32)
  /-- Hands a Sward array descriptor to the array, which validates it (05 R176). -/
  | arrStart (p : PTile) (vs : Fin 32)
  /-- Holds issue until the channel has no active and no pending descriptor (09 R297). -/
  | waitDma (p : PTile) (c : Fin 8)
  /-- Holds issue until a core-memory word equals the value in a g register (07 R245). -/
  | waitFlag (p : PTile) (g : Fin 64) (a : Fin 8)
  /-- A held wait finds its condition met, and issue resumes (03 R83). -/
  | waitRelease (p : PTile)
  /-- Reads gPTP time, or deterministic time in mode 1, into a g register (14 R446). -/
  | timeRd (p : PTile) (d : Fin 64)
  /-- Reads 64 true random bits, or the deterministic sequence in mode 1 (14 R447). -/
  | rng (p : PTile) (d : Fin 64)
  /-- Triggers a class-0 handler on the same tile (03 R115). -/
  | c0Trig (p : PTile) (h : Fin 8)
  /-- Rings the class-0 doorbell of another logical tile for a given handler (03 R115). -/
  | c0Bell (p : PTile) (l : Fin 64) (h : Fin 8)
  /-- Rings the class-1 doorbell of another logical tile (03 R123). -/
  | c1Bell (p : PTile) (l : Fin 64)
  /-- Sends a 64-byte alarm body to the alarm egress (03 R116). -/
  | emit (p : PTile) (a : Fin 8)
  /-- Ends the class-0 handler and switches back to the interrupted job (03 R117). -/
  | c0End (p : PTile)
  /-- Returns from an interrupt, restores loop arming and refetches from INT_PC (03 R110). -/
  | reti (p : PTile)
  /-- Lets in-flight scalar operations land, then ends the item (03 R120). -/
  | endItem (p : PTile)
  /-- Eight tile cycles after reti the held wait is reissued alone (03 R110). -/
  | waitReissue (p : PTile)
  /-- Eight tile cycles after reti the faulted vector operation is reissued from START (04 R159). -/
  | vectorReissue (p : PTile)
  /-- At a dispatch point with an enabled pending source, the core saves PC, cause and loop arming and enters the handler (03 R108). -/
  | interruptEntry (p : PTile)
  /-- A class-0 trigger reaches the tile's class-0 control 40 tile cycles after its source (02 R69). -/
  | class0TriggerDelivery (p : PTile)
  /-- At a class-0 dispatch point the tile switches to its banked context and starts the handler (02 R70). -/
  | class0Dispatch (p : PTile)
  /-- A handler that reaches 2,048 tile cycles is ended and reported with CLASS0_OVERRUN (03 R117). -/
  | class0Overrun (p : PTile)
  /-- A class-1 doorbell sets BELL_FROM and INT_PENDING bit 11 of the receiving tile (03 R123). -/
  | doorbellDelivery (p : PTile)
  /-- After a parity error following an idempotent mark, the core settles vector operations, restores the shadow and resumes (04 R163). -/
  | stepRerun (p : PTile)
  /-- Sets the element width and VL := min(gs, VLMAX) (04 R133). -/
  | setvl (p : PTile) (gd : Fin 64) (gs : Fin 64) (ew : Fin 4)
  /-- Unit-stride vector load (04 R148). -/
  | vload (p : PTile) (vd : Fin 32) (a : Fin 8) (upd : Bool) (vob : Bool) (masked : Bool)
  /-- Strided vector load (04 R148). -/
  | vloadS (p : PTile) (vd : Fin 32) (a : Fin 8) (g : Fin 64) (upd : Bool) (vob : Bool) (masked : Bool)
  /-- Indexed vector load (04 R148). -/
  | vgather (p : PTile) (vd : Fin 32) (a : Fin 8) (vs2 : Fin 32) (scale : Fin 4) (vob : Bool) (masked : Bool)
  /-- Structure load of two fields (04 R148). -/
  | vdeal2 (p : PTile) (vd : Fin 32) (a : Fin 8) (upd : Bool) (masked : Bool)
  /-- Structure load of three fields (04 R148). -/
  | vdeal3 (p : PTile) (vd : Fin 32) (a : Fin 8) (upd : Bool) (masked : Bool)
  /-- Structure load of four fields (04 R148). -/
  | vdeal4 (p : PTile) (vd : Fin 32) (a : Fin 8) (upd : Bool) (masked : Bool)
  /-- Unit-stride vector store (04 R148). -/
  | vstore (p : PTile) (vs : Fin 32) (a : Fin 8) (upd : Bool) (vob : Bool) (masked : Bool)
  /-- Strided vector store (04 R148). -/
  | vstoreS (p : PTile) (vs : Fin 32) (a : Fin 8) (g : Fin 64) (upd : Bool) (vob : Bool) (masked : Bool)
  /-- Indexed vector store (04 R148). -/
  | vscatter (p : PTile) (vs : Fin 32) (a : Fin 8) (vs2 : Fin 32) (scale : Fin 4) (vob : Bool) (masked : Bool)
  /-- Holds issue until every vector operation in flight has landed (04 R162). -/
  | vsettle (p : PTile)
  /-- Copies element gi of a vector to a g register (04 R164). -/
  | vpick (p : PTile) (gd : Fin 64) (vs2 : Fin 32) (gi : Fin 64)
  /-- Writes a g value into element gi of a vector (04 R164). -/
  | vplace (p : PTile) (vd : Fin 32) (gs : Fin 64) (gi : Fin 64)
  /-- Copies element 0 of a vector to a g register (04 R164). -/
  | vfirst (p : PTile) (gd : Fin 64) (vs2 : Fin 32)
  /-- Element integer add (04 R164). -/
  | eAdd (p : PTile) (vd : Fin 32) (src1 : Fin 32) (vs2 : Fin 32) (masked : Bool) (form : Fin 4)
  /-- Element integer subtract (04 R164). -/
  | eSub (p : PTile) (vd : Fin 32) (src1 : Fin 32) (vs2 : Fin 32) (masked : Bool) (form : Fin 4)
  /-- Element reverse subtract (04 R136). -/
  | eRsub (p : PTile) (vd : Fin 32) (src1 : Fin 32) (vs2 : Fin 32) (masked : Bool) (form : Fin 4)
  /-- Element AND (04 R164). -/
  | eAnd (p : PTile) (vd : Fin 32) (src1 : Fin 32) (vs2 : Fin 32) (masked : Bool) (form : Fin 4)
  /-- Element OR (04 R164). -/
  | eOr (p : PTile) (vd : Fin 32) (src1 : Fin 32) (vs2 : Fin 32) (masked : Bool) (form : Fin 4)
  /-- Element XOR (04 R164). -/
  | eXor (p : PTile) (vd : Fin 32) (src1 : Fin 32) (vs2 : Fin 32) (masked : Bool) (form : Fin 4)
  /-- Element shift left (04 R136). -/
  | eShl (p : PTile) (vd : Fin 32) (src1 : Fin 32) (vs2 : Fin 32) (masked : Bool) (form : Fin 4)
  /-- Element logical shift right (04 R136). -/
  | eShr (p : PTile) (vd : Fin 32) (src1 : Fin 32) (vs2 : Fin 32) (masked : Bool) (form : Fin 4)
  /-- Element arithmetic shift right (04 R136). -/
  | eSar (p : PTile) (vd : Fin 32) (src1 : Fin 32) (vs2 : Fin 32) (masked : Bool) (form : Fin 4)
  /-- Element signed minimum (04 R164). -/
  | eMin (p : PTile) (vd : Fin 32) (src1 : Fin 32) (vs2 : Fin 32) (masked : Bool) (form : Fin 4)
  /-- Element unsigned minimum (04 R164). -/
  | eMinu (p : PTile) (vd : Fin 32) (src1 : Fin 32) (vs2 : Fin 32) (masked : Bool) (form : Fin 4)
  /-- Element signed maximum (04 R164). -/
  | eMax (p : PTile) (vd : Fin 32) (src1 : Fin 32) (vs2 : Fin 32) (masked : Bool) (form : Fin 4)
  /-- Element unsigned maximum (04 R164). -/
  | eMaxu (p : PTile) (vd : Fin 32) (src1 : Fin 32) (vs2 : Fin 32) (masked : Bool) (form : Fin 4)
  /-- Element signed saturating add (04 R140). -/
  | eAdds (p : PTile) (vd : Fin 32) (src1 : Fin 32) (vs2 : Fin 32) (masked : Bool) (form : Fin 4)
  /-- Element unsigned saturating add (04 R140). -/
  | eAddsu (p : PTile) (vd : Fin 32) (src1 : Fin 32) (vs2 : Fin 32) (masked : Bool) (form : Fin 4)
  /-- Element signed saturating subtract (04 R140). -/
  | eSubs (p : PTile) (vd : Fin 32) (src1 : Fin 32) (vs2 : Fin 32) (masked : Bool) (form : Fin 4)
  /-- Element unsigned saturating subtract (04 R140). -/
  | eSubsu (p : PTile) (vd : Fin 32) (src1 : Fin 32) (vs2 : Fin 32) (masked : Bool) (form : Fin 4)
  /-- Element multiply, low half (04 R164). -/
  | eMul (p : PTile) (vd : Fin 32) (src1 : Fin 32) (vs2 : Fin 32) (masked : Bool) (form : Fin 4)
  /-- Element signed multiply, high half (04 R164). -/
  | eMulh (p : PTile) (vd : Fin 32) (src1 : Fin 32) (vs2 : Fin 32) (masked : Bool) (form : Fin 4)
  /-- Element unsigned multiply, high half (04 R164). -/
  | eMulhu (p : PTile) (vd : Fin 32) (src1 : Fin 32) (vs2 : Fin 32) (masked : Bool) (form : Fin 4)
  /-- Element multiply-accumulate into vd (04 R164). -/
  | eMla (p : PTile) (vd : Fin 32) (src1 : Fin 32) (vs2 : Fin 32) (masked : Bool) (form : Fin 4)
  /-- Element multiply-subtract from vd (04 R164). -/
  | eMls (p : PTile) (vd : Fin 32) (src1 : Fin 32) (vs2 : Fin 32) (masked : Bool) (form : Fin 4)
  /-- Widening signed add (04 R141). -/
  | wAdd (p : PTile) (vd : Fin 32) (src1 : Fin 32) (vs2 : Fin 32) (masked : Bool) (form : Fin 4)
  /-- Widening unsigned add (04 R141). -/
  | wAddu (p : PTile) (vd : Fin 32) (src1 : Fin 32) (vs2 : Fin 32) (masked : Bool) (form : Fin 4)
  /-- Widening signed subtract (04 R141). -/
  | wSub (p : PTile) (vd : Fin 32) (src1 : Fin 32) (vs2 : Fin 32) (masked : Bool) (form : Fin 4)
  /-- Widening unsigned subtract (04 R141). -/
  | wSubu (p : PTile) (vd : Fin 32) (src1 : Fin 32) (vs2 : Fin 32) (masked : Bool) (form : Fin 4)
  /-- Widening signed multiply (04 R141). -/
  | wMul (p : PTile) (vd : Fin 32) (src1 : Fin 32) (vs2 : Fin 32) (masked : Bool) (form : Fin 4)
  /-- Widening unsigned multiply (04 R141). -/
  | wMulu (p : PTile) (vd : Fin 32) (src1 : Fin 32) (vs2 : Fin 32) (masked : Bool) (form : Fin 4)
  /-- Widening signed-by-unsigned multiply (04 R141). -/
  | wMulsu (p : PTile) (vd : Fin 32) (src1 : Fin 32) (vs2 : Fin 32) (masked : Bool) (form : Fin 4)
  /-- Widening signed multiply-accumulate (04 R141). -/
  | wMla (p : PTile) (vd : Fin 32) (src1 : Fin 32) (vs2 : Fin 32) (masked : Bool) (form : Fin 4)
  /-- Widening unsigned multiply-accumulate (04 R141). -/
  | wMlau (p : PTile) (vd : Fin 32) (src1 : Fin 32) (vs2 : Fin 32) (masked : Bool) (form : Fin 4)
  /-- Narrowing logical shift right (04 R141). -/
  | nShr (p : PTile) (vd : Fin 32) (src1 : Fin 32) (vs2 : Fin 32) (masked : Bool) (form : Fin 4)
  /-- Narrowing arithmetic shift right (04 R141). -/
  | nSar (p : PTile) (vd : Fin 32) (src1 : Fin 32) (vs2 : Fin 32) (masked : Bool) (form : Fin 4)
  /-- Narrowing shift, convergent rounding and signed clip (04 R140). -/
  | nClip (p : PTile) (vd : Fin 32) (src1 : Fin 32) (vs2 : Fin 32) (masked : Bool) (form : Fin 4)
  /-- Narrowing shift, convergent rounding and unsigned clip (04 R140). -/
  | nClipu (p : PTile) (vd : Fin 32) (src1 : Fin 32) (vs2 : Fin 32) (masked : Bool) (form : Fin 4)
  /-- Four-byte dot product accumulate, both signed (04 R142). -/
  | vdot4Ss (p : PTile) (vd : Fin 32) (src1 : Fin 32) (vs2 : Fin 32) (masked : Bool) (form : Fin 4)
  /-- Four-byte dot product accumulate, both unsigned (04 R142). -/
  | vdot4Uu (p : PTile) (vd : Fin 32) (src1 : Fin 32) (vs2 : Fin 32) (masked : Bool) (form : Fin 4)
  /-- Four-byte dot product accumulate, signed by unsigned (04 R142). -/
  | vdot4Su (p : PTile) (vd : Fin 32) (src1 : Fin 32) (vs2 : Fin 32) (masked : Bool) (form : Fin 4)
  /-- Two-half dot product accumulate, both signed (04 R142). -/
  | vdot2Ss (p : PTile) (vd : Fin 32) (src1 : Fin 32) (vs2 : Fin 32) (masked : Bool) (form : Fin 4)
  /-- Two-half dot product accumulate, both unsigned (04 R142). -/
  | vdot2Uu (p : PTile) (vd : Fin 32) (src1 : Fin 32) (vs2 : Fin 32) (masked : Bool) (form : Fin 4)
  /-- Two-half dot product accumulate, signed by unsigned (04 R142). -/
  | vdot2Su (p : PTile) (vd : Fin 32) (src1 : Fin 32) (vs2 : Fin 32) (masked : Bool) (form : Fin 4)
  /-- Element equality compare into a mask (04 R164). -/
  | mEq (p : PTile) (vd : Fin 32) (src1 : Fin 32) (vs2 : Fin 32) (masked : Bool) (form : Fin 4)
  /-- Element inequality compare into a mask (04 R164). -/
  | mNe (p : PTile) (vd : Fin 32) (src1 : Fin 32) (vs2 : Fin 32) (masked : Bool) (form : Fin 4)
  /-- Element signed less-than into a mask (04 R164). -/
  | mLt (p : PTile) (vd : Fin 32) (src1 : Fin 32) (vs2 : Fin 32) (masked : Bool) (form : Fin 4)
  /-- Element unsigned less-than into a mask (04 R164). -/
  | mLtu (p : PTile) (vd : Fin 32) (src1 : Fin 32) (vs2 : Fin 32) (masked : Bool) (form : Fin 4)
  /-- Element signed less-or-equal into a mask (04 R164). -/
  | mLe (p : PTile) (vd : Fin 32) (src1 : Fin 32) (vs2 : Fin 32) (masked : Bool) (form : Fin 4)
  /-- Element unsigned less-or-equal into a mask (04 R164). -/
  | mLeu (p : PTile) (vd : Fin 32) (src1 : Fin 32) (vs2 : Fin 32) (masked : Bool) (form : Fin 4)
  /-- Selects src1 or vs2 per element by v0 (04 R164). -/
  | eBlend (p : PTile) (vd : Fin 32) (src1 : Fin 32) (vs2 : Fin 32) (masked : Bool) (form : Fin 4)
  /-- Fills every element with src1 (04 R164). -/
  | eFill (p : PTile) (vd : Fin 32) (src1 : Fin 32) (vs2 : Fin 32) (masked : Bool) (form : Fin 4)
  /-- Moves elements up by src1 positions (04 R164). -/
  | xUp (p : PTile) (vd : Fin 32) (src1 : Fin 32) (vs2 : Fin 32) (masked : Bool) (form : Fin 4)
  /-- Moves elements down by src1 positions (04 R164). -/
  | xDown (p : PTile) (vd : Fin 32) (src1 : Fin 32) (vs2 : Fin 32) (masked : Bool) (form : Fin 4)
  /-- Permutes elements by an index vector (04 R164). -/
  | xPerm (p : PTile) (vd : Fin 32) (src1 : Fin 32) (vs2 : Fin 32) (masked : Bool) (form : Fin 4)
  /-- Integer sum reduction (04 R164). -/
  | rSum (p : PTile) (vd : Fin 32) (src1 : Fin 32) (vs2 : Fin 32) (masked : Bool) (form : Fin 4)
  /-- Signed maximum reduction (04 R164). -/
  | rMax (p : PTile) (vd : Fin 32) (src1 : Fin 32) (vs2 : Fin 32) (masked : Bool) (form : Fin 4)
  /-- Unsigned maximum reduction (04 R164). -/
  | rMaxu (p : PTile) (vd : Fin 32) (src1 : Fin 32) (vs2 : Fin 32) (masked : Bool) (form : Fin 4)
  /-- Signed minimum reduction (04 R164). -/
  | rMin (p : PTile) (vd : Fin 32) (src1 : Fin 32) (vs2 : Fin 32) (masked : Bool) (form : Fin 4)
  /-- Unsigned minimum reduction (04 R164). -/
  | rMinu (p : PTile) (vd : Fin 32) (src1 : Fin 32) (vs2 : Fin 32) (masked : Bool) (form : Fin 4)
  /-- AND reduction (04 R164). -/
  | rAnd (p : PTile) (vd : Fin 32) (src1 : Fin 32) (vs2 : Fin 32) (masked : Bool) (form : Fin 4)
  /-- OR reduction (04 R164). -/
  | rOr (p : PTile) (vd : Fin 32) (src1 : Fin 32) (vs2 : Fin 32) (masked : Bool) (form : Fin 4)
  /-- XOR reduction (04 R164). -/
  | rXor (p : PTile) (vd : Fin 32) (src1 : Fin 32) (vs2 : Fin 32) (masked : Bool) (form : Fin 4)
  /-- Element floating-point add (04 R143). -/
  | efAdd (p : PTile) (vd : Fin 32) (src1 : Fin 32) (vs2 : Fin 32) (masked : Bool) (form : Fin 4)
  /-- Element floating-point subtract (04 R143). -/
  | efSub (p : PTile) (vd : Fin 32) (src1 : Fin 32) (vs2 : Fin 32) (masked : Bool) (form : Fin 4)
  /-- Element floating-point multiply (04 R143). -/
  | efMul (p : PTile) (vd : Fin 32) (src1 : Fin 32) (vs2 : Fin 32) (masked : Bool) (form : Fin 4)
  /-- Element fused multiply-add into vd (04 R143). -/
  | efMla (p : PTile) (vd : Fin 32) (src1 : Fin 32) (vs2 : Fin 32) (masked : Bool) (form : Fin 4)
  /-- Element negated fused multiply-add (04 R164). -/
  | efNmla (p : PTile) (vd : Fin 32) (src1 : Fin 32) (vs2 : Fin 32) (masked : Bool) (form : Fin 4)
  /-- Element fused multiply-subtract (04 R164). -/
  | efMls (p : PTile) (vd : Fin 32) (src1 : Fin 32) (vs2 : Fin 32) (masked : Bool) (form : Fin 4)
  /-- Element floating-point minimum (04 R143). -/
  | efMin (p : PTile) (vd : Fin 32) (src1 : Fin 32) (vs2 : Fin 32) (masked : Bool) (form : Fin 4)
  /-- Element floating-point maximum (04 R143). -/
  | efMax (p : PTile) (vd : Fin 32) (src1 : Fin 32) (vs2 : Fin 32) (masked : Bool) (form : Fin 4)
  /-- Magnitude of vs2 with the sign of src1 (04 R164). -/
  | efSgn (p : PTile) (vd : Fin 32) (src1 : Fin 32) (vs2 : Fin 32) (masked : Bool) (form : Fin 4)
  /-- Magnitude of vs2 with the inverse sign of src1 (04 R164). -/
  | efSgnn (p : PTile) (vd : Fin 32) (src1 : Fin 32) (vs2 : Fin 32) (masked : Bool) (form : Fin 4)
  /-- Magnitude of vs2 with the XOR of both signs (04 R164). -/
  | efSgnx (p : PTile) (vd : Fin 32) (src1 : Fin 32) (vs2 : Fin 32) (masked : Bool) (form : Fin 4)
  /-- Element floating-point divide (04 R164). -/
  | efDiv (p : PTile) (vd : Fin 32) (src1 : Fin 32) (vs2 : Fin 32) (masked : Bool) (form : Fin 4)
  /-- Element floating-point square root (04 R164). -/
  | efSqrt (p : PTile) (vd : Fin 32) (src1 : Fin 32) (vs2 : Fin 32) (masked : Bool) (form : Fin 4)
  /-- Floating-point equality compare into a mask (04 R164). -/
  | mFeq (p : PTile) (vd : Fin 32) (src1 : Fin 32) (vs2 : Fin 32) (masked : Bool) (form : Fin 4)
  /-- Floating-point less-than compare into a mask (04 R164). -/
  | mFlt (p : PTile) (vd : Fin 32) (src1 : Fin 32) (vs2 : Fin 32) (masked : Bool) (form : Fin 4)
  /-- Floating-point less-or-equal compare into a mask (04 R164). -/
  | mFle (p : PTile) (vd : Fin 32) (src1 : Fin 32) (vs2 : Fin 32) (masked : Bool) (form : Fin 4)
  /-- Converts signed integers to floating point (04 R164). -/
  | efCvtFi (p : PTile) (vd : Fin 32) (src1 : Fin 32) (vs2 : Fin 32) (masked : Bool) (form : Fin 4)
  /-- Converts unsigned integers to floating point (04 R164). -/
  | efCvtFu (p : PTile) (vd : Fin 32) (src1 : Fin 32) (vs2 : Fin 32) (masked : Bool) (form : Fin 4)
  /-- Converts floating point to signed integers with saturation (04 R143). -/
  | efCvtIf (p : PTile) (vd : Fin 32) (src1 : Fin 32) (vs2 : Fin 32) (masked : Bool) (form : Fin 4)
  /-- Converts floating point to unsigned integers with saturation (04 R143). -/
  | efCvtUf (p : PTile) (vd : Fin 32) (src1 : Fin 32) (vs2 : Fin 32) (masked : Bool) (form : Fin 4)
  /-- Widening floating-point conversion (04 R164). -/
  | wfCvt (p : PTile) (vd : Fin 32) (src1 : Fin 32) (vs2 : Fin 32) (masked : Bool) (form : Fin 4)
  /-- Widening multiply-add from BF16 to FP32 (04 R143). -/
  | wfMla (p : PTile) (vd : Fin 32) (src1 : Fin 32) (vs2 : Fin 32) (masked : Bool) (form : Fin 4)
  /-- Narrowing floating-point conversion (04 R164). -/
  | nfCvt (p : PTile) (vd : Fin 32) (src1 : Fin 32) (vs2 : Fin 32) (masked : Bool) (form : Fin 4)
  /-- Floating-point sum reduction in the canonical tree order (04 R144). -/
  | rfTree (p : PTile) (vd : Fin 32) (src1 : Fin 32) (vs2 : Fin 32) (masked : Bool) (form : Fin 4)
  /-- Floating-point sum reduction in element order (04 R144). -/
  | rfSeq (p : PTile) (vd : Fin 32) (src1 : Fin 32) (vs2 : Fin 32) (masked : Bool) (form : Fin 4)
  /-- Floating-point maximum reduction (04 R144). -/
  | rfMax (p : PTile) (vd : Fin 32) (src1 : Fin 32) (vs2 : Fin 32) (masked : Bool) (form : Fin 4)
  /-- Floating-point minimum reduction (04 R144). -/
  | rfMin (p : PTile) (vd : Fin 32) (src1 : Fin 32) (vs2 : Fin 32) (masked : Bool) (form : Fin 4)
  /-- Scalar floating-point add (04 R153). -/
  | fadd (p : PTile) (fd : Fin 32) (fs1 : Fin 32) (fs2 : Fin 32) (fs3 : Fin 32) (fmt64 : Bool)
  /-- Scalar floating-point subtract (04 R153). -/
  | fsub (p : PTile) (fd : Fin 32) (fs1 : Fin 32) (fs2 : Fin 32) (fs3 : Fin 32) (fmt64 : Bool)
  /-- Scalar floating-point multiply (04 R153). -/
  | fmul (p : PTile) (fd : Fin 32) (fs1 : Fin 32) (fs2 : Fin 32) (fs3 : Fin 32) (fmt64 : Bool)
  /-- Scalar fused multiply-add (04 R153). -/
  | fma (p : PTile) (fd : Fin 32) (fs1 : Fin 32) (fs2 : Fin 32) (fs3 : Fin 32) (fmt64 : Bool)
  /-- Scalar floating-point minimum (04 R143). -/
  | fmin (p : PTile) (fd : Fin 32) (fs1 : Fin 32) (fs2 : Fin 32) (fs3 : Fin 32) (fmt64 : Bool)
  /-- Scalar floating-point maximum (04 R143). -/
  | fmax (p : PTile) (fd : Fin 32) (fs1 : Fin 32) (fs2 : Fin 32) (fs3 : Fin 32) (fmt64 : Bool)
  /-- Scalar floating-point divide (04 R153). -/
  | fdiv (p : PTile) (fd : Fin 32) (fs1 : Fin 32) (fs2 : Fin 32) (fs3 : Fin 32) (fmt64 : Bool)
  /-- Scalar floating-point square root (04 R153). -/
  | fsqrt (p : PTile) (fd : Fin 32) (fs1 : Fin 32) (fs2 : Fin 32) (fs3 : Fin 32) (fmt64 : Bool)
  /-- Copies an f register to a g register (04 R164). -/
  | fget (p : PTile) (g : Fin 64) (f : Fin 32)
  /-- Copies a g register to an f register (04 R164). -/
  | fput (p : PTile) (g : Fin 64) (f : Fin 32)
  /-- Converts an f value to an integer in g (04 R164). -/
  | fcvtGf (p : PTile) (g : Fin 64) (f : Fin 32)
  /-- Converts an integer in g to an f value (04 R164). -/
  | fcvtFg (p : PTile) (g : Fin 64) (f : Fin 32)
  /-- A span of a descriptor begins its entry cycles, and its shadow weights and grid become active (05 R182). -/
  | arraySpanStart (p : PTile)
  /-- A column sum lands in its accumulator 14 tile cycles after the entry (05 R182). -/
  | arrayAccUpdate (p : PTile)
  /-- The drain reads one position of accumulators per tile cycle (05 R183). -/
  | arrayDrainRead (p : PTile) (n : Fin 2)
  /-- A drained output is rescaled, converted and written 10 tile cycles after its read (05 R185). -/
  | arrayDrainWrite (p : PTile)
  /-- ARR_STATUS and ARR_DIGEST of a descriptor are written, and source 10 is raised when IRQ is set (05 R183). -/
  | arrayComplete (p : PTile)
  /-- A KIND 1 descriptor reads and checks its box list (07 R237). -/
  | arrayBoxListRead (p : PTile)
  /-- A crop-and-resize output is written 10 tile cycles after the last read of its neighbours (07 R240). -/
  | cropOutputWrite (p : PTile)
  /-- A validated descriptor becomes active at t + 5, or after the active descriptor completes (09 R283). -/
  | dmaDescActivate (p : PTile) (c : Fin 8)
  /-- A channel is granted a port and reads one source burst into staging (09 R287). -/
  | dmaBurstRead (p : PTile) (c : Fin 8)
  /-- A burst read delivers its data into staging after the endpoint latency (09 R281). -/
  | dmaReadDeliver (p : PTile) (c : Fin 8)
  /-- A channel writes one access unit from staging to its destination in pattern order (09 R287). -/
  | dmaBurstWrite (p : PTile) (c : Fin 8)
  /-- A descriptor completes; status and residue are written and the interrupt is raised when IRQ is set (09 R300). -/
  | dmaDescComplete (p : PTile) (c : Fin 8)
  /-- A write to DMA_ABORT aborts the named channels and discards their pending descriptors (09 R301). -/
  | dmaAbort (p : PTile) (g : Fin 64)
  /-- After its last granted write an aborted channel writes ABORTED status and raises its interrupt (09 R301). -/
  | dmaAbortComplete (p : PTile) (c : Fin 8)
  /-- Once every channel's writes have landed, STOPPED and ERR_CH are set and source 8 is raised (09 R302). -/
  | dmaEngineStopComplete (p : PTile)
  /-- Writing 1 to DMA_ENGINE.STOPPED re-enables the engine after recovery (09 R303). -/
  | dmaEngineClear (p : PTile) (g : Fin 64)
  /-- An mtc of a queue number to QCROSS removes it from the crossing set (09 R313). -/
  | qcrossRemove (p : PTile) (g : Fin 64)
  /-- In each tile cycle the queue engine performs one chip-side and one tile-side cell operation (09 R311). -/
  | queueSlot
  /-- The per-tick comparison of both pointer-store copies ends (09 R316). -/
  | pointerSweepComplete
  /-- A memory-side fill or copy reports done after its last slot (08 R258). -/
  | memEngineDone (p : PTile) (c : Fin 8)
  /-- The merged granule of a partial HBM write is written back in a later slot (08 R254). -/
  | hbmPartialWriteback (granule : Nat)
  /-- A pseudo-channel is refreshed for 140 tile cycles and its patrol reads one granule (08 R271). -/
  | hbmRefreshSlot (c : Fin 32)
  /-- The stack temperature crosses 85 °C and refresh doubling changes at the next boundary (08 R272). -/
  | hbmTempChange (degrees : Int)
  /-- A row due for repair is copied to a spare row in system cycles (08 R276). -/
  | hbmSoftRemap (row : Nat)
  /-- After MEADOW_PARITY in an image region the system controller rewrites the slot from its HBM source (08 R263). -/
  | meadowRefill (slot : Nat)
  /-- The scrub fill of a stopped item's tile memories ends after 16,384 tile cycles (08 R268). -/
  | scrubEnd (p : PTile)
  /-- A frame that passes MAC, MACsec, VLAN, Qci and IP checks is matched to a context and depacketised (01 R26). -/
  | rtpPacketReceive (e : Fin 2) (f : InFrame)
  /-- The part sends an unsolicited IGMPv3 or MLDv2 report in the tile cycle after the enabling boundary (10 R324). -/
  | multicastJoin (e : Fin 2) (c : BitVec 10)
  /-- The join report is repeated once 1 s later (10 R324). -/
  | multicastJoinRepeat (e : Fin 2) (c : BitVec 10)
  /-- A membership query is answered as RFC 3376 and RFC 3810 provide (10 R324). -/
  | igmpQuery (e : Fin 2) (h : L2Head) (group : List (BitVec 8))
  /-- An ARP request to the port's address is answered (11 R346). -/
  | arpRequest (e : Fin 2) (h : L2Head) (mac : List (BitVec 8)) (ip : List (BitVec 8)) (target : List (BitVec 8))
  /-- A Neighbor Discovery solicitation is answered (11 R346). -/
  | neighborSolicitation (e : Fin 2) (h : L2Head) (src : List (BitVec 8)) (target : List (BitVec 8))
  /-- An ICMP echo request is answered (11 R346). -/
  | icmpEchoRequest (e : Fin 2) (h : L2Head) (src : List (BitVec 8)) (dst : List (BitVec 8)) (data : List (BitVec 8))
  /-- PAUSE, PFC, TCP, fragments, oversize and other frames are dropped and counted (11 R346). -/
  | frameDrop (e : Fin 2) (h : L2Head) (kind : DropKind)
  /-- A free decode engine unlinks the earliest eligible unit and starts decoding it (10 R332). -/
  | decodeUnitTake
  /-- A decode engine finishes a unit and writes its planes, and pictures complete in output order (10 R333). -/
  | decodeUnitDone (g : Fin 9)
  /-- An engine that fails its self-check abandons its unit, and the spare takes its place (10 R335). -/
  | decodeEngineFault (g : Fin 9)
  /-- A port's link comes up or goes down (11 R344). -/
  | portLinkChange (e : Fin 2) (up : Bool) (phy : BitVec 32) (fec : Bool)
  /-- The port sends an 802.3br verify frame, up to three times 10 ms apart after link-up (11 R352). -/
  | preemptVerify (e : Fin 2)
  /-- A verify response from the partner makes preemption ACTIVE (11 R352). -/
  | preemptVerifyResponse (e : Fin 2)
  /-- The gate control list moves to its next entry when the interval ends (11 R349). -/
  | gclEntryAdvance (e : Fin 2)
  /-- A committed gate list becomes operational at the first cycle start after its boundary (11 R350). -/
  | gclListSwitch (e : Fin 2)
  /-- A listener's recovery state resets after RESET_MS without a frame (11 R359). -/
  | frerRecoveryReset (stream : BitVec 8)
  /-- An MKA frame is processed by the key agreement, which may distribute a new SAK (11 R362). -/
  | mkpduReceive (e : Fin 2) (sci : BitVec 64) (prio : BitVec 8) (ok : Bool) (sak : Bool)
  /-- MKA sends its periodic hello every 2 s (11 R362). -/
  | mkaHello (e : Fin 2)
  /-- A peer unheard for 6 s leaves the MKA session (11 R362). -/
  | mkaLifeExpire (e : Fin 2)
  /-- A gPTP sync message updates the servo's estimate of the time base (11 R364). -/
  | ptpSyncReceive (e : Fin 2) (h : L2Head) (master : BitVec 64)
  /-- A gPTP announce message is processed for grandmaster selection (11 R364). -/
  | ptpAnnounceReceive (e : Fin 2) (h : L2Head) (gm : List (BitVec 8)) (prio : BitVec 64)
  /-- Every 1 s the port sends a peer delay request (11 R364). -/
  | ptpPdelayTimer (e : Fin 2)
  /-- A peer delay request is answered with timestamped responses (11 R364). -/
  | ptpPdelayReqReceive (e : Fin 2) (h : L2Head) (seq : BitVec 16)
  /-- A peer delay response updates the measured path delay (11 R364). -/
  | ptpPdelayRespReceive (e : Fin 2) (h : L2Head) (seq : BitVec 16) (turn : BitVec 64)
  /-- On loss of sync the part moves to the other port or enters holdover (11 R366). -/
  | ptpSyncTimeout (e : Fin 2)
  /-- An emitted alarm reaches the egress, is framed with its header and sent on each port, and pulses the pins (11 R367). -/
  | alarmEgress
  /-- The alarm pins return to their inactive level when the pulse width has passed (11 R369). -/
  | alarmPulseEnd
  /-- The result egress reads a message from queue 1,032, fills its fields, sends it as datagrams and keeps it in the ring (11 R370). -/
  | resultEgressSend
  /-- The record set of a tick closes, its Merkle root is formed and seal signing starts (14 R462). -/
  | recordSetClose
  /-- The enclave finishes the seal signature, and the seal enters queue 1,032 (14 R465). -/
  | onyxSealSigned
  /-- The save digest over the carried regions is complete and published (14 R452). -/
  | saveDigestComplete
  /-- The recomputed save digest is compared, and the plan resumes or DET_SAVE_MISMATCH is raised (14 R453). -/
  | resumeVerifyComplete
  /-- A clear HELLO opens a handshake, and the part answers with a signed CHALLENGE (12 R387). -/
  | hello (e : Fin 2) (f : InFrame)
  /-- The host's signature is verified and the session opens with ACCEPT, or the handshake is discarded (12 R390). -/
  | proof (e : Fin 2) (f : InFrame) (num : BitVec 16) (ok : Bool) (sig : List (BitVec 8))
  /-- An open handshake is discarded 2 s after its CHALLENGE (12 R388). -/
  | handshakeExpire (num : BitVec 16)
  /-- Reads the entries' values at a single instant, or staged values with STAGED (12 R395). -/
  | alaustRead (m : AMsg) (entries : List AEntry)
  /-- Executes write entries in order, each with its own code (12 R395). -/
  | alaustWrite (m : AMsg) (entries : List AEntry)
  /-- Commits the session's stage as one group for the next boundary or a tick target (12 R380). -/
  | alaustCommit (m : AMsg) (target : BitVec 64)
  /-- A write of commit.request commits the writer's stage (12 R380). -/
  | commitRequest (num : Option (BitVec 16)) (target : BitVec 64)
  /-- Validation and journaling of a commit group end; the group is accepted for its boundary or rejected whole (12 R380). -/
  | commitValidationEnd
  /-- Empties the session's stage (12 R379). -/
  | alaustDiscard (m : AMsg)
  /-- A write of TRUE to commit.discard empties the writer's stage (12 R379). -/
  | commitDiscard (num : Option (BitVec 16))
  /-- Opens a bulk upload or result download transfer (12 R397). -/
  | bulkOpen (m : AMsg) (target : BitVec 8) (flags : BitVec 8) (reserved : BitVec 16) (length : BitVec 64) (first : BitVec 64) (digest : List (BitVec 8))
  /-- Carries one 1,280-byte segment of a transfer (12 R398). -/
  | bulkData (m : AMsg) (head : BitVec 32) (seg : BitVec 32) (bytes : List (BitVec 8))
  /-- Acknowledges received segments and moves the sender's window (12 R398). -/
  | bulkAck (m : AMsg) (id : BitVec 16) (next : BitVec 32) (map : BitVec 64)
  /-- The receiver acks 5 ms after the last segment not yet acked (12 R398). -/
  | bulkAckTimer (id : BitVec 16)
  /-- A segment unacked for 20 ms is sent again (12 R398). -/
  | bulkResendTimer (id : BitVec 16) (seg : BitVec 32)
  /-- The uploader closes a transfer; length and digest are checked and verification begins (12 R399). -/
  | bulkClose (m : AMsg) (id : BitVec 16)
  /-- Content verification ends, and the reply is sent; a verified package may be stored (12 R399). -/
  | bulkVerifyDone (id : BitVec 16)
  /-- A transfer without progress for 10 s aborts (12 R400). -/
  | bulkTimeout (id : BitVec 16)
  /-- A notification record is written to the ring and sent to every established session (12 R401). -/
  | notify
  /-- An unacknowledged notification is sent again every 100 ms, at most 8 times (12 R401). -/
  | notifyResend (num : BitVec 16) (nseq : BitVec 64)
  /-- The host acknowledges a notification number (12 R401). -/
  | notifyAck (m : AMsg) (nseq : BitVec 64)
  /-- The host keeps its session alive (12 R394). -/
  | keepalive (m : AMsg)
  /-- Either side ends a session; bulk transfers abort and the stage is discarded (12 R392). -/
  | alaustEnd (num : BitVec 16) (host : Option AMsg)
  /-- A session without a host datagram for idle_timeout ends (12 R392). -/
  | sessionIdleTimeout (num : BitVec 16)
  /-- An I2C READ command reads an object of the subset (12 R403). -/
  | i2cRead (pec : Bool) (index : BitVec 16) (sub : BitVec 8) (offset : BitVec 16) (length : BitVec 8)
  /-- An I2C WRITE command writes or stages an object of the subset (12 R403). -/
  | i2cWrite (pec : Bool) (index : BitVec 16) (sub : BitVec 8) (offset : BitVec 16) (data : List (BitVec 8))
  /-- The host reads the status, length, data and PEC of the last command (12 R403). -/
  | i2cResponse
  /-- A write of macsec.cak hands the key to the enclave for the next commit (11 R362). -/
  | macsecCakWrite (e : Fin 2) (key : List (BitVec 8))
  /-- A read of test.data returns the bytes at test.addr and marks parity or ECC failures (12 R407). -/
  | testDataRead (offset : BitVec 16) (length : BitVec 16)
  /-- A write of test.data stores the bytes at test.addr with good parity or ECC (12 R407). -/
  | testDataWrite (offset : BitVec 16) (bytes : List (BitVec 8))
  /-- Inverts one stored bit without changing its parity or ECC (12 R407). -/
  | testInject (v : BitVec 64)
  /-- Releases FAULT_N when no dangerous condition remains (15 R489). -/
  | faultClear (on : Bool)
  /-- Makes the system controller trigger a class-0 handler on a logical tile (15 R491). -/
  | faultTestAlarm (v : BitVec 16)
  /-- Requests a life-cycle transition, carried out at the next boundary (16 R522). -/
  | lcTransition (state : BitVec 8) (debug : Bool)
  /-- Raises PKG_SVN by blowing fuses (16 R533). -/
  | lcPkgSvnRaise (v : BitVec 8)
  /-- Removes a stored package from the model store (16 R523). -/
  | keepModelDelete (digest : List (BitVec 8))
  /-- Schedules a switch to the staged firmware image at a boundary (16 R529). -/
  | firmwareSwitch (target : BitVec 64)
  /-- Starts a power-fail commit followed by a reset (17 R552). -/
  | resetRequest (v : BitVec 8)
  /-- A WRITE frame is written into the window's memory, or forwarded, and a reply is made (13 R429). -/
  | berylWriteFrame (n : Fin 4) (h : BLinkHead) (a : BAddr) (last : Bool) (offset : BitVec 32) (tag : BitVec 9) (payload : List (BitVec 8))
  /-- An IDLE frame delivers acknowledgements, link credits and a reply (13 R414). -/
  | berylIdleFrame (n : Fin 4) (h : BLinkHead)
  /-- A frame with a bad CRC is discarded and LINK_ACK is held to request a replay (13 R417). -/
  | berylBadFrame (n : Fin 4)
  /-- A TICK frame lets a following part place its boundary and take the tick number (13 R435). -/
  | berylTickFrame (n : Fin 4) (h : BLinkHead) (a : BAddr) (tick : BitVec 64) (period : BitVec 64) (hops : BitVec 8)
  /-- A GRANT enters a window with its credits into the source's credit table, or is refused (13 R426). -/
  | windowGrant (n : Fin 4) (h : BLinkHead) (a : BAddr) (offset : BitVec 32) (size : BitVec 32) (credits : BitVec 16)
  /-- A CLOSE notice stops the issue of new credits at the source (13 R433). -/
  | windowCloseNotice (n : Fin 4) (h : BLinkHead) (a : BAddr)
  /-- A FINAL notice removes the window, and channels waiting on it stop with WINDOW_CLOSED (13 R433). -/
  | windowFinalNotice (n : Fin 4) (h : BLinkHead) (a : BAddr)
  /-- In each frame slot a port sends from the first non-empty source in the fixed order (13 R422). -/
  | berylEgressSlot (n : Fin 4)
  /-- A port finishes training and enters UP, or DOWN on a self-loop or id conflict (13 R419). -/
  | linkTrainingDone (n : Fin 4) (peer : BitVec 8) (delay : BitVec 32) (loop_ : Bool)
  /-- Retraining that does not end within down_limit puts the port DOWN (13 R418). -/
  | berylDownLimit (n : Fin 4)
  /-- A lane with threshold parity errors in one second moves to the spare lane (13 R413). -/
  | berylLaneSpare (n : Fin 4)
  /-- LSIN power below +13 dBm for 10 µs puts every enabled port DOWN (13 R412). -/
  | lsinLoss
  /-- LSIN power held at +15 dBm for 1 ms restarts training (13 R412). -/
  | lsinRestore
  /-- Each second a region's spare takes the id of the tile with the oldest BIST, which enters BIST (15 R484). -/
  | bistRotation (r : Fin 8)
  /-- BIST ends: the tile becomes a SPARE on a pass, or RETIRED on a fail (15 R484). -/
  | bistEnd (p : PTile) (pass : Bool)
  /-- A region clock or supply monitor trips, raising job faults on the region's attempts (15 R482). -/
  | regionMonitorTrip (r : Fin 8) (supply : Bool) (long : Bool)
  /-- A failed health test moves the enclave to the spare generator or raises TRNG_FAIL (15 R483). -/
  | trngHealthFail (g : Bool)
  /-- A lockstep mismatch of the system controller raises the code and restarts the controller (15 R490). -/
  | controllerLockstep
  /-- The restarted system controller serves again (15 R490). -/
  | controllerRestartDone
  /-- Each second the enclave runs known-answer self-tests and resets and retests on failure (15 R490). -/
  | enclaveSelftest (pass : Bool) (retest : Bool)
  /-- The slots are journaled and a CP_COMMIT record completes the checkpoint (16 R513). -/
  | checkpointCommit
  /-- Code images, image regions and carried regions of a new plan finish loading, and the plan runs from the next boundary (16 R528). -/
  | planActivationLoad
  /-- Both image areas are rewritten, the FIRMWARE record is journaled and SVN fuses are blown (16 R529). -/
  | firmwareRewriteDone
  /-- PWR_FAIL_N falls, and the part times the low level (16 R507). -/
  | pwrFailNFall
  /-- PWR_FAIL_N low for 1 µs starts the power-fail commit (16 R508). -/
  | pwrFailAccept
  /-- The power-fail record verifies, and the part holds with only the always-on domain (16 R508). -/
  | powerFailCommitEnd
  /-- PWR_FAIL_N high for 10 ms after the commit resets the part (16 R510). -/
  | pwrFailNReturn
  /-- PORST_N low for at least 10 µs resets the whole part (17 R552). -/
  | porstNLow
  /-- PORST_N rises; straps are sampled and start-up begins (17 R555). -/
  | porstNRise (bootMode : BitVec 2) (addr : BitVec 3)
  /-- OTP is sensed, the life-cycle state is known and the core PLLs lock (17 R555). -/
  | fusesSensed
  /-- The HBM domain reaches Run with the lane map applied (17 R555). -/
  | hbmTrained
  /-- The firmware image is read into the start area and its verification begins (17 R555). -/
  | imageReadDone
  /-- Image verification ends and firmware runs, or recovery starts (16 R519). -/
  | imageVerified
  /-- Controller and enclave self-tests pass and keys are released (17 R555). -/
  | firmwareSelftestDone
  /-- The journal is replayed, counters resume and the wipe begins (16 R531). -/
  | journalReplayDone (dead : List Nat)
  /-- The memory wipe at start or at a life-cycle change ends (08 R269). -/
  | wipeDone
  /-- BIST and decode self-checks end, and FAULT_N is released when every condition holds (17 R556). -/
  | selfTestDone (tiles : List PTile) (engines : List (Fin 9))
  /-- Without lock after restart_lock_wait, boundaries start from the local clock in HOLDOVER (16 R531). -/
  | restartLockWait
  /-- The boot ROM multicasts a recovery REQUEST every 1 s (16 R530). -/
  | recoveryRequest (e : Fin 2)
  /-- The first host OFFER starts reading the image (16 R530). -/
  | recoveryOffer (e : Fin 2) (host : List (BitVec 8)) (length : BitVec 64) (digest : List (BitVec 8))
  /-- Image bytes from the host are stored and the next READ is sent (16 R530). -/
  | recoveryData (e : Fin 2) (host : List (BitVec 8)) (offset : BitVec 64) (bytes : List (BitVec 8))
  /-- An unanswered READ is repeated after 20 ms, and after 8 repeats the boot ROM returns to REQUEST (16 R530). -/
  | recoveryReadRepeat
  /-- Loading EXTEST stops service as a power-fail commit does and asserts FAULT_N (16 R521). -/
  | extestLoad
  /-- The part samples rail power every 10 µs for the 1 ms average (17 R542). -/
  | powerMeasure (mw : BitVec 32) (junction : Int) (rails : List (BitVec 16))
  /-- Each millisecond the throttle level moves up or down by the cap rule (17 R542). -/
  | throttleUpdate
  /-- A sensor at 105 °C for 1 ms raises THERMAL_LIMIT (17 R544). -/
  | thermalLimit (degrees : Int)
  /-- At 115 °C the part performs the power-fail commit and enters HELD (17 R544). -/
  | thermalTrip (degrees : Int)
  /-- A rail outside its window for 1 µs raises SUPPLY_RANGE (17 R546). -/
  | supplyRange (rail : Fin 12) (mv : BitVec 16)
  /-- VDD_CORE, VDD_IO or VDD_AON outside its window for 100 µs starts the power-fail commit (17 R546). -/
  | supplyFail (rail : Fin 12)
  /-- A PLL loses lock; a core PLL is replaced without a glitch, or PLL_FAIL is raised (17 R549). -/
  | pllLockLoss (pll : Fin 9)
  /-- A missing reference clock raises REFCLK_LOSS, and the PLLs hold their frequency (17 R550). -/
  | refclkLoss (eth : Bool)
  /-- After REFCLK_25 has run for 10 ms the PLLs relock by slewing (17 R550). -/
  | refclkReturn
  /-- Every 250 tile cycles the head of the wake-up queue is admitted and ramps to Run (17 R540). -/
  | wakeAdmissionSlot
  /-- A woken domain reaches Run at the end of its exit time (17 R536). -/
  | domainInRun (d : Fin 93)
  /-- A pending lowering request takes effect once the tile is idle (17 R537). -/
  | tileLower (p : PTile)
  /-- PPS_OUT rises at each whole second of the time base estimate (18 R571). -/
  | ppsOutSecond
  /-- A rising edge of PPS_IN is timestamped against the time base (18 R571). -/
  | ppsInEdge
  /-- PPS_OUT falls 100 ms after each rising edge (18 R570). -/
  | ppsOutEnd
  /-- After tick.tick_in_loss expected TICK frames in a row are missing, a part following Beryl ticks enters HOLDOVER (13 R436). -/
  | tickFrameLoss
  /-- ETH_REFCLK returns and both Ethernet ports, held down since its loss, come back (17 R550). -/
  | ethRefclkReturn
  /-- The start self-check of a newly switched firmware image ends, and the image either enters REWRITING or yields to the old image with FIRMWARE_INVALID (16 R529). -/
  | firmwareSelfCheckDone (pass : Bool)
  /-- The last 64 KiB block of a PERSIST package verifies in the model store, and its PACKAGE_DIR record is journaled (16 R523). -/
  | packageDirJournal (digest : List (BitVec 8))
  deriving DecidableEq, Repr

end Sys2Proof
end

