-- ==== Sys2Proof/Decode.lean ====
section
/-! DEFINITION. The commands that a word of spec/opcode_table.json spells. The table gives no row any bits, so no word spells a command; the encodings of a bundle's slots (03 R121, R122; 04 R136 to R139) are read in Machine/Bundle.lean and Machine/Vector.lean. -/

namespace Sys2Proof

/-- The command of a table word: none, since no row of the table has bits. -/
def decodeTableWord (nbits w : Nat) : Option Instr :=
  match nbits, w with
  | _, _ => none

end Sys2Proof
end

