-- ==== Sys2Proof/Config.lean ====
section
/-! DEFINITION. What one part fixes and the spec leaves open: the free values, constants without a body. -/

namespace Sys2Proof

/-- Whether tininess is detected before rounding; 04 R143 cites IEEE 754-2019, which leaves it to the implementation. -/
opaque Config.tinyBeforeRounding : Bool

/-- Whether a fused multiply-add of 0 and infinity signals invalid when its addend is a quiet NaN; IEEE 754-2019 leaves it open (04 R143). -/
opaque Config.fmaNanInvalid : Bool

/-- The n-th free value of the run that holds one 64-bit value; the step supplies n from the state's counter. -/
opaque Config.freeWord : Nat → BitVec 64

/-- The job id of a class-0 handler's alarm records, by logical tile and handler number: 14 R458 names it, and no record of the plan holds it (notes/assumptions/18.md). -/
opaque Config.handlerJob : Nat → Nat → BitVec 16

/-- abs of the most negative 64-bit number: 03 R120 states no result for it (notes/assumptions/19.md). -/
opaque Config.absOfMin : BitVec 64

/-- What x.up (TRUE) and x.down leave in an element that no element moves into: 04 R164 states no value, and gives the same bits for the same inputs. By the width, the amount, vs2, the present vd and the element (notes/assumptions/20.md). -/
opaque Config.vacated : Bool → Nat → Nat → BitVec 2048 → BitVec 2048 → Nat → BitVec 64

/-- What the system controller's vector unit loads of an element whose ECC word no longer corrects: 08 R248 gives controller memory ECC and no rule says what a load of an uncorrectable word delivers. By the byte and the tile cycle (notes/assumptions/46.md). -/
opaque Config.ctrlUncorrected : Nat → Nat → Nat

/-- CODE of the notification of a change of tick.lock_state: 02 R52 raises it and 15 R471 lists no code for it (notes/assumptions/24.md). -/
opaque Config.lockCode : BitVec 16

/-- The fields of the active sequence parameter set of a unit that 10 R330 and R331 name. -/
structure SeqParams where
  /-- profile_idc, or general_profile_idc -/
  profile : Nat
  /-- H.265: profiles whose general_profile_compatibility_flag is 1 -/
  compatible : List Nat
  /-- H.264: constraint_set1_flag -/
  constraint1 : Bool
  /-- level_idc, or general_level_idc -/
  level : Nat
  /-- chroma_format_idc -/
  chromaFormat : Nat
  /-- luma bit depth -/
  depthLuma : Nat
  /-- chroma bit depth -/
  depthChroma : Nat
  /-- H.264: frame_mbs_only_flag -/
  frameMbsOnly : Bool
  /-- H.265: field_seq_flag -/
  fieldSeq : Bool
  /-- H.265: a range extension -/
  rangeExt : Bool
  /-- H.265: sps_max_dec_pic_buffering_minus1; H.264: max_dec_frame_buffering -/
  buffering : Nat
  /-- coded width -/
  codedWidth : Nat
  /-- coded height -/
  codedHeight : Nat
  /-- luma columns left of the conformance or cropping window -/
  left : Nat
  /-- luma columns right of it -/
  right : Nat
  /-- luma rows above it -/
  top : Nat
  /-- luma rows below it -/
  bottom : Nat
  deriving DecidableEq, Repr, Inhabited

/-- Width of the window. -/
def SeqParams.width (x : SeqParams) : Nat := x.codedWidth - x.left - x.right
/-- Height of the window. -/
def SeqParams.height (x : SeqParams) : Nat := x.codedHeight - x.top - x.bottom
/-- Samples of 10 bits (10 R330, R336). -/
def SeqParams.tenBit (x : SeqParams) : Bool := x.depthLuma = 10
/-- Monochrome (10 R336). -/
def SeqParams.mono (x : SeqParams) : Bool := x.chromaFormat = 0

/-- What the decoding process of the standard makes of one access unit (10 R330 to R339). -/
structure Decoded where
  /-- a syntax or semantic violation, an entropy decoding overrun or a missing reference (10 R339) -/
  error : Bool
  /-- the active sequence parameter set -/
  sps : SeqParams
  /-- luma samples at the coded size, row by row, as bytes -/
  y : List Byte
  /-- Cb samples -/
  cb : List Byte
  /-- Cr samples -/
  cr : List Byte
  /-- AU_SEQ of the pictures that the output process releases with this unit, in output order -/
  outputs : List Nat
  /-- AU_SEQ of the pictures that are references after this unit -/
  refs : List Nat
  deriving DecidableEq, Repr, Inhabited

/-- The decoding process of H.264 (TRUE) or H.265 on a unit, given as (AU_SEQ, bytes), after the units decoded since the IDR unit before it. 10 R333 takes it from the standards, and the spec does not restate it (notes/assumptions/8.md). -/
opaque Config.decodeUnit : Bool → List (Nat × List Byte) → Nat × List Byte → Decoded

/-- ECDSA P-384 verification: public key, digest, signature (16 R518, R523; 12 R390). The spec names the standard and restates none of it (notes/assumptions/9.md). -/
opaque Config.ecdsaVerify : List Byte → List Byte → List Byte → Bool

/-- The 96 bytes of an ECDSA P-384 signature of a digest with the device attestation key, as a big-endian number; the second argument numbers signatures whose nonce is random, 0 for the nonce of RFC 6979 (14 R465, 12 R388; notes/assumptions/9.md). -/
opaque Config.attest : List Byte → Nat → Nat

/-- The coordinates, 96 bytes as a big-endian number, of the P-384 public key of a private key (12 R388; notes/assumptions/9.md). -/
opaque Config.ecPublic : List Byte → Nat

/-- The x-coordinate of the ECDH P-384 shared point of a private key and a public key in uncompressed SEC 1 form (12 R389; notes/assumptions/9.md). -/
opaque Config.ecShared : List Byte → List Byte → Nat

/-- AES-256-GCM: key, nonce, additional data and plaintext give the ciphertext and its 16-byte tag as a big-endian number (12 R391; notes/assumptions/9.md). -/
opaque Config.gcmSeal : List Byte → List Byte → List Byte → List Byte → Nat

/-- The keep key of the device secret, by transition count (16 R517; notes/assumptions/9.md). -/
opaque Config.keepKey : Nat → List Byte

/-- What a quantity that the spec only measures, or whose form it leaves open, reads as: by object key and tile cycle (notes/assumptions/32.md). -/
opaque Config.measured : Nat → Nat → Nat

/-- Tensor verdicts of an item that tripped without a fallback: tile code finds them, and no rule says how the count reaches the controller; its argument is the item's record as tile code wrote it. Free value (06 R215, R225; notes/assumptions/32.md). -/
opaque Config.plainTrips : List Byte → Nat

/-- Key and value groups that an item's tile code clamped. Free value of its record (06 R219, R221; notes/assumptions/32.md). -/
opaque Config.kvClamps : List Byte → Nat

/-- Layer index of the last tripped verdict of an item. Free value of its record (06 R225; notes/assumptions/32.md). -/
opaque Config.tripLayer : List Byte → Nat

/-- What a preemptable frame in flight still holds of the wire when an express frame of the port starts, in tenths of a ns: by tile cycle and port. Free value (02 R71; notes/assumptions/53.md). -/
opaque Config.residue : Nat → Nat → Nat

/-- The HBM stack has a spare row left for the bank of a row, with the rows fused before it: how many spare rows the stack holds, and for which banks, the spec does not state (08 R276, R277; notes/assumptions/45.md). -/
opaque Config.stackSpare : List Nat → Nat → Bool

/-- The HBM stack has a redundant lane left for a data lane, with the lanes moved before it: how many JESD238 gives, the spec does not restate (08 R278; notes/assumptions/45.md). -/
opaque Config.spareLane : List Nat → Nat → Bool

end Sys2Proof
end

