-- ==== Sys2Proof/Machine/Codes.lean ====
section
/-! DEFINITION. The codes of the part (15 R471), one name per code. -/

namespace Sys2Proof.Machine

/-- DONE: status (15 R471). -/
def cDone : Nat := 0x0000
/-- EMPTY: status (15 R471). -/
def cEmpty : Nat := 0x0001
/-- RESTARTED: status (15 R471). -/
def cRestarted : Nat := 0x0002
/-- FAILED: status (15 R471). -/
def cFailed : Nat := 0x0003
/-- NOT_RUN: status (15 R471). -/
def cNotRun : Nat := 0x0004
/-- ILLEGAL_BUNDLE: job fault (15 R471). -/
def cIllegalBundle : Nat := 0x0101
/-- CORE_RANGE: job fault (15 R471). -/
def cCoreRange : Nat := 0x0102
/-- CORE_ALIGN: job fault (15 R471). -/
def cCoreAlign : Nat := 0x0103
/-- CB_INVALID: job fault (15 R471). -/
def cCbInvalid : Nat := 0x0104
/-- CORE_PARITY: step fault (15 R471). -/
def cCoreParity : Nat := 0x0105
/-- VLANE_PARITY: step fault (15 R471). -/
def cVlaneParity : Nat := 0x0106
/-- VECTOR_FAULT: job fault (15 R471). -/
def cVectorFault : Nat := 0x0107
/-- CLASS0_STORE: flag on alarm records; the handler continues (15 R471). -/
def cClass0Store : Nat := 0x0108
/-- CLASS0_OVERRUN: handler fault (15 R471). -/
def cClass0Overrun : Nat := 0x0109
/-- ARITH_CHECK: job fault (15 R471). -/
def cArithCheck : Nat := 0x010A
/-- ARRAY_PARITY: job fault (15 R471). -/
def cArrayParity : Nat := 0x0201
/-- OPBUF_PARITY: step fault (15 R471). -/
def cOpbufParity : Nat := 0x0202
/-- ARRAY_DESC_INVALID: job fault (15 R471). -/
def cArrayDescInvalid : Nat := 0x0203
/-- ARRAY_OVERRUN: job fault (15 R471). -/
def cArrayOverrun : Nat := 0x0204
/-- SCALE_SKEW: job fault (15 R471). -/
def cScaleSkew : Nat := 0x0205
/-- SCALE_RANGE: job fault (15 R471). -/
def cScaleRange : Nat := 0x0206
/-- RANGE_EXCEEDED: flag (15 R471). -/
def cRangeExceeded : Nat := 0x0207
/-- PACKAGE_QUANT_INVALID: rejection (15 R471). -/
def cPackageQuantInvalid : Nat := 0x0208
/-- MEADOW_PARITY: step fault (15 R471). -/
def cMeadowParity : Nat := 0x0301
/-- HBM_UNCORRECTABLE: job fault (15 R471). -/
def cHbmUncorrectable : Nat := 0x0302
/-- HBM_REPAIR_EXHAUSTED: notification (15 R471). -/
def cHbmRepairExhausted : Nat := 0x0303
/-- HBM_LANE_EXHAUSTED: notification (15 R471). -/
def cHbmLaneExhausted : Nat := 0x0304
/-- DMA_DESC_INVALID: job fault (15 R471). -/
def cDmaDescInvalid : Nat := 0x0401
/-- DMA_OVERRUN: job fault (15 R471). -/
def cDmaOverrun : Nat := 0x0402
/-- DMA_ADDR_RANGE: bus error (15 R471). -/
def cDmaAddrRange : Nat := 0x0403
/-- DMA_ABORTED: channel status (15 R471). -/
def cDmaAborted : Nat := 0x0404
/-- DMA_ENGINE_STOPPED: channel status (15 R471). -/
def cDmaEngineStopped : Nat := 0x0405
/-- QUEUE_ACCESS: bus error (15 R471). -/
def cQueueAccess : Nat := 0x0406
/-- QUEUE_EMPTY: channel status; QUEUE_POISON also a FAILED code (15 R471). -/
def cQueueEmpty : Nat := 0x0407
/-- QUEUE_TRUNCATED: channel status; QUEUE_POISON also a FAILED code (15 R471). -/
def cQueueTruncated : Nat := 0x0408
/-- QUEUE_POISON: channel status; QUEUE_POISON also a FAILED code (15 R471). -/
def cQueuePoison : Nat := 0x0409
/-- QUEUE_POINTER_MISMATCH: notification (15 R471). -/
def cQueuePointerMismatch : Nat := 0x040A
/-- QUEUE_RESET: FAILED code; bus error (15 R471). -/
def cQueueReset : Nat := 0x040B
/-- RECORD_MALFORMED: FAILED code (15 R471). -/
def cRecordMalformed : Nat := 0x040C
/-- STREAM_AU_SIZE: stream event (15 R471). -/
def cStreamAuSize : Nat := 0x0501
/-- STREAM_RING_FULL: stream event (15 R471). -/
def cStreamRingFull : Nat := 0x0502
/-- STREAM_QUEUE_FULL: stream event (15 R471). -/
def cStreamQueueFull : Nat := 0x0503
/-- STREAM_DECODE_OVERLOAD: stream event (15 R471). -/
def cStreamDecodeOverload : Nat := 0x0504
/-- STREAM_UNSUPPORTED: stream event (15 R471). -/
def cStreamUnsupported : Nat := 0x0505
/-- STREAM_OVERSIZE: stream event (15 R471). -/
def cStreamOversize : Nat := 0x0506
/-- STREAM_DPB_SHORT: stream event (15 R471). -/
def cStreamDpbShort : Nat := 0x0507
/-- STREAM_BITSTREAM: stream event (15 R471). -/
def cStreamBitstream : Nat := 0x0508
/-- STREAM_GAP: stream event (15 R471). -/
def cStreamGap : Nat := 0x0509
/-- DECODE_ENGINE_FAULT: stream event; notification (15 R471). -/
def cDecodeEngineFault : Nat := 0x050A
/-- PLAN_TILE_RANGE: rejection (15 R471). -/
def cPlanTileRange : Nat := 0x0601
/-- PLAN_CONTEXT: rejection (15 R471). -/
def cPlanContext : Nat := 0x0602
/-- PLAN_SLOT_CONFLICT: rejection (15 R471). -/
def cPlanSlotConflict : Nat := 0x0603
/-- PLAN_OVER_BUDGET: rejection (15 R471). -/
def cPlanOverBudget : Nat := 0x0604
/-- PLAN_CLASS0_BOUND: rejection (15 R471). -/
def cPlanClass0Bound : Nat := 0x0605
/-- PLAN_PRIORITY: rejection (15 R471). -/
def cPlanPriority : Nat := 0x0606
/-- PLAN_MEMORY: rejection (15 R471). -/
def cPlanMemory : Nat := 0x0607
/-- TICK_OVERRUN: FAILED code (15 R471). -/
def cTickOverrun : Nat := 0x0608
/-- DET_SAVE_MISMATCH: notification (15 R471). -/
def cDetSaveMismatch : Nat := 0x0609
/-- RESTART_NO_TIME: FAILED code (15 R471). -/
def cRestartNoTime : Nat := 0x060A
/-- ITEM_TIMEOUT: job fault (15 R471). -/
def cItemTimeout : Nat := 0x060B
/-- PLAN_FORMAT: rejection (15 R471). -/
def cPlanFormat : Nat := 0x060C
/-- BERYL_LASER_LOSS: notification (15 R471). -/
def cBerylLaserLoss : Nat := 0x0701
/-- BERYL_LANE_SPARED: notification (15 R471). -/
def cBerylLaneSpared : Nat := 0x0702
/-- BERYL_SELF_LOOP: notification (15 R471). -/
def cBerylSelfLoop : Nat := 0x0703
/-- BERYL_ID_CONFLICT: notification (15 R471). -/
def cBerylIdConflict : Nat := 0x0704
/-- BERYL_GRANT_REFUSED: notification (15 R471). -/
def cBerylGrantRefused : Nat := 0x0705
/-- BERYL_TICK_BEHIND: notification (15 R471). -/
def cBerylTickBehind : Nat := 0x0706
/-- BERYL_TICK_MISMATCH: notification (15 R471). -/
def cBerylTickMismatch : Nat := 0x0707
/-- WINDOW_NONE: bus error (15 R471). -/
def cWindowNone : Nat := 0x0708
/-- WINDOW_CLOSED: bus error (15 R471). -/
def cWindowClosed : Nat := 0x0709
/-- LINK_DOWN: bus error (15 R471). -/
def cLinkDown : Nat := 0x070A
/-- UNROUTABLE: bus error (15 R471). -/
def cUnroutable : Nat := 0x070B
/-- WINDOW_BUSY: rejection (15 R471). -/
def cWindowBusy : Nat := 0x070C
/-- OBJECT_NOT_FOUND: rejection (15 R471). -/
def cObjectNotFound : Nat := 0x0801
/-- ACCESS_DENIED: rejection (15 R471). -/
def cAccessDenied : Nat := 0x0802
/-- LEVEL_DENIED: rejection (15 R471). -/
def cLevelDenied : Nat := 0x0803
/-- LIFECYCLE_DENIED: rejection (15 R471). -/
def cLifecycleDenied : Nat := 0x0804
/-- LENGTH_MISMATCH: rejection (15 R471). -/
def cLengthMismatch : Nat := 0x0805
/-- VALUE_RANGE: rejection (15 R471). -/
def cValueRange : Nat := 0x0806
/-- STAGE_FULL: rejection (15 R471). -/
def cStageFull : Nat := 0x0807
/-- COMMIT_REJECTED: rejection (15 R471). -/
def cCommitRejected : Nat := 0x0808
/-- COMMIT_TOO_LATE: rejection (15 R471). -/
def cCommitTooLate : Nat := 0x0809
/-- COMMIT_CONFLICT: rejection (15 R471). -/
def cCommitConflict : Nat := 0x080A
/-- COMMIT_PENDING_FULL: rejection (15 R471). -/
def cCommitPendingFull : Nat := 0x080B
/-- REQUEST_MALFORMED: rejection (15 R471). -/
def cRequestMalformed : Nat := 0x080C
/-- SESSION_LIMIT: rejection (15 R471). -/
def cSessionLimit : Nat := 0x080D
/-- BULK_BUSY: rejection (15 R471). -/
def cBulkBusy : Nat := 0x080E
/-- BULK_UNKNOWN: rejection (15 R471). -/
def cBulkUnknown : Nat := 0x080F
/-- BULK_TIMEOUT: rejection (15 R471). -/
def cBulkTimeout : Nat := 0x0810
/-- BULK_LENGTH: rejection (15 R471). -/
def cBulkLength : Nat := 0x0811
/-- BULK_DIGEST: rejection (15 R471). -/
def cBulkDigest : Nat := 0x0812
/-- STORE_FULL: rejection (15 R471). -/
def cStoreFull : Nat := 0x0813
/-- PACKAGE_OVERLAP: rejection (15 R471). -/
def cPackageOverlap : Nat := 0x0814
/-- RESULT_NOT_RETAINED: rejection (15 R471). -/
def cResultNotRetained : Nat := 0x0815
/-- REGION_FABRIC: job fault (15 R471). -/
def cRegionFabric : Nat := 0x0901
/-- REGION_CLOCK: job fault (15 R471). -/
def cRegionClock : Nat := 0x0902
/-- REGION_SUPPLY: job fault (15 R471). -/
def cRegionSupply : Nat := 0x0903
/-- REGION_ISOLATED: notification (15 R471). -/
def cRegionIsolated : Nat := 0x0904
/-- TILE_VACANT: FAILED code (15 R471). -/
def cTileVacant : Nat := 0x0905
/-- BIST_FAIL: notification (15 R471). -/
def cBistFail : Nat := 0x0906
/-- TILE_RETIRED: notification (15 R471). -/
def cTileRetired : Nat := 0x0907
/-- SPARE_EXHAUSTED: notification (15 R471). -/
def cSpareExhausted : Nat := 0x0908
/-- PATROL_MISMATCH: notification (15 R471). -/
def cPatrolMismatch : Nat := 0x0909
/-- PATROL_INCONCLUSIVE: notification (15 R471). -/
def cPatrolInconclusive : Nat := 0x090A
/-- CONTROLLER_LOCKSTEP: notification (15 R471). -/
def cControllerLockstep : Nat := 0x090B
/-- ENCLAVE_SELFTEST: notification (15 R471). -/
def cEnclaveSelftest : Nat := 0x090C
/-- TRNG_SPARED: notification (15 R471). -/
def cTrngSpared : Nat := 0x090D
/-- TRNG_FAIL: notification (15 R471). -/
def cTrngFail : Nat := 0x090E
/-- BIST_OVERDUE: notification (15 R471). -/
def cBistOverdue : Nat := 0x090F
/-- KEEP_READ_ERROR: as the chapter states (15 R471). -/
def cKeepReadError : Nat := 0x0A01
/-- KEEP_PROGRAM_ERROR: as the chapter states (15 R471). -/
def cKeepProgramError : Nat := 0x0A02
/-- KEEP_WEAR_WARNING: as the chapter states (15 R471). -/
def cKeepWearWarning : Nat := 0x0A03
/-- JOURNAL_CORRUPT: as the chapter states (15 R471). -/
def cJournalCorrupt : Nat := 0x0A04
/-- POWER_FAIL_COMMIT: as the chapter states (15 R471). -/
def cPowerFailCommit : Nat := 0x0A05
/-- CHECKPOINT_INVALID: as the chapter states (15 R471). -/
def cCheckpointInvalid : Nat := 0x0A06
/-- EVENT_GAP: as the chapter states (15 R471). -/
def cEventGap : Nat := 0x0A07
/-- FIRMWARE_INVALID: as the chapter states (15 R471). -/
def cFirmwareInvalid : Nat := 0x0A08
/-- PACKAGE_SIGNATURE: as the chapter states (15 R471). -/
def cPackageSignature : Nat := 0x0A09
/-- ROLLBACK_REFUSED: as the chapter states (15 R471). -/
def cRollbackRefused : Nat := 0x0A0A
/-- KEY_REVOKED: as the chapter states (15 R471). -/
def cKeyRevoked : Nat := 0x0A0B
/-- FIRMWARE_RECOVERY: as the chapter states (15 R471). -/
def cFirmwareRecovery : Nat := 0x0A0C
/-- SUPPLY_RANGE: notification; SUPPLY_RANGE, PLL_FAIL, REFCLK_LOSS and THERMAL_LIMIT are also dangerous by R551 and R488 (15 R471). -/
def cSupplyRange : Nat := 0x0B01
/-- PLL_SPARED: notification; SUPPLY_RANGE, PLL_FAIL, REFCLK_LOSS and THERMAL_LIMIT are also dangerous by R551 and R488 (15 R471). -/
def cPllSpared : Nat := 0x0B02
/-- PLL_FAIL: notification; SUPPLY_RANGE, PLL_FAIL, REFCLK_LOSS and THERMAL_LIMIT are also dangerous by R551 and R488 (15 R471). -/
def cPllFail : Nat := 0x0B03
/-- REFCLK_LOSS: notification; SUPPLY_RANGE, PLL_FAIL, REFCLK_LOSS and THERMAL_LIMIT are also dangerous by R551 and R488 (15 R471). -/
def cRefclkLoss : Nat := 0x0B04
/-- THERMAL_LIMIT: notification; SUPPLY_RANGE, PLL_FAIL, REFCLK_LOSS and THERMAL_LIMIT are also dangerous by R551 and R488 (15 R471). -/
def cThermalLimit : Nat := 0x0B05
/-- POWER_CAP_ACTIVE: notification; SUPPLY_RANGE, PLL_FAIL, REFCLK_LOSS and THERMAL_LIMIT are also dangerous by R551 and R488 (15 R471). -/
def cPowerCapActive : Nat := 0x0B06

end Sys2Proof.Machine
end

