-- ==== Sys2Proof/Machine/Bits.lean ====
section
/-! DEFINITION. Byte order, bit fields and signed readings of numbers (00 R7 to R9). -/

namespace Sys2Proof.Machine

/-- The number that bytes spell, least significant byte first (00 R9). -/
def leNat : List Byte → Nat
  | [] => 0
  | b :: r => b.toNat + 256 * leNat r

/-- The low n bytes of a number, least significant first (00 R9). -/
def leBytes : Nat → Nat → List Byte
  | 0, _ => []
  | n + 1, v => BitVec.ofNat 8 v :: leBytes n (v / 256)

/-- The number that bytes spell, most significant byte first: fields of published standards on the wire (00 R9). -/
def beNat (bs : List Byte) : Nat := leNat bs.reverse

/-- The low n bytes of a number, most significant first. -/
def beBytes (n v : Nat) : List Byte := (leBytes n v).reverse

/-- Bits [hi:lo] of a number (00 R7). -/
def field (hi lo v : Nat) : Nat := v / 2 ^ lo % 2 ^ (hi + 1 - lo)

/-- Bit n of a number (00 R7). -/
def bitAt (n v : Nat) : Bool := v / 2 ^ n % 2 = 1

/-- The signed reading of the low w bits of a number. -/
def signedOf (w v : Nat) : Int :=
  let x := v % 2 ^ w
  if x < 2 ^ (w - 1) then (x : Int) else (x : Int) - (2 ^ w : Nat)

/-- The low w bits of an integer, as a number. -/
def wrapTo (w : Nat) (v : Int) : Nat := (v % ((2 ^ w : Nat) : Int)).toNat

/-- The nearest integer of the signed w-bit range. -/
def clipSigned (w : Nat) (v : Int) : Int :=
  let lim : Int := (2 ^ (w - 1) : Nat)
  if v < -lim then -lim else if lim - 1 < v then lim - 1 else v

/-- The nearest integer of the unsigned w-bit range. -/
def clipUnsigned (w : Nat) (v : Int) : Int :=
  let lim : Int := (2 ^ w : Nat)
  if v < 0 then 0 else if lim - 1 < v then lim - 1 else v

/-- floor(v / 2^k) for every sign of v. -/
def floorShift (v : Int) (k : Nat) : Int := v / ((2 ^ k : Nat) : Int)

/-- A right shift by k, rounded to nearest with ties to even (03 R98). -/
def roundConvergent (v : Int) (k : Nat) : Int :=
  if k = 0 then v
  else
    let q := floorShift v k
    let r := v - q * ((2 ^ k : Nat) : Int)
    let half : Int := (2 ^ (k - 1) : Nat)
    if half < r || (r = half && q % 2 ≠ 0) then q + 1 else q

/-- The bytes at offsets o to o + n - 1 of a list, 0 beyond its end. -/
def slice (bs : List Byte) (o n : Nat) : List Byte :=
  let t := (bs.drop o).take n
  t ++ List.replicate (n - t.length) 0

/-- The little-endian field of n bytes at offset o. -/
def leAt (bs : List Byte) (o n : Nat) : Nat := leNat (slice bs o n)

/-- The big-endian field of n bytes at offset o. -/
def beAt (bs : List Byte) (o n : Nat) : Nat := beNat (slice bs o n)

/-- A list with its bytes from offset o replaced. -/
def putBytes (bs : List Byte) (o : Nat) (new : List Byte) : List Byte :=
  bs.take o ++ List.replicate (o - bs.length) 0 ++ new ++ bs.drop (o + new.length)

/-- Exclusive-or of two byte strings of one length. -/
def xorBytes (a b : List Byte) : List Byte := List.zipWith (· ^^^ ·) a b

/-- ceil(a / b). -/
def ceilDiv (a b : Nat) : Nat := (a + b - 1) / b

/-- The bytes of a text, one per character. -/
def textBytes (t : List Nat) : List Byte := t.map (BitVec.ofNat 8)

end Sys2Proof.Machine
end

