-- ==== Sys2Proof/Machine/Map.lean ====
section
/-! DEFINITION. The operations on memories and sparse tables; each keeps the canonical form. -/

namespace Sys2Proof.Machine

/-- One byte of a memory; a byte not listed reads as 0, the value the wipe leaves (08 R265). -/
def memGet : Mem → Nat → Byte
  | [], _ => 0
  | (k, b) :: r, a => if k = a then b else if a < k then 0 else memGet r a

/-- One byte stored; storing 0 removes the entry. -/
def memPut : Mem → Nat → Byte → Mem
  | [], a, b => if b = 0 then [] else [(a, b)]
  | (k, c) :: r, a, b =>
    if a < k then (if b = 0 then (k, c) :: r else (a, b) :: (k, c) :: r)
    else if k = a then (if b = 0 then r else (a, b) :: r)
    else (k, c) :: memPut r a b

/-- n bytes from address a on. -/
def memRead (m : Mem) (a : Nat) : Nat → List Byte
  | 0 => []
  | n + 1 => memGet m a :: memRead m (a + 1) n

/-- Bytes stored from address a on. -/
def memWrite (m : Mem) (a : Nat) : List Byte → Mem
  | [] => m
  | b :: r => memWrite (memPut m a b) (a + 1) r

/-- The memory with n bytes from address a on set to 0. -/
def memClear (m : Mem) (a n : Nat) : Mem := m.filter fun c => c.1 < a || a + n ≤ c.1

/-- Addresses strictly rising, and every one above lo. -/
def memSorted : Option Nat → Mem → Bool
  | _, [] => true
  | none, (k, b) :: r => b ≠ 0 && memSorted (some k) r
  | some lo, (k, b) :: r => lo < k && b ≠ 0 && memSorted (some k) r

/-- The canonical form of a memory. -/
def memWf (m : Mem) : Bool := memSorted none m

/-- The value of a key, or d. -/
def smGet {α : Type} (d : α) : SMap α → Nat → α
  | [], _ => d
  | (k, v) :: r, a => if k = a then v else if a < k then d else smGet d r a

/-- The value of a key, if any. -/
def smFind {α : Type} : SMap α → Nat → Option α
  | [], _ => none
  | (k, v) :: r, a => if k = a then some v else if a < k then none else smFind r a

/-- A key set to a value. -/
def smPut {α : Type} : SMap α → Nat → α → SMap α
  | [], a, v => [(a, v)]
  | (k, w) :: r, a, v =>
    if a < k then (a, v) :: (k, w) :: r
    else if k = a then (a, v) :: r
    else (k, w) :: smPut r a v

/-- A key removed. -/
def smDel {α : Type} (m : SMap α) (a : Nat) : SMap α := m.filter fun e => e.1 ≠ a

/-- A key's value changed. -/
def smMod {α : Type} (d : α) (m : SMap α) (a : Nat) (f : α → α) : SMap α := smPut m a (f (smGet d m a))

/-- An entry put before the first one that does not come before it. -/
def insertBy {α : Type} (le : α → α → Bool) (x : α) : List α → List α
  | [] => [x]
  | y :: r => if le y x then y :: insertBy le x r else x :: y :: r

/-- A list sorted; entries that compare equal keep their order. -/
def sortBy {α : Type} (le : α → α → Bool) (l : List α) : List α := l.foldl (fun a x => insertBy le x a) []

/-- A number put into a rising list, once. -/
def setInsert : List Nat → Nat → List Nat
  | [], a => [a]
  | k :: r, a => if a < k then a :: k :: r else if k = a then k :: r else k :: setInsert r a

/-- A number taken out of a list. -/
def setErase (l : List Nat) (a : Nat) : List Nat := l.filter (· ≠ a)

/-- The smallest number of a list below bound that is not in it, or none: the lowest free index. -/
def lowestFree (used : List Nat) (bound : Nat) : Option Nat := (List.range bound).find? fun i => !used.contains i

end Sys2Proof.Machine
end

