-- ==== Sys2Proof/Machine/Dict.lean ====
section
/-! DEFINITION. The object dictionary: one row per object the chapters of the spec list, and the key INDEX x 256 + SUB of each. -/

namespace Sys2Proof.Machine

/-- How an object may be accessed (12 R378, R402; 00 R12). -/
inductive Access where
  | const | ro | rw | rws | wo
  deriving DecidableEq, Repr

/-- One row of the dictionary (12 R376, R377). -/
structure ObjDef where
  /-- first index -/
  index : Nat
  /-- first subindex -/
  sub : Nat
  /-- number of indexes the row covers -/
  indexes : Nat
  /-- number of subindexes the row covers -/
  subs : Nat
  /-- bytes of the value -/
  size : Nat
  /-- access -/
  acc : Access
  /-- level Expert -/
  expert : Bool
  /-- default, as the little-endian integer of its bytes; 0 where the row states none -/
  dflt : Nat
  /-- an OCTETS or TEXT object -/
  octets : Bool
  /-- a BOOL object -/
  bool : Bool
  deriving DecidableEq, Repr

/-- Rows of the dictionary, part 1. -/
def objRows0 : List ObjDef := [
  ⟨0x1000, 0x01, 1, 1, 8, .const, false, 0x0, true, false⟩,
  ⟨0x1000, 0x02, 1, 1, 2, .const, false, 0x0, true, false⟩,
  ⟨0x1000, 0x03, 1, 1, 1, .const, false, 0x40, false, false⟩,
  ⟨0x3010, 0x01, 64, 1, 1, .rws, false, 0x0, false, true⟩,
  ⟨0x3010, 0x02, 64, 1, 1, .rws, false, 0x0, false, false⟩,
  ⟨0x3010, 0x03, 64, 1, 32, .rws, false, 0x0, true, false⟩,
  ⟨0x3010, 0x04, 64, 1, 8, .rws, false, 0x0, false, false⟩,
  ⟨0x3010, 0x05, 64, 1, 8, .ro, false, 0x0, false, false⟩,
  ⟨0x3000, 0x01, 1, 1, 8, .rws, false, 0x10000000F, false, false⟩,
  ⟨0x3000, 0x02, 1, 1, 1, .rws, false, 0x1, false, false⟩,
  ⟨0x3000, 0x03, 1, 1, 8, .rws, false, 0x0, false, false⟩,
  ⟨0x3000, 0x04, 1, 1, 8, .rws, false, 0x0, false, false⟩,
  ⟨0x3000, 0x05, 1, 1, 4, .ro, false, 0x0, false, false⟩,
  ⟨0x3000, 0x06, 1, 1, 4, .ro, false, 0x0, false, false⟩,
  ⟨0x3000, 0x07, 1, 1, 1, .ro, false, 0x0, false, false⟩,
  ⟨0x3000, 0x08, 1, 1, 8, .ro, false, 0x0, false, false⟩,
  ⟨0x3000, 0x09, 1, 1, 1, .rws, false, 0x0, false, true⟩,
  ⟨0x3000, 0x0A, 1, 1, 8, .ro, false, 0x0, false, false⟩,
  ⟨0x3080, 0x01, 1, 1, 2, .rws, true, 0x40, false, false⟩,
  ⟨0x3080, 0x02, 1, 1, 8, .rws, true, 0xF4240, false, false⟩,
  ⟨0x3080, 0x03, 1, 1, 8, .rws, true, 0x3E8, false, false⟩,
  ⟨0x3080, 0x04, 1, 1, 1, .rws, true, 0x4, false, false⟩,
  ⟨0x3080, 0x05, 1, 1, 4, .ro, true, 0x0, false, false⟩,
  ⟨0x3080, 0x06, 1, 1, 1, .rws, true, 0x0, false, false⟩,
  ⟨0x3100, 0x01, 1, 1, 48, .rws, false, 0x0, false, false⟩,
  ⟨0x3100, 0x02, 1, 1, 48, .ro, false, 0x0, false, false⟩,
  ⟨0x3100, 0x03, 1, 1, 2, .ro, false, 0x0, false, false⟩,
  ⟨0x3100, 0x04, 1, 1, 4, .ro, false, 0x0, false, false⟩,
  ⟨0x3100, 0x05, 1, 1, 1, .rws, false, 0x0, false, true⟩,
  ⟨0x3100, 0x06, 1, 1, 4, .ro, false, 0x0, false, false⟩,
  ⟨0x3100, 0x07, 1, 1, 8, .ro, false, 0x0, false, false⟩,
  ⟨0x3100, 0x08, 1, 1, 8, .ro, false, 0x0, false, false⟩,
  ⟨0x3180, 0x01, 1, 1, 1, .rws, true, 0x5A, false, false⟩,
  ⟨0x3180, 0x02, 1, 1, 8, .ro, true, 0x0, false, false⟩,
  ⟨0x3180, 0x03, 1, 1, 2, .ro, true, 0x0, false, false⟩,
  ⟨0x6100, 0x01, 1, 1, 8, .ro, false, 0x0, false, false⟩,
  ⟨0x6100, 0x02, 1, 1, 8, .ro, false, 0x0, false, false⟩,
  ⟨0x6100, 0x03, 1, 1, 8, .ro, false, 0x0, false, false⟩,
  ⟨0x6100, 0x04, 1, 1, 8, .ro, false, 0x0, false, false⟩,
  ⟨0x6100, 0x05, 1, 1, 8, .ro, false, 0x0, false, false⟩]

/-- Rows of the dictionary, part 2. -/
def objRows1 : List ObjDef := [
  ⟨0x6180, 0x01, 1, 1, 4, .ro, true, 0x0, false, false⟩,
  ⟨0x6180, 0x02, 1, 1, 2, .ro, true, 0x0, false, false⟩,
  ⟨0x1000, 0x10, 1, 1, 8, .const, false, 0x600000000, false, false⟩,
  ⟨0x1000, 0x11, 1, 1, 8, .const, false, 0x5C0000000, false, false⟩,
  ⟨0x1000, 0x12, 1, 1, 4, .const, false, 0x10000000, false, false⟩,
  ⟨0x1000, 0x13, 1, 1, 4, .const, false, 0xF800000, false, false⟩,
  ⟨0x1000, 0x14, 1, 1, 4, .const, false, 0x200000, false, false⟩,
  ⟨0x1000, 0x15, 1, 1, 4, .const, false, 0x40000, false, false⟩,
  ⟨0x1000, 0x16, 1, 1, 4, .const, false, 0x40000, false, false⟩,
  ⟨0x1000, 0x17, 1, 1, 4, .const, false, 0x60000, false, false⟩,
  ⟨0x1000, 0x18, 1, 1, 4, .const, false, 0x10000, false, false⟩,
  ⟨0x1000, 0x19, 1, 1, 4, .const, false, 0x200000, false, false⟩,
  ⟨0x6080, 0x01, 72, 1, 8, .ro, true, 0x0, false, false⟩,
  ⟨0x6080, 0x02, 72, 1, 8, .ro, true, 0x0, false, false⟩,
  ⟨0x6080, 0x03, 72, 1, 8, .ro, true, 0x0, false, false⟩,
  ⟨0x6080, 0x04, 72, 1, 4, .ro, true, 0x0, false, false⟩,
  ⟨0x6080, 0x05, 72, 1, 4, .ro, true, 0x0, false, false⟩,
  ⟨0x6080, 0x06, 72, 1, 4, .ro, true, 0x0, false, false⟩,
  ⟨0x6080, 0x07, 72, 1, 4, .ro, true, 0x0, false, false⟩,
  ⟨0x6080, 0x08, 72, 1, 4, .ro, true, 0x0, false, false⟩,
  ⟨0x6080, 0x09, 72, 1, 4, .ro, true, 0x0, false, false⟩,
  ⟨0x6080, 0x0A, 72, 1, 4, .ro, true, 0x0, false, false⟩,
  ⟨0x6060, 0x01, 1, 1, 8, .ro, false, 0x0, false, false⟩,
  ⟨0x6060, 0x02, 1, 1, 4, .ro, false, 0x0, false, false⟩,
  ⟨0x6060, 0x03, 1, 1, 4, .ro, false, 0x0, false, false⟩,
  ⟨0x6061, 0x01, 1, 1, 1, .rws, false, 0x0, false, true⟩,
  ⟨0x6061, 0x02, 1, 1, 1, .rws, false, 0x0, false, false⟩,
  ⟨0x8120, 0x01, 1, 1, 8, .ro, false, 0x0, false, false⟩,
  ⟨0x8120, 0x02, 1, 1, 8, .ro, false, 0x0, false, false⟩,
  ⟨0x8120, 0x03, 1, 1, 8, .ro, false, 0x0, false, false⟩,
  ⟨0x8120, 0x04, 1, 1, 2, .ro, false, 0x0, false, false⟩,
  ⟨0x8120, 0x05, 1, 1, 2, .ro, false, 0x0, false, false⟩,
  ⟨0x8120, 0x06, 1, 1, 2, .ro, false, 0x100, false, false⟩,
  ⟨0x8120, 0x07, 1, 1, 1, .ro, false, 0x0, false, false⟩,
  ⟨0x8120, 0x08, 1, 1, 2, .ro, false, 0x0, false, false⟩,
  ⟨0x81A0, 0x01, 1, 1, 1, .ro, true, 0x0, false, true⟩,
  ⟨0x81A0, 0x02, 1, 1, 1, .rws, true, 0x3, false, false⟩,
  ⟨0x8280, 0x10, 1, 1, 1, .rws, true, 0x0, false, false⟩,
  ⟨0x6200, 0x01, 72, 1, 8, .ro, false, 0x0, false, false⟩,
  ⟨0x6200, 0x02, 72, 1, 4, .ro, false, 0x0, false, false⟩]

/-- Rows of the dictionary, part 3. -/
def objRows2 : List ObjDef := [
  ⟨0x6200, 0x03, 72, 1, 4, .ro, false, 0x0, false, false⟩,
  ⟨0x6200, 0x04, 72, 1, 8, .ro, false, 0x0, false, false⟩,
  ⟨0x6200, 0x05, 72, 1, 8, .ro, false, 0x0, false, false⟩,
  ⟨0x6200, 0x06, 72, 1, 8, .ro, false, 0x0, false, false⟩,
  ⟨0x6300, 0x01, 1, 1, 4, .ro, false, 0x10000, false, false⟩,
  ⟨0x6300, 0x02, 1, 1, 4, .ro, false, 0x10000, false, false⟩,
  ⟨0x6300, 0x03, 1, 1, 4, .rws, false, 0x2000, false, false⟩,
  ⟨0x6300, 0x04, 1, 1, 8, .ro, false, 0x0, false, false⟩,
  ⟨0x6300, 0x05, 1, 1, 4, .ro, false, 0x0, false, false⟩,
  ⟨0x6300, 0x06, 1, 1, 8, .ro, false, 0x0, false, false⟩,
  ⟨0x6300, 0x07, 1, 1, 2, .ro, false, 0x0, false, false⟩,
  ⟨0x6340, 0x01, 64, 1, 2, .rws, false, 0x4000, false, false⟩,
  ⟨0x6340, 0x02, 64, 1, 2, .rws, false, 0x3000, false, false⟩,
  ⟨0x6340, 0x03, 64, 1, 2, .rws, false, 0x1000, false, false⟩,
  ⟨0x6340, 0x04, 64, 1, 2, .rws, false, 0x0, false, false⟩,
  ⟨0x6340, 0x05, 64, 1, 1, .rws, false, 0xFF, false, false⟩,
  ⟨0x6340, 0x06, 64, 1, 2, .ro, false, 0x0, false, false⟩,
  ⟨0x6340, 0x07, 64, 1, 2, .ro, false, 0x0, false, false⟩,
  ⟨0x6340, 0x08, 64, 1, 8, .ro, false, 0x0, false, false⟩,
  ⟨0x5400, 0x01, 1024, 1, 1, .rws, false, 0x0, false, true⟩,
  ⟨0x5400, 0x02, 1024, 1, 1, .rws, false, 0x0, false, false⟩,
  ⟨0x5400, 0x03, 1024, 1, 16, .rws, false, 0x0, true, false⟩,
  ⟨0x5400, 0x04, 1024, 1, 16, .rws, false, 0x0, true, false⟩,
  ⟨0x5400, 0x05, 1024, 1, 2, .rws, false, 0x0, false, false⟩,
  ⟨0x5400, 0x06, 1024, 1, 4, .rws, false, 0x0, false, false⟩,
  ⟨0x5400, 0x07, 1024, 1, 1, .rws, false, 0x60, false, false⟩,
  ⟨0x5400, 0x08, 1024, 1, 1, .rws, false, 0x2, false, false⟩,
  ⟨0x5400, 0x09, 1024, 1, 6, .rws, false, 0x0, false, false⟩,
  ⟨0x5400, 0x0A, 1024, 1, 4, .rws, false, 0x0, false, false⟩,
  ⟨0x5400, 0x0B, 1024, 1, 6, .rws, false, 0x0, false, false⟩,
  ⟨0x5400, 0x0C, 1024, 1, 1, .rws, false, 0x0, false, false⟩,
  ⟨0x5400, 0x0D, 1024, 1, 4, .rws, false, 0x0, false, false⟩,
  ⟨0x5400, 0x0E, 1024, 1, 4, .rws, false, 0x0, false, false⟩,
  ⟨0x5400, 0x0F, 1024, 1, 4, .rws, false, 0x0, false, false⟩,
  ⟨0x5400, 0x10, 1024, 1, 4, .rws, false, 0x0, false, false⟩,
  ⟨0x5400, 0x11, 1024, 1, 2, .rws, false, 0x0, false, false⟩,
  ⟨0x5400, 0x12, 1024, 1, 1, .rws, false, 0x0, false, false⟩,
  ⟨0x5400, 0x13, 1024, 1, 8, .rws, false, 0x0, false, false⟩,
  ⟨0x5400, 0x14, 1024, 1, 8, .rws, false, 0x0, false, false⟩,
  ⟨0x5400, 0x15, 1024, 1, 8, .rws, false, 0x0, false, false⟩]

/-- Rows of the dictionary, part 4. -/
def objRows3 : List ObjDef := [
  ⟨0x5400, 0x16, 1024, 1, 1024, .rws, false, 0x0, true, false⟩,
  ⟨0x5400, 0x17, 1024, 1, 2, .rws, false, 0x40, false, false⟩,
  ⟨0x5400, 0x18, 1024, 1, 2, .rws, false, 0x30, false, false⟩,
  ⟨0x5400, 0x19, 1024, 1, 2, .rws, false, 0x10, false, false⟩,
  ⟨0x5400, 0x1A, 1024, 1, 2, .rws, false, 0x0, false, false⟩,
  ⟨0x5400, 0x1B, 1024, 1, 1, .rws, false, 0xFF, false, false⟩,
  ⟨0x5400, 0x40, 1024, 1, 1, .ro, false, 0x0, false, false⟩,
  ⟨0x5400, 0x41, 1024, 1, 4, .ro, false, 0x0, false, false⟩,
  ⟨0x5400, 0x42, 1024, 1, 8, .ro, false, 0x0, false, false⟩,
  ⟨0x5400, 0x43, 1024, 1, 8, .ro, false, 0x0, false, false⟩,
  ⟨0x5400, 0x44, 1024, 1, 4, .ro, false, 0x0, false, false⟩,
  ⟨0x5400, 0x45, 1024, 1, 2, .ro, false, 0x0, false, false⟩,
  ⟨0x5400, 0x46, 1024, 1, 8, .ro, false, 0x0, false, false⟩,
  ⟨0x5400, 0x47, 1024, 1, 8, .ro, false, 0x0, false, false⟩,
  ⟨0x5400, 0x48, 1024, 1, 8, .ro, false, 0x0, false, false⟩,
  ⟨0x5000, 0x01, 1, 1, 2, .ro, false, 0x0, false, false⟩,
  ⟨0x5000, 0x02, 1, 1, 8, .ro, false, 0x0, false, false⟩,
  ⟨0x5000, 0x03, 1, 1, 8, .ro, false, 0x0, false, false⟩,
  ⟨0x5000, 0x04, 1, 1, 8, .ro, false, 0x0, false, false⟩,
  ⟨0x5800, 0x01, 1, 1, 1, .ro, false, 0x8, false, false⟩,
  ⟨0x5800, 0x02, 1, 1, 8, .ro, false, 0x1DCD65000, false, false⟩,
  ⟨0x5800, 0x03, 1, 1, 1, .ro, false, 0x0, false, true⟩,
  ⟨0x5800, 0x04, 1, 1, 8, .ro, false, 0x0, false, false⟩,
  ⟨0x5880, 0x01, 1, 9, 8, .ro, true, 0x0, false, false⟩,
  ⟨0x5880, 0x0A, 1, 1, 4, .ro, true, 0x0, false, false⟩,
  ⟨0x4000, 0x01, 2, 1, 1, .rws, false, 0x0, false, false⟩,
  ⟨0x4000, 0x03, 2, 1, 6, .const, false, 0x0, true, false⟩,
  ⟨0x4000, 0x04, 2, 1, 4, .rws, false, 0x0, true, false⟩,
  ⟨0x4000, 0x05, 2, 1, 1, .rws, false, 0x0, false, false⟩,
  ⟨0x4000, 0x06, 2, 1, 16, .rws, false, 0x0, true, false⟩,
  ⟨0x4000, 0x07, 2, 1, 2, .rws, false, 0x0, false, false⟩,
  ⟨0x4000, 0x08, 2, 1, 128, .rws, false, 0x0, true, false⟩,
  ⟨0x4000, 0x09, 2, 1, 4, .rws, false, 0xFAC688, false, false⟩,
  ⟨0x4000, 0x40, 2, 1, 1, .ro, false, 0x0, false, true⟩,
  ⟨0x4000, 0x41, 2, 1, 4, .ro, false, 0x0, false, false⟩,
  ⟨0x4000, 0x42, 2, 1, 1, .ro, false, 0x0, false, false⟩,
  ⟨0x4000, 0x43, 2, 1, 8, .ro, false, 0x0, false, false⟩,
  ⟨0x4080, 0x01, 2, 1, 1, .rws, true, 0x0, false, false⟩,
  ⟨0x4080, 0x02, 2, 1, 1, .rws, true, 0x1, false, true⟩,
  ⟨0x4008, 0x01, 2, 1, 1, .rws, false, 0x0, false, true⟩]

/-- Rows of the dictionary, part 5. -/
def objRows4 : List ObjDef := [
  ⟨0x4008, 0x02, 2, 1, 32, .rws, false, 0x0, true, false⟩,
  ⟨0x4008, 0x03, 2, 1, 32, .wo, false, 0x0, true, false⟩,
  ⟨0x4008, 0x04, 2, 1, 4, .rws, false, 0x0, false, false⟩,
  ⟨0x4008, 0x05, 2, 1, 1, .rws, false, 0x10, false, false⟩,
  ⟨0x4008, 0x40, 2, 1, 1, .ro, false, 0x0, false, false⟩,
  ⟨0x4008, 0x41, 2, 1, 8, .ro, false, 0x0, false, false⟩,
  ⟨0x4010, 0x01, 2, 1, 2, .rws, false, 0x0, false, false⟩,
  ⟨0x4010, 0x02, 2, 1, 4, .rws, false, 0x0, false, false⟩,
  ⟨0x4010, 0x03, 2, 1, 8, .rws, false, 0x0, false, false⟩,
  ⟨0x4010, 0x04, 2, 1, 2048, .rws, false, 0x0, true, false⟩,
  ⟨0x4020, 0x01, 1, 1, 65536, .rws, false, 0x0, true, false⟩,
  ⟨0x4020, 0x40, 1, 1, 32768, .ro, false, 0x0, true, false⟩,
  ⟨0x4028, 0x01, 1, 1, 4064, .rws, false, 0x0, true, false⟩,
  ⟨0x4028, 0x02, 1, 1, 1, .rws, false, 0x1, false, true⟩,
  ⟨0x4028, 0x40, 1, 1, 4064, .ro, false, 0x0, true, false⟩,
  ⟨0x4030, 0x40, 1, 1, 1, .ro, false, 0x0, false, false⟩,
  ⟨0x4030, 0x41, 1, 1, 1, .ro, false, 0x0, false, false⟩,
  ⟨0x4030, 0x42, 1, 1, 8, .ro, false, 0x0, false, false⟩,
  ⟨0x4030, 0x43, 1, 1, 8, .ro, false, 0x0, true, false⟩,
  ⟨0x4030, 0x44, 1, 1, 8, .ro, false, 0x0, false, false⟩,
  ⟨0x40B0, 0x01, 1, 1, 4, .rws, true, 0xA, false, false⟩,
  ⟨0x40B0, 0x02, 1, 1, 4, .rws, true, 0x1, false, false⟩,
  ⟨0x4038, 0x01, 1, 1, 16, .rws, false, 0x0, true, false⟩,
  ⟨0x4038, 0x02, 1, 1, 2, .rws, false, 0xB2FD, false, false⟩,
  ⟨0x4038, 0x03, 1, 1, 1, .rws, false, 0x3, false, false⟩,
  ⟨0x4038, 0x04, 1, 1, 8, .rws, false, 0x186A0, false, false⟩,
  ⟨0x4038, 0x05, 1, 1, 1, .rws, false, 0x0, false, true⟩,
  ⟨0x4038, 0x40, 1, 1, 8, .ro, false, 0x0, false, false⟩,
  ⟨0x4038, 0x41, 1, 1, 8, .ro, false, 0x0, false, false⟩,
  ⟨0x4038, 0x42, 1, 1, 8, .ro, false, 0x0, false, false⟩,
  ⟨0x4040, 0x01, 1, 1, 16, .rws, false, 0x0, true, false⟩,
  ⟨0x4040, 0x02, 1, 1, 2, .rws, false, 0xB2FE, false, false⟩,
  ⟨0x4040, 0x03, 1, 1, 1, .rws, false, 0x3, false, false⟩,
  ⟨0x4040, 0x40, 1, 1, 8, .ro, false, 0x0, false, false⟩,
  ⟨0x4040, 0x41, 1, 1, 8, .ro, false, 0x0, false, false⟩,
  ⟨0x3001, 0x01, 1, 1, 8, .wo, false, 0x0, false, false⟩,
  ⟨0x3001, 0x02, 1, 1, 8, .ro, false, 0x0, false, false⟩,
  ⟨0x3001, 0x03, 1, 1, 1, .ro, false, 0x0, false, false⟩,
  ⟨0x3001, 0x04, 1, 1, 2, .ro, false, 0x0, false, false⟩,
  ⟨0x3001, 0x05, 1, 1, 4, .ro, false, 0x0, false, false⟩]

/-- Rows of the dictionary, part 6. -/
def objRows5 : List ObjDef := [
  ⟨0x3001, 0x06, 1, 1, 1, .wo, false, 0x0, false, true⟩,
  ⟨0x1000, 0x04, 1, 1, 16, .const, false, 0x0, true, false⟩,
  ⟨0x1000, 0x05, 1, 1, 4, .ro, false, 0x0, false, false⟩,
  ⟨0x1000, 0x06, 1, 1, 48, .ro, false, 0x0, false, false⟩,
  ⟨0x1000, 0x07, 1, 1, 2, .const, false, 0x1, false, false⟩,
  ⟨0x1100, 0x01, 1, 1, 1, .ro, false, 0x0, false, false⟩,
  ⟨0x1100, 0x02, 1, 1, 960, .ro, false, 0x0, true, false⟩,
  ⟨0x1180, 0x10, 1, 1, 392, .rws, true, 0x0, true, false⟩,
  ⟨0x4100, 0x01, 1, 1, 2, .rws, false, 0xB2FC, false, false⟩,
  ⟨0x4100, 0x02, 1, 1, 1, .rws, false, 0x3, false, false⟩,
  ⟨0x4100, 0x03, 1, 1, 1, .ro, false, 0x0, false, false⟩,
  ⟨0x4100, 0x04, 1, 1, 8, .rws, false, 0x6FC23AC00, false, false⟩,
  ⟨0x4100, 0x06, 1, 1, 8, .ro, false, 0x0, false, false⟩,
  ⟨0x4100, 0x07, 1, 1, 8, .ro, false, 0x0, false, false⟩,
  ⟨0x4100, 0x08, 1, 1, 16384, .ro, false, 0x0, true, false⟩,
  ⟨0x4100, 0x40, 1, 1, 8, .ro, false, 0x0, false, false⟩,
  ⟨0x4100, 0x41, 1, 1, 8, .ro, false, 0x0, false, false⟩,
  ⟨0x4100, 0x42, 1, 1, 8, .ro, false, 0x0, false, false⟩,
  ⟨0xF000, 0x01, 1, 1, 6, .rw, false, 0x0, false, false⟩,
  ⟨0xF000, 0x02, 1, 1, 1, .rw, false, 0xFF, false, false⟩,
  ⟨0xF000, 0x03, 1, 1, 1024, .rw, false, 0x0, true, false⟩,
  ⟨0xF000, 0x04, 1, 1, 128, .ro, false, 0x0, true, false⟩,
  ⟨0xF080, 0x01, 1, 1, 8, .wo, true, 0x0, false, false⟩,
  ⟨0xF080, 0x02, 1, 1, 4, .ro, true, 0x0, false, false⟩,
  ⟨0x7000, 0x01, 1, 1, 1, .rws, false, 0x0, false, false⟩,
  ⟨0x7000, 0x02, 1, 1, 256, .rws, false, 0x0, true, false⟩,
  ⟨0x7000, 0x03, 1, 1, 2, .ro, false, 0x0, false, false⟩,
  ⟨0x7000, 0x04, 1, 1, 1, .ro, false, 0x0, false, true⟩,
  ⟨0x7010, 0x01, 4, 1, 1, .rws, false, 0x0, false, true⟩,
  ⟨0x7010, 0x02, 4, 1, 1, .ro, false, 0x0, false, false⟩,
  ⟨0x7010, 0x03, 4, 1, 1, .ro, false, 0x0, false, false⟩,
  ⟨0x7010, 0x04, 4, 1, 4, .ro, false, 0x0, false, false⟩,
  ⟨0x7010, 0x05, 4, 1, 8, .ro, false, 0x0, false, false⟩,
  ⟨0x7010, 0x06, 4, 1, 8, .ro, false, 0x0, false, false⟩,
  ⟨0x7010, 0x07, 4, 1, 2, .ro, false, 0x0, false, false⟩,
  ⟨0x7010, 0x08, 4, 1, 1, .ro, false, 0x0, false, true⟩,
  ⟨0x7010, 0x09, 4, 1, 8, .ro, false, 0x0, false, false⟩,
  ⟨0x7010, 0x0A, 4, 1, 8, .ro, false, 0x0, false, false⟩,
  ⟨0x7090, 0x01, 4, 1, 2, .rws, true, 0x10, false, false⟩,
  ⟨0x7090, 0x02, 4, 1, 8, .rws, true, 0x5F5E100, false, false⟩]

/-- Rows of the dictionary, part 7. -/
def objRows6 : List ObjDef := [
  ⟨0x7100, 0x01, 64, 1, 6, .rws, false, 0x0, false, false⟩,
  ⟨0x7100, 0x02, 64, 1, 4, .rws, false, 0x0, false, false⟩,
  ⟨0x7100, 0x03, 64, 1, 4, .rws, false, 0x0, false, false⟩,
  ⟨0x7100, 0x04, 64, 1, 32, .rws, false, 0x0, true, false⟩,
  ⟨0x7100, 0x05, 64, 1, 2, .rws, false, 0x100, false, false⟩,
  ⟨0x7100, 0x06, 64, 1, 8, .rws, false, 0x989680, false, false⟩,
  ⟨0x7100, 0x40, 64, 1, 1, .ro, false, 0x0, false, false⟩,
  ⟨0x7100, 0x41, 64, 1, 8, .ro, false, 0x0, false, false⟩,
  ⟨0x7100, 0x42, 64, 1, 8, .ro, false, 0x0, false, false⟩,
  ⟨0x7100, 0x43, 64, 1, 4, .ro, false, 0x0, false, false⟩,
  ⟨0x7180, 0x01, 1, 1, 4096, .ro, true, 0x0, true, false⟩,
  ⟨0x8200, 0x01, 1, 1, 1, .ro, false, 0x0, false, true⟩,
  ⟨0x8200, 0x02, 1, 1, 8, .ro, false, 0x0, false, false⟩,
  ⟨0x8200, 0x03, 1, 1, 1, .rws, false, 0x0, false, true⟩,
  ⟨0x8200, 0x04, 1, 1, 1, .ro, false, 0x0, false, true⟩,
  ⟨0x8200, 0x05, 1, 1, 48, .ro, false, 0x0, false, false⟩,
  ⟨0x8200, 0x06, 1, 1, 1, .rws, false, 0x1, false, true⟩,
  ⟨0x8200, 0x07, 1, 1, 48, .ro, false, 0x0, false, false⟩,
  ⟨0x8200, 0x08, 1, 1, 8, .ro, false, 0x0, false, false⟩,
  ⟨0x8200, 0x09, 1, 1, 8, .ro, false, 0x0, false, false⟩,
  ⟨0x8200, 0x0A, 1, 1, 1, .ro, false, 0x0, false, true⟩,
  ⟨0x8200, 0x0B, 1, 1, 8, .ro, false, 0x0, false, false⟩,
  ⟨0x8280, 0x11, 1, 1, 1, .rws, true, 0x0, false, false⟩,
  ⟨0x8280, 0x12, 1, 1, 1, .rws, true, 0x0, false, false⟩,
  ⟨0x8280, 0x13, 1, 1, 1, .rws, true, 0x1, false, true⟩,
  ⟨0x6000, 0x01, 72, 1, 1, .ro, false, 0x0, false, false⟩,
  ⟨0x6000, 0x02, 72, 1, 1, .ro, false, 0x0, false, false⟩,
  ⟨0x6000, 0x03, 72, 1, 4, .ro, false, 0x0, false, false⟩,
  ⟨0x6000, 0x04, 72, 1, 4, .ro, false, 0x0, false, false⟩,
  ⟨0x6000, 0x05, 72, 1, 8, .ro, false, 0x0, false, false⟩,
  ⟨0x6000, 0x06, 72, 1, 1, .ro, false, 0x0, false, false⟩,
  ⟨0x8000, 0x01, 1, 1, 1, .ro, false, 0x0, false, false⟩,
  ⟨0x8000, 0x02, 1, 1, 1, .ro, false, 0x1, false, true⟩,
  ⟨0x8000, 0x03, 1, 1, 1, .wo, false, 0x0, false, true⟩,
  ⟨0x8000, 0x04, 1, 1, 2, .ro, false, 0x0, false, false⟩,
  ⟨0x8000, 0x05, 1, 1, 8, .ro, false, 0x0, false, false⟩,
  ⟨0x8000, 0x06, 1, 1, 8, .ro, false, 0x0, false, false⟩,
  ⟨0x8000, 0x07, 1, 1, 8, .ro, false, 0x0, false, false⟩,
  ⟨0x8000, 0x08, 1, 1, 8, .ro, false, 0x0, false, false⟩,
  ⟨0x8000, 0x09, 1, 1, 8, .ro, false, 0x0, false, false⟩]

/-- Rows of the dictionary, part 8. -/
def objRows7 : List ObjDef := [
  ⟨0x8000, 0x0A, 1, 1, 8, .ro, false, 0x0, false, false⟩,
  ⟨0x8000, 0x0B, 1, 1, 4, .ro, false, 0x0, false, false⟩,
  ⟨0x8000, 0x0C, 1, 1, 8, .ro, false, 0x0, false, false⟩,
  ⟨0x8080, 0x01, 1, 1, 8, .rws, true, 0x3B9ACA00, false, false⟩,
  ⟨0x8080, 0x03, 1, 1, 2, .wo, true, 0x0, false, false⟩,
  ⟨0x8100, 0x01, 1, 1, 144, .ro, false, 0x0, true, false⟩,
  ⟨0x8100, 0x02, 1, 1, 1, .ro, false, 0x8, false, false⟩,
  ⟨0x8100, 0x03, 1, 1, 1, .ro, false, 0x0, false, false⟩,
  ⟨0x8100, 0x04, 1, 1, 8, .ro, false, 0x0, true, false⟩,
  ⟨0x8100, 0x05, 1, 1, 1, .ro, false, 0x0, false, false⟩,
  ⟨0x1100, 0x03, 1, 1, 1, .ro, false, 0x0, false, false⟩,
  ⟨0x1100, 0x04, 1, 1, 1, .ro, false, 0x0, false, false⟩,
  ⟨0x1100, 0x05, 1, 1, 1, .ro, false, 0x0, false, false⟩,
  ⟨0x1100, 0x06, 1, 1, 1, .ro, false, 0x0, false, false⟩,
  ⟨0x1180, 0x01, 1, 1, 1, .wo, true, 0x0, false, false⟩,
  ⟨0x1180, 0x02, 1, 1, 1, .wo, true, 0x0, false, false⟩,
  ⟨0x1180, 0x11, 1, 1, 388, .rws, true, 0x0, true, false⟩,
  ⟨0x1200, 0x01, 1, 1, 1, .ro, false, 0x0, false, false⟩,
  ⟨0x1200, 0x02, 1, 1, 1, .ro, false, 0x0, false, false⟩,
  ⟨0x1200, 0x03, 1, 1, 1, .ro, false, 0x0, false, false⟩,
  ⟨0x1200, 0x04, 1, 1, 4, .ro, false, 0x0, false, false⟩,
  ⟨0x1200, 0x05, 1, 1, 4, .ro, false, 0xFFFF, false, false⟩,
  ⟨0x1200, 0x06, 1, 1, 8, .ro, false, 0x0, false, false⟩,
  ⟨0x1200, 0x07, 1, 1, 1024, .ro, false, 0x0, true, false⟩,
  ⟨0x1200, 0x08, 1, 1, 48, .wo, false, 0x0, false, false⟩,
  ⟨0x1200, 0x09, 1, 1, 8, .rws, false, 0x45D964B800, false, false⟩,
  ⟨0x1200, 0x0A, 1, 1, 8, .ro, false, 0x0, false, false⟩,
  ⟨0x1200, 0x0B, 1, 1, 48, .rws, false, 0x0, false, false⟩,
  ⟨0x1200, 0x0C, 1, 1, 1, .ro, false, 0x0, false, false⟩,
  ⟨0x1210, 0x01, 1, 1, 1, .ro, false, 0x0, false, false⟩,
  ⟨0x1210, 0x02, 1, 1, 48, .ro, false, 0x0, false, false⟩,
  ⟨0x1280, 0x01, 1, 1, 4, .rws, true, 0x186A0, false, false⟩,
  ⟨0x1280, 0x02, 1, 1, 8, .rws, true, 0x2540BE400, false, false⟩,
  ⟨0x1280, 0x03, 1, 1, 1, .rws, true, 0x1, false, true⟩,
  ⟨0x1290, 0x01, 1, 1, 8, .wo, true, 0x0, false, false⟩,
  ⟨0x2000, 0x01, 1, 1, 1, .ro, false, 0x0, false, false⟩,
  ⟨0x2000, 0x02, 1, 1, 4, .ro, false, 0x0, false, false⟩,
  ⟨0x2000, 0x03, 1, 1, 1, .rws, false, 0x0, false, true⟩,
  ⟨0x2000, 0x04, 1, 1, 2, .rws, false, 0x104, false, false⟩,
  ⟨0x2000, 0x05, 1, 1, 1, .ro, false, 0x0, false, false⟩]

/-- Rows of the dictionary, part 9. -/
def objRows8 : List ObjDef := [
  ⟨0x2000, 0x06, 1, 1, 2, .ro, false, 0x0, false, false⟩,
  ⟨0x2000, 0x07, 1, 1, 8, .ro, false, 0x0, false, false⟩,
  ⟨0x2000, 0x08, 1, 1, 24, .ro, false, 0x0, true, false⟩,
  ⟨0x2080, 0x01, 1, 1, 2, .rws, true, 0x64, false, false⟩,
  ⟨0x2080, 0x02, 1, 1, 93, .ro, true, 0x0, true, false⟩,
  ⟨0x2080, 0x03, 1, 1, 8, .ro, true, 0x0, false, false⟩,
  ⟨0x2080, 0x04, 1, 1, 1, .ro, true, 0x0, false, false⟩,
  ⟨0x2100, 0x01, 1, 1, 1, .ro, false, 0x0, false, false⟩,
  ⟨0x2100, 0x02, 1, 1, 2, .ro, false, 0x0, false, false⟩,
  ⟨0x2100, 0x03, 1, 1, 1, .ro, false, 0x0, false, true⟩,
  ⟨0x2100, 0x04, 1, 1, 1, .ro, false, 0x0, false, true⟩,
  ⟨0x2100, 0x05, 1, 1, 1, .ro, false, 0x0, false, false⟩,
  ⟨0x2100, 0x06, 1, 1, 1, .ro, false, 0x0, false, false⟩,
  ⟨0x2100, 0x07, 1, 1, 8, .ro, false, 0x0, false, false⟩,
  ⟨0x2180, 0x01, 1, 1, 4, .ro, true, 0x0, false, false⟩,
  ⟨0x2180, 0x02, 1, 1, 1, .wo, true, 0x0, false, false⟩,
  ⟨0x3000, 0x0B, 1, 1, 8, .ro, false, 0x0, false, false⟩,
  ⟨0x3000, 0x0C, 1, 1, 8, .ro, false, 0x0, false, false⟩,
  ⟨0x3000, 0x0D, 1, 1, 8, .ro, false, 0x0, false, false⟩,
  ⟨0x3000, 0x0E, 1, 1, 1, .rws, false, 0x1, false, true⟩]

/-- The whole dictionary. -/
def objRows : List ObjDef := objRows0 ++ objRows1 ++ objRows2 ++ objRows3 ++ objRows4 ++ objRows5 ++ objRows6 ++ objRows7 ++ objRows8

/-- The row of an object, if it exists. -/
def objFind (key : Nat) : Option ObjDef :=
  objRows.find? fun r => r.index ≤ key / 256 && key / 256 < r.index + r.indexes && r.sub ≤ key % 256 && key % 256 < r.sub + r.subs

/-- The default of an object whose default depends on its number: the fixed and first settings of the system and plan queues (09 R307, R318). -/
def queueDefault (j sub : Nat) : Nat :=
  if j = 8 then (if sub = 1 then 16384 else if sub = 2 then 12288 else if sub = 3 then 4096 else if sub = 5 then 255 else 0)
  else if j < 8 then (if sub = 1 || sub = 2 then 8192 else if sub = 5 then 255 else 0)
  else if j < 16 then (if sub = 1 then 1024 else if sub = 2 then 768 else if sub = 3 then 256 else if sub = 5 then 255 else 0)
  else (if sub = 1 then 1024 else if sub = 2 then 768 else if sub = 3 then 256 else 0)

/-- The default of an object as an integer. -/
def objDefault (key : Nat) : Nat :=
  if 0x6340 ≤ key / 256 && key / 256 < 0x6380 then queueDefault (key / 256 - 0x6340) (key % 256)
  else match objFind key with | some r => r.dflt | none => 0

/-- identity.part: part number of the grade (00 R5). -/
def oIdentityPart : Nat := 0x1000 * 256 + 0x01
/-- identity.stepping: silicon stepping (00 R5). -/
def oIdentityStepping : Nat := 0x1000 * 256 + 0x02
/-- identity.tiles_in_service: tiles in service for the grade (00 R5). -/
def oIdentityTilesInService : Nat := 0x1000 * 256 + 0x03
/-- lockgroup.enable: group g in force (02 R55). -/
def oLockgroupEnable (i : Nat) : Nat := (0x3010 + i) * 256 + 0x01
/-- lockgroup.count: members, 0–16 (02 R55). -/
def oLockgroupCount (i : Nat) : Nat := (0x3010 + i) * 256 + 0x02
/-- lockgroup.members: 16 context numbers as U16; entries at or above count are ignored (02 R55). -/
def oLockgroupMembers (i : Nat) : Nat := (0x3010 + i) * 256 + 0x03
/-- lockgroup.offset: capture-time offset o in ns, 0 to one period (02 R55). -/
def oLockgroupOffset (i : Nat) : Nat := (0x3010 + i) * 256 + 0x04
/-- lockgroup.absent: member frames found absent (02 R55). -/
def oLockgroupAbsent (i : Nat) : Nat := (0x3010 + i) * 256 + 0x05
/-- tick.period: N/D s, by R39 (02 R74). -/
def oTickPeriod : Nat := 0x3000 * 256 + 0x01
/-- tick.source: by R47 (02 R74). -/
def oTickSource : Nat := 0x3000 * 256 + 0x02
/-- tick.epoch: time of the epoch boundary, gPTP timescale (02 R74). -/
def oTickEpoch : Nat := 0x3000 * 256 + 0x03
/-- tick.epoch_number: tick number at tick.epoch (02 R74). -/
def oTickEpochNumber : Nat := 0x3000 * 256 + 0x04
/-- tick.steps: S (02 R74). -/
def oTickSteps : Nat := 0x3000 * 256 + 0x05
/-- tick.guard_nominal: G_nom in tile cycles (02 R74). -/
def oTickGuardNominal : Nat := 0x3000 * 256 + 0x06
/-- tick.lock_state: by R52 (02 R74). -/
def oTickLockState : Nat := 0x3000 * 256 + 0x07
/-- tick.holdover_error: estimated boundary error (02 R74). -/
def oTickHoldoverError : Nat := 0x3000 * 256 + 0x08
/-- tick.tick_out: TICK_OUT pulses, by R51 (02 R74). -/
def oTickTickOut : Nat := 0x3000 * 256 + 0x09
/-- tick.number: current persistent tick number (02 R74). -/
def oTickNumber : Nat := 0x3000 * 256 + 0x0A
/-- tick.slew_limit: guard change per tick, 1–256 tile cycles (02 R74). -/
def oTickSlewLimit : Nat := 0x3080 * 256 + 0x01
/-- tick.rephase_threshold: error above which a re-phase tick is used (02 R74). -/
def oTickRephaseThreshold : Nat := 0x3080 * 256 + 0x02
/-- tick.tick_in_window: TICK_IN acceptance, ±ns, 100–100,000 (02 R74). -/
def oTickTickInWindow : Nat := 0x3080 * 256 + 0x03
/-- tick.tick_in_loss: missing edges before holdover, 1–64 (02 R74). -/
def oTickTickInLoss : Nat := 0x3080 * 256 + 0x04
/-- tick.guard_last: length of the last guard in tile cycles (02 R74). -/
def oTickGuardLast : Nat := 0x3080 * 256 + 0x05
/-- tick.master_device: device id followed when tick.source is 3 (02 R74). -/
def oTickMasterDevice : Nat := 0x3080 * 256 + 0x06
/-- plan.package: digest of the program package whose plan runs (02 R74). -/
def oPlanPackage : Nat := 0x3100 * 256 + 0x01
/-- plan.active: package of the plan now in force (02 R74). -/
def oPlanActive : Nat := 0x3100 * 256 + 0x02
/-- plan.admission: code of the last rejection, 0 if none (02 R74). -/
def oPlanAdmission : Nat := 0x3100 * 256 + 0x03
/-- plan.budget_steps: B (02 R74). -/
def oPlanBudgetSteps : Nat := 0x3100 * 256 + 0x04
/-- plan.load_balance: by R66 (02 R74). -/
def oPlanLoadBalance : Nat := 0x3100 * 256 + 0x05
/-- plan.worst_tile_steps: highest per-tile sum found at admission (02 R74). -/
def oPlanWorstTileSteps : Nat := 0x3100 * 256 + 0x06
/-- plan.shed: items shed (02 R74). -/
def oPlanShed : Nat := 0x3100 * 256 + 0x07
/-- plan.overrun_ticks: ticks with shedding (02 R74). -/
def oPlanOverrunTicks : Nat := 0x3100 * 256 + 0x08
/-- plan.budget_percent: 50–90 (02 R74). -/
def oPlanBudgetPercent : Nat := 0x3180 * 256 + 0x01
/-- plan.class0_count: class-0 handlers dispatched (02 R74). -/
def oPlanClass0Count : Nat := 0x3180 * 256 + 0x02
/-- plan.class0_wait_max: largest dispatch wait seen, tile cycles (02 R74). -/
def oPlanClass0WaitMax : Nat := 0x3180 * 256 + 0x03
/-- quant.trips: tensor verdicts with any trip (06 R225). -/
def oQuantTrips : Nat := 0x6100 * 256 + 0x01
/-- quant.fallbacks: fallbacks run under R214 (06 R225). -/
def oQuantFallbacks : Nat := 0x6100 * 256 + 0x02
/-- quant.range_exceeded: items whose records carry RANGE_EXCEEDED (06 R225). -/
def oQuantRangeExceeded : Nat := 0x6100 * 256 + 0x03
/-- quant.scale_faults: SCALE_SKEW and SCALE_RANGE faults (06 R225). -/
def oQuantScaleFaults : Nat := 0x6100 * 256 + 0x04
/-- quant.kv_clamps: key and value groups clamped under R219 (06 R225). -/
def oQuantKvClamps : Nat := 0x6100 * 256 + 0x05
/-- quant.last_trip_layer: layer index of the last trip (06 R225). -/
def oQuantLastTripLayer : Nat := 0x6180 * 256 + 0x01
/-- quant.last_trip_context: stream context of the last trip (06 R225). -/
def oQuantLastTripContext : Nat := 0x6180 * 256 + 0x02
/-- identity.hbm_size: HBM in bytes (08 R249). -/
def oIdentityHbmSize : Nat := 0x1000 * 256 + 0x10
/-- identity.hbm_plan_size: HBM plan region in bytes, 23 GiB (08 R249). -/
def oIdentityHbmPlanSize : Nat := 0x1000 * 256 + 0x11
/-- identity.meadow_size: Meadow memory in bytes (08 R249). -/
def oIdentityMeadowSize : Nat := 0x1000 * 256 + 0x12
/-- identity.meadow_plan_size: Meadow plan region in bytes, 248 MiB (08 R249). -/
def oIdentityMeadowPlanSize : Nat := 0x1000 * 256 + 0x13
/-- identity.core_mem_size: core memory per tile (08 R249). -/
def oIdentityCoreMemSize : Nat := 0x1000 * 256 + 0x14
/-- identity.weight_buf_size: weight buffer per tile (08 R249). -/
def oIdentityWeightBufSize : Nat := 0x1000 * 256 + 0x15
/-- identity.act_buf_size: activation buffer per tile (08 R249). -/
def oIdentityActBufSize : Nat := 0x1000 * 256 + 0x16
/-- identity.acc_store_size: both accumulator sets per tile (08 R249). -/
def oIdentityAccStoreSize : Nat := 0x1000 * 256 + 0x17
/-- identity.vop_buf_size: vector operand buffer per tile (08 R249). -/
def oIdentityVopBufSize : Nat := 0x1000 * 256 + 0x18
/-- identity.ctrl_mem_size: system controller memory (08 R249). -/
def oIdentityCtrlMemSize : Nat := 0x1000 * 256 + 0x19
/-- tile.meadow_slots: Meadow slots granted to the port (08 R257). -/
def oTileMeadowSlots (i : Nat) : Nat := (0x6080 + i) * 256 + 0x01
/-- tile.meadow_waits: tile cycles its requests waited by R256 (08 R257). -/
def oTileMeadowWaits (i : Nat) : Nat := (0x6080 + i) * 256 + 0x02
/-- tile.port1_dma_cycles: core-memory port-1 cycles taken by DMA and the system controller, by R95 (08 R257). -/
def oTilePort1DmaCycles (i : Nat) : Nat := (0x6080 + i) * 256 + 0x03
/-- tile.core_parity: parity errors in core memory (08 R257). -/
def oTileCoreParity (i : Nat) : Nat := (0x6080 + i) * 256 + 0x04
/-- tile.opbuf_parity: parity errors in operand buffers (08 R257). -/
def oTileOpbufParity (i : Nat) : Nat := (0x6080 + i) * 256 + 0x05
/-- tile.step_reruns: step re-runs under R106 (08 R257). -/
def oTileStepReruns (i : Nat) : Nat := (0x6080 + i) * 256 + 0x06
/-- tile.class0_suppressed: class-0 stores suppressed, by R114 (08 R257). -/
def oTileClass0Suppressed (i : Nat) : Nat := (0x6080 + i) * 256 + 0x07
/-- tile.scrubs: scrubs under R268 (08 R257). -/
def oTileScrubs (i : Nat) : Nat := (0x6080 + i) * 256 + 0x08
/-- tile.bells_dropped: class-1 and class-0 doorbells sent to an id not in service, by R123 and R115 (08 R257). -/
def oTileBellsDropped (i : Nat) : Nat := (0x6080 + i) * 256 + 0x09
/-- tile.class0_unbound: class-0 triggers for a handler number that the plan does not give this tile, by R115 (08 R257). -/
def oTileClass0Unbound (i : Nat) : Nat := (0x6080 + i) * 256 + 0x0A
/-- meadow.waits: all waits of R256 (08 R257). -/
def oMeadowWaits : Nat := 0x6060 * 256 + 0x01
/-- meadow.parity: Meadow parity errors (08 R257). -/
def oMeadowParity : Nat := 0x6060 * 256 + 0x02
/-- meadow.refills: slots refilled under R263 (08 R257). -/
def oMeadowRefills : Nat := 0x6060 * 256 + 0x03
/-- mem.scrub_on_kill: scrub by R268 (08 R268). -/
def oMemScrubOnKill : Nat := 0x6061 * 256 + 0x01
/-- mem.scrub_value: byte written by the scrub (08 R268). -/
def oMemScrubValue : Nat := 0x6061 * 256 + 0x02
/-- hbm.corrected: granules corrected (08 R279). -/
def oHbmCorrected : Nat := 0x8120 * 256 + 0x01
/-- hbm.uncorrectable: uncorrectable reads (08 R279). -/
def oHbmUncorrectable : Nat := 0x8120 * 256 + 0x02
/-- hbm.patrol_passes: completed patrol passes (08 R279). -/
def oHbmPatrolPasses : Nat := 0x8120 * 256 + 0x03
/-- hbm.rows_remapped: rows under soft remap (08 R279). -/
def oHbmRowsRemapped : Nat := 0x8120 * 256 + 0x04
/-- hbm.rows_fused: rows fused in the stack (08 R279). -/
def oHbmRowsFused : Nat := 0x8120 * 256 + 0x05
/-- hbm.remap_free: free spare rows in the repair area (08 R279). -/
def oHbmRemapFree : Nat := 0x8120 * 256 + 0x06
/-- hbm.lanes_repaired: lanes moved to redundant lanes (08 R279). -/
def oHbmLanesRepaired : Nat := 0x8120 * 256 + 0x07
/-- hbm.temperature: stack temperature, °C (08 R279). -/
def oHbmTemperature : Nat := 0x8120 * 256 + 0x08
/-- hbm.refresh_doubled: refresh doubled now (08 R279). -/
def oHbmRefreshDoubled : Nat := 0x81A0 * 256 + 0x01
/-- hbm.repair_threshold: by R276, 1–16 (08 R279). -/
def oHbmRepairThreshold : Nat := 0x81A0 * 256 + 0x02
/-- hbm.refresh_mode: by R272; 0 or 1 (08 R279). -/
def oHbmRefreshMode : Nat := 0x8280 * 256 + 0x10
/-- dma.bytes: bytes written by the engine (09 R318). -/
def oDmaBytes (i : Nat) : Nat := (0x6200 + i) * 256 + 0x01
/-- dma.bus_errors: bus errors of R302 (09 R318). -/
def oDmaBusErrors (i : Nat) : Nat := (0x6200 + i) * 256 + 0x02
/-- dma.aborts: aborts of R301 (09 R318). -/
def oDmaAborts (i : Nat) : Nat := (0x6200 + i) * 256 + 0x03
/-- dma.paced_cycles: channel-cycles in PACED, or waiting under R308 (09 R318). -/
def oDmaPacedCycles (i : Nat) : Nat := (0x6200 + i) * 256 + 0x04
/-- dma.credit_cycles: channel-cycles in CREDIT (09 R318). -/
def oDmaCreditCycles (i : Nat) : Nat := (0x6200 + i) * 256 + 0x05
/-- dma.hbm_slots: owned HBM slots used (09 R318). -/
def oDmaHbmSlots (i : Nat) : Nat := (0x6200 + i) * 256 + 0x06
/-- queue.pool_free: free cells (09 R318). -/
def oQueuePoolFree : Nat := 0x6300 * 256 + 0x01
/-- queue.pool_low: lowest free count seen (09 R318). -/
def oQueuePoolLow : Nat := 0x6300 * 256 + 0x02
/-- queue.sys_reserve: reserve of R308, 0–32,768 (09 R318). -/
def oQueueSysReserve : Nat := 0x6300 * 256 + 0x03
/-- queue.poisoned: poisoned words read (09 R318). -/
def oQueuePoisoned : Nat := 0x6300 * 256 + 0x04
/-- queue.resets: resets of R317 (09 R318). -/
def oQueueResets : Nat := 0x6300 * 256 + 0x05
/-- queue.sweeps: completed sweeps of R316 (09 R318). -/
def oQueueSweeps : Nat := 0x6300 * 256 + 0x06
/-- queue.last_reset: queue of the last reset (09 R318). -/
def oQueueLastReset : Nat := 0x6300 * 256 + 0x07
/-- sq.limit: cell limit (09 R318). -/
def oSqLimit (i : Nat) : Nat := (0x6340 + i) * 256 + 0x01
/-- sq.high: high mark (09 R318). -/
def oSqHigh (i : Nat) : Nat := (0x6340 + i) * 256 + 0x02
/-- sq.low: low mark (09 R318). -/
def oSqLow (i : Nat) : Nat := (0x6340 + i) * 256 + 0x03
/-- sq.int_level: level of R312 (09 R318). -/
def oSqIntLevel (i : Nat) : Nat := (0x6340 + i) * 256 + 0x04
/-- sq.int_target: target tile, or 0xFF (09 R318). -/
def oSqIntTarget (i : Nat) : Nat := (0x6340 + i) * 256 + 0x05
/-- sq.fill: cells held (09 R318). -/
def oSqFill (i : Nat) : Nat := (0x6340 + i) * 256 + 0x06
/-- sq.items: items held (09 R318). -/
def oSqItems (i : Nat) : Nat := (0x6340 + i) * 256 + 0x07
/-- sq.linked: items linked since reset (09 R318). -/
def oSqLinked (i : Nat) : Nat := (0x6340 + i) * 256 + 0x08
/-- ctx.enable: context in force (10 R320). -/
def oCtxEnable (i : Nat) : Nat := (0x5400 + i) * 256 + 0x01
/-- ctx.port: 0 ETH0, 1 ETH1, 2 either port, by R324 (10 R320). -/
def oCtxPort (i : Nat) : Nat := (0x5400 + i) * 256 + 0x02
/-- ctx.dst_addr: destination IPv6 address, or IPv4 as an IPv4-mapped address (10 R320). -/
def oCtxDstAddr (i : Nat) : Nat := (0x5400 + i) * 256 + 0x03
/-- ctx.src_addr: source filter for a multicast group; all 0 means any source (10 R320). -/
def oCtxSrcAddr (i : Nat) : Nat := (0x5400 + i) * 256 + 0x04
/-- ctx.udp_port: destination UDP port, 1–65,535 (10 R320). -/
def oCtxUdpPort (i : Nat) : Nat := (0x5400 + i) * 256 + 0x05
/-- ctx.ssrc: RTP SSRC (10 R320). -/
def oCtxSsrc (i : Nat) : Nat := (0x5400 + i) * 256 + 0x06
/-- ctx.payload_type: RTP payload type, 0–127 (10 R320). -/
def oCtxPayloadType (i : Nat) : Nat := (0x5400 + i) * 256 + 0x07
/-- ctx.codec: 1 H.264 under RFC 6184; 2 H.265 under RFC 7798 (10 R320). -/
def oCtxCodec (i : Nat) : Nat := (0x5400 + i) * 256 + 0x08
/-- ctx.ring_base: bitstream ring in the HBM plan region (10 R320). -/
def oCtxRingBase (i : Nat) : Nat := (0x5400 + i) * 256 + 0x09
/-- ctx.ring_size: ring bytes; multiple of 4 KiB, 64 KiB to 1 GiB (10 R320). -/
def oCtxRingSize (i : Nat) : Nat := (0x5400 + i) * 256 + 0x0A
/-- ctx.dpb_base: first slot of the decoded picture buffer (10 R320). -/
def oCtxDpbBase (i : Nat) : Nat := (0x5400 + i) * 256 + 0x0B
/-- ctx.dpb_slots: picture slots, 0–32 (10 R320). -/
def oCtxDpbSlots (i : Nat) : Nat := (0x5400 + i) * 256 + 0x0C
/-- ctx.slot_size: bytes per slot, multiple of 4 KiB (10 R320). -/
def oCtxSlotSize (i : Nat) : Nat := (0x5400 + i) * 256 + 0x0D
/-- ctx.y_pitch: luma row pitch in bytes, multiple of 64 (10 R320). -/
def oCtxYPitch (i : Nat) : Nat := (0x5400 + i) * 256 + 0x0E
/-- ctx.c_pitch: chroma row pitch in bytes, multiple of 64 (10 R320). -/
def oCtxCPitch (i : Nat) : Nat := (0x5400 + i) * 256 + 0x0F
/-- ctx.max_luma: declared luma samples per picture (10 R320). -/
def oCtxMaxLuma (i : Nat) : Nat := (0x5400 + i) * 256 + 0x10
/-- ctx.max_fps: declared pictures per second (10 R320). -/
def oCtxMaxFps (i : Nat) : Nat := (0x5400 + i) * 256 + 0x11
/-- ctx.capture_mode: 0 arrival, 1 anchor, by R329 (10 R320). -/
def oCtxCaptureMode (i : Nat) : Nat := (0x5400 + i) * 256 + 0x12
/-- ctx.capture_latency: mode 0 offset (10 R320). -/
def oCtxCaptureLatency (i : Nat) : Nat := (0x5400 + i) * 256 + 0x13
/-- ctx.anchor_rtp: mode 1: extended RTP timestamp of the anchor (10 R320). -/
def oCtxAnchorRtp (i : Nat) : Nat := (0x5400 + i) * 256 + 0x14
/-- ctx.anchor_time: mode 1: capture time of the anchor, gPTP timescale (10 R320). -/
def oCtxAnchorTime (i : Nat) : Nat := (0x5400 + i) * 256 + 0x15
/-- ctx.param_sets: out-of-band parameter sets, by R326 (10 R320). -/
def oCtxParamSets (i : Nat) : Nat := (0x5400 + i) * 256 + 0x16
/-- ctx.q_limit: cell limit of intake queue c (10 R320). -/
def oCtxQLimit (i : Nat) : Nat := (0x5400 + i) * 256 + 0x17
/-- ctx.q_high: high mark (10 R320). -/
def oCtxQHigh (i : Nat) : Nat := (0x5400 + i) * 256 + 0x18
/-- ctx.q_low: low mark (10 R320). -/
def oCtxQLow (i : Nat) : Nat := (0x5400 + i) * 256 + 0x19
/-- ctx.q_int_level: level of R312 (10 R320). -/
def oCtxQIntLevel (i : Nat) : Nat := (0x5400 + i) * 256 + 0x1A
/-- ctx.q_int_target: target of R312 (10 R320). -/
def oCtxQIntTarget (i : Nat) : Nat := (0x5400 + i) * 256 + 0x1B
/-- ctx.state: 0 DISABLED, 1 EMPTY, 2 WAIT_IDR, 3 RUNNING, 4 SUSPENDED (10 R320). -/
def oCtxState (i : Nat) : Nat := (0x5400 + i) * 256 + 0x40
/-- ctx.units: AU_SEQ of the last unit completed (10 R320). -/
def oCtxUnits (i : Nat) : Nat := (0x5400 + i) * 256 + 0x41
/-- ctx.pictures: pictures delivered (10 R320). -/
def oCtxPictures (i : Nat) : Nat := (0x5400 + i) * 256 + 0x42
/-- ctx.dropped: units dropped or skipped (10 R320). -/
def oCtxDropped (i : Nat) : Nat := (0x5400 + i) * 256 + 0x43
/-- ctx.resyncs: entries into WAIT_IDR (10 R320). -/
def oCtxResyncs (i : Nat) : Nat := (0x5400 + i) * 256 + 0x44
/-- ctx.last_code: code of the last entry into WAIT_IDR or SUSPENDED (10 R320). -/
def oCtxLastCode (i : Nat) : Nat := (0x5400 + i) * 256 + 0x45
/-- ctx.superseded: frames superseded, by R29 and R56 (10 R320). -/
def oCtxSuperseded (i : Nat) : Nat := (0x5400 + i) * 256 + 0x46
/-- ctx.late_packets: late or duplicate packets, by R324 (10 R320). -/
def oCtxLatePackets (i : Nat) : Nat := (0x5400 + i) * 256 + 0x47
/-- ctx.seq_gaps: sequence gaps, by R324 (10 R320). -/
def oCtxSeqGaps (i : Nat) : Nat := (0x5400 + i) * 256 + 0x48
/-- stream.enabled: contexts enabled and not empty (10 R342). -/
def oStreamEnabled : Nat := 0x5000 * 256 + 0x01
/-- stream.unmatched_eth0: frames dropped by R26 on ETH0 (10 R342). -/
def oStreamUnmatchedEth0 : Nat := 0x5000 * 256 + 0x02
/-- stream.unmatched_eth1: likewise on ETH1 (10 R342). -/
def oStreamUnmatchedEth1 : Nat := 0x5000 * 256 + 0x03
/-- stream.declared_load: sum of R334 × 1.001, samples/s (10 R342). -/
def oStreamDeclaredLoad : Nat := 0x5000 * 256 + 0x04
/-- decode.in_service: engines in service (10 R342). -/
def oDecodeInService : Nat := 0x5800 * 256 + 0x01
/-- decode.capacity: by R334 (10 R342). -/
def oDecodeCapacity : Nat := 0x5800 * 256 + 0x02
/-- decode.spare_used: the spare engine is in service (10 R342). -/
def oDecodeSpareUsed : Nat := 0x5800 * 256 + 0x03
/-- decode.pictures: pictures delivered, all contexts (10 R342). -/
def oDecodePictures : Nat := 0x5800 * 256 + 0x04
/-- decode.engine_busy: busy tile cycles of engines 0–8 (10 R342). -/
def oDecodeEngineBusy (i : Nat) : Nat := 0x5880 * 256 + 0x01 + i
/-- decode.engine_faults: DECODE_ENGINE_FAULT events (10 R342). -/
def oDecodeEngineFaults : Nat := 0x5880 * 256 + 0x0A
/-- port.mode: by R344 (11 R375). -/
def oPortMode (i : Nat) : Nat := (0x4000 + i) * 256 + 0x01
/-- port.mac: MAC address (11 R375). -/
def oPortMac (i : Nat) : Nat := (0x4000 + i) * 256 + 0x03
/-- port.ipv4: IPv4 address (11 R375). -/
def oPortIpv4 (i : Nat) : Nat := (0x4000 + i) * 256 + 0x04
/-- port.ipv4_prefix: prefix length, 0–32 (11 R375). -/
def oPortIpv4Prefix (i : Nat) : Nat := (0x4000 + i) * 256 + 0x05
/-- port.ipv6: global IPv6 address (11 R375). -/
def oPortIpv6 (i : Nat) : Nat := (0x4000 + i) * 256 + 0x06
/-- port.vid: by R360 (11 R375). -/
def oPortVid (i : Nat) : Nat := (0x4000 + i) * 256 + 0x07
/-- port.accept_vids: by R360 (11 R375). -/
def oPortAcceptVids (i : Nat) : Nat := (0x4000 + i) * 256 + 0x08
/-- port.pcp_map: PCP of each class; default PCP c for class c (11 R375). -/
def oPortPcpMap (i : Nat) : Nat := (0x4000 + i) * 256 + 0x09
/-- port.link: link up (11 R375). -/
def oPortLink (i : Nat) : Nat := (0x4000 + i) * 256 + 0x40
/-- port.speed: Mbit/s (11 R375). -/
def oPortSpeed (i : Nat) : Nat := (0x4000 + i) * 256 + 0x41
/-- port.preempt: by R352 (11 R375). -/
def oPortPreempt (i : Nat) : Nat := (0x4000 + i) * 256 + 0x42
/-- port.rx_dropped: drops by R345, R346, R360 (11 R375). -/
def oPortRxDropped (i : Nat) : Nat := (0x4000 + i) * 256 + 0x43
/-- port.add_frag: by R352 (11 R375). -/
def oPortAddFrag (i : Nat) : Nat := (0x4080 + i) * 256 + 0x01
/-- port.preempt_enable: by R352 (11 R375). -/
def oPortPreemptEnable (i : Nat) : Nat := (0x4080 + i) * 256 + 0x02
/-- macsec.enable: by R361 (11 R375). -/
def oMacsecEnable (i : Nat) : Nat := (0x4008 + i) * 256 + 0x01
/-- macsec.ckn: CKN (11 R375). -/
def oMacsecCkn (i : Nat) : Nat := (0x4008 + i) * 256 + 0x02
/-- macsec.cak: CAK, by R362 (11 R375). -/
def oMacsecCak (i : Nat) : Nat := (0x4008 + i) * 256 + 0x03
/-- macsec.replay_window: by R361 (11 R375). -/
def oMacsecReplayWindow (i : Nat) : Nat := (0x4008 + i) * 256 + 0x04
/-- macsec.key_server_priority: by R362 (11 R375). -/
def oMacsecKeyServerPriority (i : Nat) : Nat := (0x4008 + i) * 256 + 0x05
/-- macsec.state: 0 OFF, 1 MKA_PENDING, 2 SECURED, 3 FAILED (11 R375). -/
def oMacsecState (i : Nat) : Nat := (0x4008 + i) * 256 + 0x40
/-- macsec.rx_dropped: by R361 (11 R375). -/
def oMacsecRxDropped (i : Nat) : Nat := (0x4008 + i) * 256 + 0x41
/-- gcl.count: by R349 (11 R375). -/
def oGclCount (i : Nat) : Nat := (0x4010 + i) * 256 + 0x01
/-- gcl.cycle_time: ns (11 R375). -/
def oGclCycleTime (i : Nat) : Nat := (0x4010 + i) * 256 + 0x02
/-- gcl.base_time: gPTP timescale (11 R375). -/
def oGclBaseTime (i : Nat) : Nat := (0x4010 + i) * 256 + 0x03
/-- gcl.entries: by R349 (11 R375). -/
def oGclEntries (i : Nat) : Nat := (0x4010 + i) * 256 + 0x04
/-- qci.filters: by R354 (11 R375). -/
def oQciFilters : Nat := 0x4020 * 256 + 0x01
/-- qci.counters: by R356 (11 R375). -/
def oQciCounters : Nat := 0x4020 * 256 + 0x40
/-- frer.listeners: by R359 (11 R375). -/
def oFrerListeners : Nat := 0x4028 * 256 + 0x01
/-- frer.replicate: by R358 (11 R375). -/
def oFrerReplicate : Nat := 0x4028 * 256 + 0x02
/-- frer.counters: passed, discarded per listener (11 R375). -/
def oFrerCounters : Nat := 0x4028 * 256 + 0x40
/-- ptp.state: 0 SEARCHING, 1 SLAVE, 2 HOLDOVER (11 R375). -/
def oPtpState : Nat := 0x4030 * 256 + 0x40
/-- ptp.slave_port: port in slave state (11 R375). -/
def oPtpSlavePort : Nat := 0x4030 * 256 + 0x41
/-- ptp.offset: last offset from master, ns (11 R375). -/
def oPtpOffset : Nat := 0x4030 * 256 + 0x42
/-- ptp.gm_identity: grandmaster identity (11 R375). -/
def oPtpGmIdentity : Nat := 0x4030 * 256 + 0x43
/-- ptp.holdover_error: by R366 (11 R375). -/
def oPtpHoldoverError : Nat := 0x4030 * 256 + 0x44
/-- ptp.freq_uncertainty: u_f, 10⁻⁹ (11 R375). -/
def oPtpFreqUncertainty : Nat := 0x40B0 * 256 + 0x01
/-- ptp.aging: u_a, 10⁻⁹ per day (11 R375). -/
def oPtpAging : Nat := 0x40B0 * 256 + 0x02
/-- alarm.dst_addr: by R367 (11 R375). -/
def oAlarmDstAddr : Nat := 0x4038 * 256 + 0x01
/-- alarm.udp_port: destination UDP port (11 R375). -/
def oAlarmUdpPort : Nat := 0x4038 * 256 + 0x02
/-- alarm.ports: port mask (11 R375). -/
def oAlarmPorts : Nat := 0x4038 * 256 + 0x03
/-- alarm.pulse_width: by R369 (11 R375). -/
def oAlarmPulseWidth : Nat := 0x4038 * 256 + 0x04
/-- alarm.pulse_low: active level low (11 R375). -/
def oAlarmPulseLow : Nat := 0x4038 * 256 + 0x05
/-- alarm.sent: emits (11 R375). -/
def oAlarmSent : Nat := 0x4038 * 256 + 0x40
/-- alarm.collisions: by R35 (11 R375). -/
def oAlarmCollisions : Nat := 0x4038 * 256 + 0x41
/-- alarm.port_down: by R368 (11 R375). -/
def oAlarmPortDown : Nat := 0x4038 * 256 + 0x42
/-- result.dst_addr: by R370 (11 R375). -/
def oResultDstAddr : Nat := 0x4040 * 256 + 0x01
/-- result.udp_port: destination UDP port (11 R375). -/
def oResultUdpPort : Nat := 0x4040 * 256 + 0x02
/-- result.ports: port mask (11 R375). -/
def oResultPorts : Nat := 0x4040 * 256 + 0x03
/-- result.sequence: next SEQ (11 R375). -/
def oResultSequence : Nat := 0x4040 * 256 + 0x40
/-- result.retained_first: by R372 (11 R375). -/
def oResultRetainedFirst : Nat := 0x4040 * 256 + 0x41
/-- commit.request: commits the writer's stage; 0, or target tick number (12 R384). -/
def oCommitRequest : Nat := 0x3001 * 256 + 0x01
/-- commit.last_applied: tick number at which the last commit applied (12 R384). -/
def oCommitLastApplied : Nat := 0x3001 * 256 + 0x02
/-- commit.pending: commits accepted and not yet applied (12 R384). -/
def oCommitPending : Nat := 0x3001 * 256 + 0x03
/-- commit.last_code: code of the last rejection (12 R384). -/
def oCommitLastCode : Nat := 0x3001 * 256 + 0x04
/-- commit.last_object: [31:16] index, [7:0] subindex of the last rejection (12 R384). -/
def oCommitLastObject : Nat := 0x3001 * 256 + 0x05
/-- commit.discard: TRUE empties the writer's stage (12 R384). -/
def oCommitDiscard : Nat := 0x3001 * 256 + 0x06
/-- identity.serial: serial number (12 R406). -/
def oIdentitySerial : Nat := 0x1000 * 256 + 0x04
/-- identity.firmware_version: running firmware: [31:24] major, [23:16] minor, [15:0] build (12 R406). -/
def oIdentityFirmwareVersion : Nat := 0x1000 * 256 + 0x05
/-- identity.firmware_digest: SHA-384 of the running image (12 R406). -/
def oIdentityFirmwareDigest : Nat := 0x1000 * 256 + 0x06
/-- identity.dictionary_version: version of this object set (12 R406). -/
def oIdentityDictionaryVersion : Nat := 0x1000 * 256 + 0x07
/-- lc.state: 0 BLANK, 1 DEVELOPMENT, 2 DEPLOYED, 3 RETURNED, 4 ENDED (12 R406). -/
def oLcState : Nat := 0x1100 * 256 + 0x01
/-- lc.device_cert: the CERT of R388, zero-padded (12 R406). -/
def oLcDeviceCert : Nat := 0x1100 * 256 + 0x02
/-- lc.owner_keys: 4 × 98 bytes: 97-byte public key, then [0] Basic, [1] Expert permitted; all-zero key unused (12 R406). -/
def oLcOwnerKeys : Nat := 0x1180 * 256 + 0x10
/-- alaust.udp_port: by R385 (12 R406). -/
def oAlaustUdpPort : Nat := 0x4100 * 256 + 0x01
/-- alaust.ports: port mask (12 R406). -/
def oAlaustPorts : Nat := 0x4100 * 256 + 0x02
/-- alaust.sessions: established sessions (12 R406). -/
def oAlaustSessions : Nat := 0x4100 * 256 + 0x03
/-- alaust.idle_timeout: by R392 (12 R406). -/
def oAlaustIdleTimeout : Nat := 0x4100 * 256 + 0x04
/-- alaust.notify_first: oldest NSEQ in the ring (12 R406). -/
def oAlaustNotifyFirst : Nat := 0x4100 * 256 + 0x06
/-- alaust.notify_next: next NSEQ (12 R406). -/
def oAlaustNotifyNext : Nat := 0x4100 * 256 + 0x07
/-- alaust.notify_ring: by R401 (12 R406). -/
def oAlaustNotifyRing : Nat := 0x4100 * 256 + 0x08
/-- alaust.auth_failures: by R390 (12 R406). -/
def oAlaustAuthFailures : Nat := 0x4100 * 256 + 0x40
/-- alaust.replays: by R391 (12 R406). -/
def oAlaustReplays : Nat := 0x4100 * 256 + 0x41
/-- alaust.malformed: by R386, R388, R390 (12 R406). -/
def oAlaustMalformed : Nat := 0x4100 * 256 + 0x42
/-- test.addr: first byte shown by test.data (12 R407). -/
def oTestAddr : Nat := 0xF000 * 256 + 0x01
/-- test.ptile: physical tile for tile-window addresses; 0xFF follows the logical id (12 R407). -/
def oTestPtile : Nat := 0xF000 * 256 + 0x02
/-- test.data: 1,024 bytes from test.addr (12 R407). -/
def oTestData : Nat := 0xF000 * 256 + 0x03
/-- test.errors: bit i: byte i of the last access failed its parity or ECC, in a read or in the merge read of a write (12 R407). -/
def oTestErrors : Nat := 0xF000 * 256 + 0x04
/-- test.inject: [47:0] address, [50:48] bit to invert, [63:51] 0 (12 R407). -/
def oTestInject : Nat := 0xF080 * 256 + 0x01
/-- test.injected: faults injected since start (12 R407). -/
def oTestInjected : Nat := 0xF080 * 256 + 0x02
/-- beryl.device_id: by R420 (13 R438). -/
def oBerylDeviceId : Nat := 0x7000 * 256 + 0x01
/-- beryl.routes: by R421 (13 R438). -/
def oBerylRoutes : Nat := 0x7000 * 256 + 0x02
/-- beryl.laser_power: LSIN power, 0.01 dBm (13 R438). -/
def oBerylLaserPower : Nat := 0x7000 * 256 + 0x03
/-- beryl.laser_ok: by R412 (13 R438). -/
def oBerylLaserOk : Nat := 0x7000 * 256 + 0x04
/-- link.enable: port in use (13 R438). -/
def oLinkEnable (i : Nat) : Nat := (0x7010 + i) * 256 + 0x01
/-- link.state: by R419 (13 R438). -/
def oLinkState (i : Nat) : Nat := (0x7010 + i) * 256 + 0x02
/-- link.peer: peer device id (13 R438). -/
def oLinkPeer (i : Nat) : Nat := (0x7010 + i) * 256 + 0x03
/-- link.delay: one-way delay, ns (13 R438). -/
def oLinkDelay (i : Nat) : Nat := (0x7010 + i) * 256 + 0x04
/-- link.crc_errors: by R417 (13 R438). -/
def oLinkCrcErrors (i : Nat) : Nat := (0x7010 + i) * 256 + 0x05
/-- link.replays: by R417 (13 R438). -/
def oLinkReplays (i : Nat) : Nat := (0x7010 + i) * 256 + 0x06
/-- link.rx_power: received OMA, 0.01 dBm (13 R438). -/
def oLinkRxPower (i : Nat) : Nat := (0x7010 + i) * 256 + 0x07
/-- link.lane_spared: by R413 (13 R438). -/
def oLinkLaneSpared (i : Nat) : Nat := (0x7010 + i) * 256 + 0x08
/-- link.frames: WRITE frames sent (13 R438). -/
def oLinkFrames (i : Nat) : Nat := (0x7010 + i) * 256 + 0x09
/-- link.dropped: frames dropped by R421 and R437 (13 R438). -/
def oLinkDropped (i : Nat) : Nat := (0x7010 + i) * 256 + 0x0A
/-- link.lane_threshold: by R413, 1–1,024 (13 R438). -/
def oLinkLaneThreshold (i : Nat) : Nat := (0x7090 + i) * 256 + 0x01
/-- link.down_limit: by R418, 1 ms to 10 s (13 R438). -/
def oLinkDownLimit (i : Nat) : Nat := (0x7090 + i) * 256 + 0x02
/-- window.target: backing memory (13 R438). -/
def oWindowTarget (i : Nat) : Nat := (0x7100 + i) * 256 + 0x01
/-- window.offset: start in own remote space (13 R438). -/
def oWindowOffset (i : Nat) : Nat := (0x7100 + i) * 256 + 0x02
/-- window.size: bytes; 0 closed (13 R438). -/
def oWindowSize (i : Nat) : Nat := (0x7100 + i) * 256 + 0x03
/-- window.sources: bit d: device d may write (13 R438). -/
def oWindowSources (i : Nat) : Nat := (0x7100 + i) * 256 + 0x04
/-- window.credits: per source, by R425 (13 R438). -/
def oWindowCredits (i : Nat) : Nat := (0x7100 + i) * 256 + 0x05
/-- window.close_limit: by R432 (13 R438). -/
def oWindowCloseLimit (i : Nat) : Nat := (0x7100 + i) * 256 + 0x06
/-- window.state: 0 CLOSED, 1 OPEN, 2 CLOSING (13 R438). -/
def oWindowState (i : Nat) : Nat := (0x7100 + i) * 256 + 0x40
/-- window.bytes: bytes accepted (13 R438). -/
def oWindowBytes (i : Nat) : Nat := (0x7100 + i) * 256 + 0x41
/-- window.closed_drops: by R432 (13 R438). -/
def oWindowClosedDrops (i : Nat) : Nat := (0x7100 + i) * 256 + 0x42
/-- window.outstanding: by R430 (13 R438). -/
def oWindowOutstanding (i : Nat) : Nat := (0x7100 + i) * 256 + 0x43
/-- beryl.remote_table: 256 × 16 bytes: device, window, generation, state, offset, size, pool (13 R438). -/
def oBerylRemoteTable : Nat := 0x7180 * 256 + 0x01
/-- det.repeatable: by R445 (14 R470). -/
def oDetRepeatable : Nat := 0x8200 * 256 + 0x01
/-- det.run_tick: by R442 (14 R470). -/
def oDetRunTick : Nat := 0x8200 * 256 + 0x02
/-- det.pause: by R451 (14 R470). -/
def oDetPause : Nat := 0x8200 * 256 + 0x03
/-- det.paused: by R451 (14 R470). -/
def oDetPaused : Nat := 0x8200 * 256 + 0x04
/-- det.save_digest: by R452 (14 R470). -/
def oDetSaveDigest : Nat := 0x8200 * 256 + 0x05
/-- det.verify_resume: by R453 (14 R470). -/
def oDetVerifyResume : Nat := 0x8200 * 256 + 0x06
/-- det.last_seal: by R465 (14 R470). -/
def oDetLastSeal : Nat := 0x8200 * 256 + 0x07
/-- det.seals: seals sent (14 R470). -/
def oDetSeals : Nat := 0x8200 * 256 + 0x08
/-- det.late_remote: by R448 (14 R470). -/
def oDetLateRemote : Nat := 0x8200 * 256 + 0x09
/-- det.clean_start: by R467 (14 R470). -/
def oDetCleanStart : Nat := 0x8200 * 256 + 0x0A
/-- det.closed_at_boundary: ticks closed at the boundary, by R462 (14 R470). -/
def oDetClosedAtBoundary : Nat := 0x8200 * 256 + 0x0B
/-- det.time_mode: by R446 (14 R470). -/
def oDetTimeMode : Nat := 0x8280 * 256 + 0x11
/-- det.rng_mode: by R447 (14 R470). -/
def oDetRngMode : Nat := 0x8280 * 256 + 0x12
/-- det.test_alarms: by R449 (14 R470). -/
def oDetTestAlarms : Nat := 0x8280 * 256 + 0x13
/-- tile.role: 0 IN_SERVICE, 1 SPARE, 2 ACTING, 3 BIST, 4 SUSPECT, 5 RETIRED, 6 OFF (15 R494). -/
def oTileRole (i : Nat) : Nat := (0x6000 + i) * 256 + 0x01
/-- tile.logical: logical or acting id; 0xFF none (15 R494). -/
def oTileLogical (i : Nat) : Nat := (0x6000 + i) * 256 + 0x02
/-- tile.hw_faults: hardware faults of R480 (15 R494). -/
def oTileHwFaults (i : Nat) : Nat := (0x6000 + i) * 256 + 0x03
/-- tile.bist_passes:  (15 R494). -/
def oTileBistPasses (i : Nat) : Nat := (0x6000 + i) * 256 + 0x04
/-- tile.bist_last: gPTP time of the last pass (15 R494). -/
def oTileBistLast (i : Nat) : Nat := (0x6000 + i) * 256 + 0x05
/-- tile.suspects: entries into SUSPECT (15 R494). -/
def oTileSuspects (i : Nat) : Nat := (0x6000 + i) * 256 + 0x06
/-- fault.state: 0 NORMAL, 1 DEGRADED, 2 DANGEROUS (15 R494). -/
def oFaultState : Nat := 0x8000 * 256 + 0x01
/-- fault.fault_n: FAULT_N asserted (15 R494). -/
def oFaultFaultN : Nat := 0x8000 * 256 + 0x02
/-- fault.clear: by R489 (15 R494). -/
def oFaultClear : Nat := 0x8000 * 256 + 0x03
/-- fault.last_code:  (15 R494). -/
def oFaultLastCode : Nat := 0x8000 * 256 + 0x04
/-- fault.job_faults:  (15 R494). -/
def oFaultJobFaults : Nat := 0x8000 * 256 + 0x05
/-- fault.restarts:  (15 R494). -/
def oFaultRestarts : Nat := 0x8000 * 256 + 0x06
/-- fault.failed: items ended FAILED (15 R494). -/
def oFaultFailed : Nat := 0x8000 * 256 + 0x07
/-- fault.bist_age_max: by R484 (15 R494). -/
def oFaultBistAgeMax : Nat := 0x8000 * 256 + 0x08
/-- patrol.last_pass: by R485 (15 R494). -/
def oPatrolLastPass : Nat := 0x8000 * 256 + 0x09
/-- patrol.replays:  (15 R494). -/
def oPatrolReplays : Nat := 0x8000 * 256 + 0x0A
/-- patrol.mismatches:  (15 R494). -/
def oPatrolMismatches : Nat := 0x8000 * 256 + 0x0B
/-- patrol.abandoned:  (15 R494). -/
def oPatrolAbandoned : Nat := 0x8000 * 256 + 0x0C
/-- patrol.period: 100 ms to 10 s (15 R494). -/
def oPatrolPeriod : Nat := 0x8080 * 256 + 0x01
/-- fault.test_alarm: by R491 (15 R494). -/
def oFaultTestAlarm : Nat := 0x8080 * 256 + 0x03
/-- spares.map: per physical tile: role, logical id (15 R494). -/
def oSparesMap : Nat := 0x8100 * 256 + 0x01
/-- spares.free: tiles in role SPARE (15 R494). -/
def oSparesFree : Nat := 0x8100 * 256 + 0x02
/-- spares.retired:  (15 R494). -/
def oSparesRetired : Nat := 0x8100 * 256 + 0x03
/-- spares.vacant: bit i: logical id i vacant (15 R494). -/
def oSparesVacant : Nat := 0x8100 * 256 + 0x04
/-- trng.active: 0 or 1; 0xFF none (15 R494). -/
def oTrngActive : Nat := 0x8100 * 256 + 0x05
/-- lc.fw_svn: FW_SVN (16 R533). -/
def oLcFwSvn : Nat := 0x1100 * 256 + 0x03
/-- lc.pkg_svn: PKG_SVN (16 R533). -/
def oLcPkgSvn : Nat := 0x1100 * 256 + 0x04
/-- lc.key_slots: [3:0] programmed, [7:4] revoked (16 R533). -/
def oLcKeySlots : Nat := 0x1100 * 256 + 0x05
/-- lc.transitions: transition count (16 R533). -/
def oLcTransitions : Nat := 0x1100 * 256 + 0x06
/-- lc.transition: target state, by R521 (16 R533). -/
def oLcTransition : Nat := 0x1180 * 256 + 0x01
/-- lc.pkg_svn_raise: new PKG_SVN (16 R533). -/
def oLcPkgSvnRaise : Nat := 0x1180 * 256 + 0x02
/-- lc.package_keys: 4 × 97-byte P-384 public keys (16 R533). -/
def oLcPackageKeys : Nat := 0x1180 * 256 + 0x11
/-- keep.devices: 1 or 2 (16 R533). -/
def oKeepDevices : Nat := 0x1200 * 256 + 0x01
/-- keep.layout: 1 L128, 2 L256 (16 R533). -/
def oKeepLayout : Nat := 0x1200 * 256 + 0x02
/-- keep.state: 0 OK, 1 ONE_DEVICE, 2 FAILED (16 R533). -/
def oKeepState : Nat := 0x1200 * 256 + 0x03
/-- keep.erase_max: erases of the most-worn block (16 R533). -/
def oKeepEraseMax : Nat := 0x1200 * 256 + 0x04
/-- keep.projected_life: days, by R503 (16 R533). -/
def oKeepProjectedLife : Nat := 0x1200 * 256 + 0x05
/-- keep.model_free: free bytes in the model store (16 R533). -/
def oKeepModelFree : Nat := 0x1200 * 256 + 0x06
/-- keep.models: 16 × 64 bytes: digest, length, device, flags (16 R533). -/
def oKeepModels : Nat := 0x1200 * 256 + 0x07
/-- keep.model_delete: by R523 (16 R533). -/
def oKeepModelDelete : Nat := 0x1200 * 256 + 0x08
/-- keep.checkpoint_period: by R513 (16 R533). -/
def oKeepCheckpointPeriod : Nat := 0x1200 * 256 + 0x09
/-- keep.checkpoint_last: CP_RUN_TICK of the newest checkpoint that counts (16 R533). -/
def oKeepCheckpointLast : Nat := 0x1200 * 256 + 0x0A
/-- keep.restart_package: by R531 (16 R533). -/
def oKeepRestartPackage : Nat := 0x1200 * 256 + 0x0B
/-- keep.last_start: 0 first, 1 with a valid power-fail record, 2 without, 3 recovered from the host (16 R533). -/
def oKeepLastStart : Nat := 0x1200 * 256 + 0x0C
/-- firmware.state: 0 IDLE, 1 STAGED, 2 SWITCHING, 3 REWRITING (16 R533). -/
def oFirmwareState : Nat := 0x1210 * 256 + 0x01
/-- firmware.staged_digest: staged image (16 R533). -/
def oFirmwareStagedDigest : Nat := 0x1210 * 256 + 0x02
/-- keep.endurance: cycles per block (16 R533). -/
def oKeepEndurance : Nat := 0x1280 * 256 + 0x01
/-- keep.restart_lock_wait: by R531 (16 R533). -/
def oKeepRestartLockWait : Nat := 0x1280 * 256 + 0x02
/-- keep.autostart: by R531 (16 R533). -/
def oKeepAutostart : Nat := 0x1280 * 256 + 0x03
/-- firmware.switch: by R529 (16 R533). -/
def oFirmwareSwitch : Nat := 0x1290 * 256 + 0x01
/-- power.state: by R541 (17 R557). -/
def oPowerState : Nat := 0x2000 * 256 + 0x01
/-- power.measured: 1 ms average power, mW (17 R557). -/
def oPowerMeasured : Nat := 0x2000 * 256 + 0x02
/-- power.cap_enable: by R542 (17 R557). -/
def oPowerCapEnable : Nat := 0x2000 * 256 + 0x03
/-- power.cap: W (17 R557). -/
def oPowerCap : Nat := 0x2000 * 256 + 0x04
/-- power.throttle: L, 0–12 (17 R557). -/
def oPowerThrottle : Nat := 0x2000 * 256 + 0x05
/-- power.junction: highest sensor, °C (17 R557). -/
def oPowerJunction : Nat := 0x2000 * 256 + 0x06
/-- power.idle_cycles: idle cycles of R543 summed over tiles (17 R557). -/
def oPowerIdleCycles : Nat := 0x2000 * 256 + 0x07
/-- power.rails: 12 × U16, mV, in the order of R545 (17 R557). -/
def oPowerRails : Nat := 0x2000 * 256 + 0x08
/-- power.temp_limit: junction limit of R542, °C (17 R557). -/
def oPowerTempLimit : Nat := 0x2080 * 256 + 0x01
/-- power.domains: state of each domain: 0 Run, 1 Hold, 2 Rest, 3 Nap, 4 Off (17 R557). -/
def oPowerDomains : Nat := 0x2080 * 256 + 0x02
/-- power.wake_waits: slots waited by queued wake-ups (17 R557). -/
def oPowerWakeWaits : Nat := 0x2080 * 256 + 0x03
/-- power.wake_queue_max: longest queue seen (17 R557). -/
def oPowerWakeQueueMax : Nat := 0x2080 * 256 + 0x04
/-- clock.pll_active: core PLL driving the tree (17 R557). -/
def oClockPllActive : Nat := 0x2100 * 256 + 0x01
/-- clock.pll_locked: [0] core 0, [1] core 1, [2] HBM, [4:3] ETH0–1, [8:5] BL0–3, [15:9] reserved (17 R557). -/
def oClockPllLocked : Nat := 0x2100 * 256 + 0x02
/-- clock.refclk_ok: REFCLK_25 present (17 R557). -/
def oClockRefclkOk : Nat := 0x2100 * 256 + 0x03
/-- clock.eth_refclk_ok: ETH_REFCLK present (17 R557). -/
def oClockEthRefclkOk : Nat := 0x2100 * 256 + 0x04
/-- reset.last_cause: by R552 (17 R557). -/
def oResetLastCause : Nat := 0x2100 * 256 + 0x05
/-- reset.phase: by R554 (17 R557). -/
def oResetPhase : Nat := 0x2100 * 256 + 0x06
/-- reset.ready_time: PORST_N rise to the first boundary (17 R557). -/
def oResetReadyTime : Nat := 0x2100 * 256 + 0x07
/-- clock.refclk_offset: REFCLK_25 against the time base, ppb (17 R557). -/
def oClockRefclkOffset : Nat := 0x2180 * 256 + 0x01
/-- reset.request: 1: requested reset by R552 (17 R557). -/
def oResetRequest : Nat := 0x2180 * 256 + 0x02
/-- pps.in_time: time of the last PPS_IN rising edge (18 R571). -/
def oPpsInTime : Nat := 0x3000 * 256 + 0x0B
/-- pps.in_offset: pps.in_time less its nearest whole second, ns (18 R571). -/
def oPpsInOffset : Nat := 0x3000 * 256 + 0x0C
/-- pps.in_count: PPS_IN edges seen (18 R571). -/
def oPpsInCount : Nat := 0x3000 * 256 + 0x0D
/-- pps.out_enable: PPS_OUT pulses (18 R571). -/
def oPpsOutEnable : Nat := 0x3000 * 256 + 0x0E

end Sys2Proof.Machine
end

