-- ==== Sys2Proof/Machine/State.lean ====
section
/-! DEFINITION. The state of the part: every register, memory, buffer, counter, mode and pin that the spec gives it, as plain data.
Each structure's default field values are its values right after reset (notes/assumptions/4.md and 6.md name those the spec does not give). -/

namespace Sys2Proof.Machine

/-- What the factory fixes in one part (00 R5, 01 R22, R25; notes/assumptions/7.md). -/
structure Part where
  /-- the part is an ME6448 (00 R5). -/
  small : Bool := false
  /-- identity.serial (12 R406). -/
  serial : List (BitVec 8) := []
  /-- port.mac of ETH0 and ETH1 (11 R375). -/
  mac : List (List (BitVec 8)) := []
  /-- lc.device_cert (12 R406). -/
  cert : List (BitVec 8) := []
  /-- keep-store devices fitted (16 R497). -/
  devices : Nat := 1
  /-- layout L256 (16 R498). -/
  dense : Bool := true
  deriving DecidableEq, Repr

/-- The cause for which the core issues no bundle (03 R83). A wait keeps its C-slot word for INT_WAIT (03 R108) and whether reti reissued it alone (03 R110). -/
inductive Hold where
  | none
  | waitDma (ch : Fin 8) (word : BitVec 32) (alone : Bool)
  | waitFlag (expected : BitVec 64) (addr : BitVec 32) (word : BitVec 32) (alone : Bool)
  | mark (until_ : Nat)
  | vsettle
  | ended
  deriving DecidableEq, Repr

/-- The memories of one tile that bytes are stored in (08 R251). -/
inductive Space where
  | core | weight | act | vob
  deriving DecidableEq, Repr

/-- A taken branch whose delay bundles have not all issued (03 R105, R108). -/
structure Branch where
  /-- address of the new flow (03 R105). -/
  target : BitVec 32 := 0
  /-- delay bundles still to issue (03 R105). -/
  left : Nat := 0
  deriving DecidableEq, Repr

/-- One register bank of the pixel core; the job's and the class-0 context's (03 R84, R113). -/
structure Bank where
  /-- g0 to g63, physical registers; the class-0 bank uses g0 to g31 (03 R84). -/
  g : Vector (BitVec 64) 64 := Vector.replicate 64 0
  /-- a0 to a7 (03 R84). -/
  a : Vector (BitVec 32) 8 := Vector.replicate 8 0
  /-- cb0 to cb7 (03 R89). -/
  cb : Vector (BitVec 64) 8 := Vector.replicate 8 0
  /-- acc0 to acc3 as every operation but a mac-class one reads them (03 R96). -/
  acc : Vector (BitVec 72) 4 := Vector.replicate 4 0
  /-- acc0 to acc3 as a mac-class operation sees them, with accumulate latency 1 (03 R96). -/
  accm : Vector (BitVec 72) 4 := Vector.replicate 4 0
  /-- DSP_STATUS (03 R97). -/
  dsp : BitVec 32 := 0x200
  /-- LOOP_COUNT0, LOOP_COUNT1 (03 R86). -/
  loopCount : Vector (BitVec 32) 2 := Vector.replicate 2 0
  /-- LOOP_START0, LOOP_START1 (03 R86). -/
  loopStart : Vector (BitVec 32) 2 := Vector.replicate 2 0
  /-- LOOP_END0, LOOP_END1 (03 R86). -/
  loopEnd : Vector (BitVec 32) 2 := Vector.replicate 2 0
  /-- LOOP_CTRL: ARM0 ARM1 SARM0 SARM1 (03 R102). -/
  loopCtrl : BitVec 32 := 0
  /-- program counter (03 R79). -/
  pc : BitVec 32 := 0
  /-- taken branches whose delay bundles have not all issued, oldest first (03 R105). -/
  branch : List Branch := []
  /-- hold of issue (03 R83). -/
  hold : Hold := .none
  /-- first cycle in which a bundle may issue after a fetch redirect (03 R83). -/
  fetchAt : Nat := 0
  deriving DecidableEq, Repr

/-- The step shadow of mark (03 R106). -/
structure Shadow where
  /-- copied g, a, cb, acc, DSP_STATUS, loops; its pc is the address of the next bundle (03 R106). -/
  bank : Bank := {}
  /-- ROT_OFS (03 R106). -/
  rot : BitVec 5 := 0
  /-- flag f: the code up to the next mark is idempotent (03 R106). -/
  idem : Bool := false
  deriving DecidableEq, Repr

/-- A vector operation between its issue and the landing of its last result: its word, what issue resolved, and the lanes of its sources captured so far (04 R136 to R138, R152). -/
structure VOp where
  /-- V-slot word (04 R136). -/
  word : BitVec 32 := 0
  /-- VL in force at issue (04 R133). -/
  vl : Nat := 0
  /-- VLEN of the engine: 2,048 on a tile, 256 on the system controller unit (04 R125, R155). -/
  vlen : Nat := 2048
  /-- EW in force at issue (04 R133). -/
  ew : Nat := 8
  /-- FRM at issue (04 R129). -/
  frm : Nat := 0
  /-- mask bits of v0 at issue (DEDUCED, log 13) (04 R134). -/
  mask : BitVec 256 := 0
  /-- the :g or :k operand, or the g source of vpick and vplace, resolved at issue (04 R136). -/
  scalar : BitVec 64 := 0
  /-- physical g register named at issue (03 R82). -/
  dst : Fin 64 := 0
  /-- lanes of vs2 captured (04 R152). -/
  src2 : BitVec 2048 := 0
  /-- lanes of vs1 captured (04 R152). -/
  src1 : BitVec 2048 := 0
  deriving DecidableEq, Repr

/-- What a result in flight does in its tile cycle (03 R80, R82; 04 R148, R152). c0 names the bank. -/
inductive Act where
  | gReg (c0 : Bool) (r : Fin 64) (v : BitVec 64)
  | aReg (c0 : Bool) (r : Fin 8) (v : BitVec 32)
  | cbReg (c0 : Bool) (n : Fin 8) (v : BitVec 64)
  | accReg (c0 : Bool) (n : Fin 4) (v : BitVec 72)
  | accmReg (c0 : Bool) (n : Fin 4) (v : BitVec 72)
  | dspSticky (c0 : Bool) (bits : BitVec 32)
  | loopSet (c0 : Bool) (lvl : Fin 2) (count start last : BitVec 32) (arm : Bool)
  | loopClr (c0 : Bool) (lvl : Fin 2)
  | ctl (c0 : Bool) (num : Nat) (v : BitVec 64)
  | setVl (vl : Nat) (ew : Nat)
  | vLane (vr : Fin 32) (mask bits : BitVec 2048)
  | vewSticky (bits : BitVec 32)
  | vgReg (r : Fin 64) (v : BitVec 64)
  | vExec (op : VOp) (lane : Nat)
  | vReadMem (vob : Bool) (ew : Nat) (elems : List (Nat × Nat × Nat)) (land : Nat) (skew : Bool)
  | vStoreLanes (vob : Bool) (vr : Fin 32) (ew : Nat) (elems : List (Nat × Nat)) (at_ : Nat)
  | vWriteMem (vob : Bool) (bytes : List (Nat × BitVec 8))
  | markCopy (idem : Bool)
  | finish
  | dmaLane (ch : Fin 8) (vr : Fin 32) (lane : Nat)
  | dmaCheck (ch : Fin 8)
  | arrLane (vr : Fin 32) (lane : Nat)
  | arrCheck
  deriving DecidableEq, Repr

/-- A result in flight: the tile cycle in which it lands and what it does. Results are kept in issue order (03 R81). -/
structure Sched where
  /-- tile cycle of landing (03 R80). -/
  due : Nat := 0
  /-- tile cycle of issue; of two results of one cycle the later issued is kept (03 R81, 04 R154). -/
  issue : Nat := 0
  /-- what lands (03 R80). -/
  act : Act := .vewSticky 0
  /-- residue modulo 3 formed beside the result of an integer or DSP unit, none for any other result (15 R477). -/
  res : Option Nat := none
  deriving DecidableEq, Repr

/-- A write to a memory of the tile granted in the present tile cycle; it takes effect at the cycle's end (04 R150). -/
structure Commit where
  /-- the memory (08 R251). -/
  space : Space := .core
  /-- first byte (08 R251). -/
  addr : Nat := 0
  /-- bytes stored (04 R150). -/
  bytes : List (BitVec 8) := []
  /-- of two writes of one cycle to one byte the higher rank is kept (03 R94, 05 R173, 09 R289). -/
  rank : Nat := 0
  deriving DecidableEq, Repr

/-- A byte of core memory as it stood before a store, kept for the twelve cycles in which fetch still sees it (03 R94). -/
structure OldByte where
  /-- the byte (03 R94). -/
  addr : Nat := 0
  /-- its value before the store (03 R94). -/
  old : BitVec 8 := 0
  /-- cycle t of the store (03 R94). -/
  at_ : Nat := 0
  deriving DecidableEq, Repr

/-- A class-0 trigger on its way to a tile or waiting there (02 R69). -/
structure Trigger where
  /-- cycle of delivery (02 R69). -/
  due : Nat := 0
  /-- logical tile id of the source; 64 is the system controller (02 R69). -/
  src : Nat := 0
  /-- handler number (03 R115). -/
  handler : Nat := 0
  deriving DecidableEq, Repr

/-- A class-0 handler that runs on the tile (03 R113 to R118). -/
structure C0Run where
  /-- handler number (03 R115). -/
  handler : Nat := 0
  /-- cycle of its first bundle (03 R117). -/
  start : Nat := 0
  /-- cycle of the dispatch point (02 R71). -/
  first : Nat := 0
  /-- cycle from which the holds of the job had still to run: the dispatch point, or the end of an earlier return that it cut short (03 R117). -/
  base : Nat := 0
  /-- key of its last emit (14 R458). -/
  lastEmit : Option Nat := none
  /-- a store has been suppressed in this run (03 R114). -/
  suppressed : Bool := false
  /-- an emit was made at or after the first suppressed store (03 R114). -/
  emitAfter : Bool := false
  deriving DecidableEq, Repr

/-- One range monitor (06 R206 to R211). -/
structure RangeMon where
  /-- RM_COUNT (06 R210). -/
  count : Nat := 0
  /-- RM_SAT (06 R210). -/
  sat : Nat := 0
  /-- RM_SSE (06 R210). -/
  sse : Nat := 0
  /-- RM_SSQ (06 R210). -/
  ssq : Nat := 0
  /-- RM_PEAK.MAXABS (06 R210). -/
  maxabs : Nat := 0
  /-- SAT_TRIP, NOISE_TRIP, LOW_TRIP (06 R209). -/
  trips : BitVec 3 := 0
  deriving DecidableEq, Repr

/-- One accumulator of the Sward array (05 R170). -/
structure Accum where
  /-- the integer A modulo 2^96 (05 R170). -/
  val : BitVec 96 := 0
  /-- invalid tag (05 R170). -/
  inv : Bool := false
  /-- parity error of the accumulator (05 R170). -/
  bad : Bool := false
  /-- residue modulo 3 kept beside A (15 R477). -/
  res : Nat := 0
  deriving DecidableEq, Repr

/-- The column sums of one entry on their way to the accumulators (05 R182). -/
structure EntrySum where
  /-- cycle of landing, 14 after the entry's last cycle (05 R182). -/
  due : Nat := 0
  /-- output position (05 R180). -/
  m : Nat := 0
  /-- the entry's terms replace the accumulators (ACC_CLEAR) (05 R179). -/
  first : Bool := false
  /-- term and invalid tag of every column (05 R171). -/
  terms : List (Int × Bool) := []
  /-- residue modulo 3 that the adder tree forms beside the term of every column (15 R477). -/
  res : List Nat := []
  deriving DecidableEq, Repr

/-- A crop-and-resize output on its way to its buffer (07 R241). -/
structure CropOut where
  /-- cycle of the write (07 R241). -/
  due : Nat := 0
  /-- box (07 R237). -/
  box : Nat := 0
  /-- channel block (07 R241). -/
  cb : Nat := 0
  /-- v x OW + u (07 R240). -/
  m : Nat := 0
  /-- horizontal fraction (07 R238). -/
  fx : Nat := 0
  /-- vertical fraction (07 R238). -/
  fy : Nat := 0
  /-- for each read made so far, the byte of every bank (07 R241). -/
  reads : List (List (BitVec 8)) := []
  deriving DecidableEq, Repr

/-- A Sward array descriptor the array holds (05 R176 to R183, 07 R237). -/
structure ArrRun where
  /-- the array's own copy (05 R179). -/
  desc : BitVec 1024 := 0
  /-- cycle of arr.start (05 R182). -/
  t0 : Nat := 0
  /-- validated in cycles t0 + 1 to t0 + 4 (05 R178). -/
  valid : Bool := false
  /-- cycle in which the present span (KIND 1: the first box) began (05 R182). -/
  spanAt : Nat := 0
  /-- spans begun (05 R182). -/
  spans : Nat := 0
  /-- shadow weight registers filled so far for the next block (05 R174). -/
  load : List (BitVec 8) := []
  /-- scale block read so far for the next block (05 R174). -/
  loadScale : List (BitVec 8) := []
  /-- shadow grid of the descriptor (06 R201). -/
  grid : List (BitVec 8) := []
  /-- entries whose sums have not landed (05 R182). -/
  sums : List EntrySum := []
  /-- entries whose sums have landed (05 R182). -/
  landed : Nat := 0
  /-- u: cycle in which the last sum landed (05 R182). -/
  lastLand : Nat := 0
  /-- drain positions read (05 R183). -/
  drained : Nat := 0
  /-- drain positions written (KIND 1: outputs written) (05 R183). -/
  written : Nat := 0
  /-- cycle of the last write (05 R183). -/
  lastWrite : Nat := 0
  /-- the array's own copy of the box list, as far as read (07 R237). -/
  boxes : List (List (BitVec 8)) := []
  /-- the whole list has been read and checked (07 R237). -/
  boxesRead : Bool := false
  /-- outputs whose neighbours are being read or that wait for their write (07 R241). -/
  crops : List CropOut := []
  /-- SAT so far (05 R193). -/
  sat : Nat := 0
  /-- INVALID so far (05 R193). -/
  invalid : Nat := 0
  /-- layer digest so far (05 R189). -/
  digest : BitVec 64 := 0
  /-- its status has been written; it stays until every earlier descriptor is done (05 R183). -/
  done : Bool := false
  deriving DecidableEq, Repr

/-- One drain position read and not yet written (05 R183). -/
structure DrainRead where
  /-- cycle of arr.start of its descriptor (05 R183). -/
  t0 : Nat := 0
  /-- cycle of the write, 10 after the read (05 R183). -/
  due : Nat := 0
  /-- output position (05 R183). -/
  m : Nat := 0
  /-- 128-channel block (05 R183). -/
  nb : Nat := 0
  /-- accumulators read, one per channel of the block (05 R183). -/
  vals : List Accum := []
  /-- drain parameters s, r, b read in that cycle, per channel (05 R184). -/
  params : List (Nat × Nat × Nat) := []
  deriving DecidableEq, Repr

/-- The Sward array of one tile (05). -/
structure ArrayUnit where
  /-- descriptors from their arr.start until they and every earlier one are complete, in order of arr.start (05 R176, R177). -/
  descs : List ArrRun := []
  /-- first cycle of the last span of the last completed descriptor that ran spans (05 R182). -/
  lastSpanStart : Nat := 0
  /-- prev_end of the completed descriptors (05 R182). -/
  prevEnd : Nat := 0
  /-- d_end of the completed descriptors (07 R241). -/
  dEnd : Nat := 0
  /-- set_ready of each set, of the completed descriptors (05 R182). -/
  setReady : Vector Nat 2 := Vector.replicate 2 0
  /-- active weight registers, as the block that filled them (05 R174). -/
  weights : List (BitVec 8) := []
  /-- scale block that belongs to the active weights (05 R174). -/
  scales : List (BitVec 8) := []
  /-- active grid (06 R201). -/
  grid : List (BitVec 8) := []
  /-- cell weight registers with bad parity, as bytes of the active block (05 R194). -/
  weightBad : List Nat := []
  /-- product-table entries with bad parity, as 16 x row + code (05 R194, 06 R202). -/
  tableBad : List Nat := []
  /-- drain positions in flight (05 R183). -/
  drains : List DrainRead := []
  /-- ARR_STATUS0, ARR_STATUS1 (05 R193). -/
  status : Vector (BitVec 64) 2 := Vector.replicate 2 0
  /-- ARR_DIGEST0, ARR_DIGEST1 (05 R191). -/
  digest : Vector (BitVec 64) 2 := Vector.replicate 2 0
  /-- accumulator sets 0 and 1; an accumulator not listed holds 0 (05 R170, 08 R248). -/
  acc : Vector (SMap Accum) 2 := Vector.replicate 2 []
  /-- range monitors 0 and 1 (06 R206). -/
  mon : Vector RangeMon 2 := Vector.replicate 2 {}
  deriving DecidableEq, Repr

/-- A burst whose read is granted (09 R287). -/
structure Burst where
  /-- position of its first byte in the pattern (09 R287). -/
  pos : Nat := 0
  /-- the bytes read at the grant (09 R287). -/
  bytes : List (BitVec 8) := []
  /-- cycle of delivery (09 R281). -/
  due : Nat := 0
  /-- delivered into staging (09 R281). -/
  done : Bool := false
  /-- bad parity on a fabric hop met the read (01 R18, 15 R482). -/
  hop : Bool := false
  /-- code of the read's error, 0 none (09 R302). -/
  err : Nat := 0
  /-- its address in the global map (15 R478). -/
  errAddr : Nat := 0
  deriving DecidableEq, Repr

/-- The active descriptor of a channel (09 R283, R287). -/
structure DmaRun where
  /-- the channel's own copy (09 R284). -/
  desc : BitVec 512 := 0
  /-- cycle it became active (09 R283). -/
  since : Nat := 0
  /-- staging area: bursts granted and not yet written (09 R287). -/
  staged : List Burst := []
  /-- bytes of the pattern written (09 R287). -/
  written : Nat := 0
  /-- cycle in which the last write takes effect (09 R283). -/
  effect : Nat := 0
  /-- source lines whose first burst has been read (09 R290). -/
  lineRead : Nat := 0
  /-- cycle of the first read of the latest such line (09 R290). -/
  lineAt : Nat := 0
  /-- DMA_ABORT has taken effect (09 R301). -/
  aborting : Bool := false
  /-- code to write when the engine stops, 0 not stopping (09 R302). -/
  stopping : Nat := 0
  /-- cells written by OP 3, or still to be read by OP 4 (09 R309). -/
  cells : List Nat := []
  /-- ITEM_CELLS of an OP 4 after its unlink (09 R297). -/
  itemCells : Nat := 0
  /-- OP 4: the item has been unlinked (09 R310). -/
  unlinked : Bool := false
  /-- OP 3: the item has been linked (09 R309). -/
  linked : Bool := false
  /-- OP 4: bytes of the item taken so far (09 R310). -/
  itemPos : Nat := 0
  /-- OP 4: cycle in which the last cell returned to the pool (09 R310). -/
  lastReturn : Nat := 0
  /-- POISON (09 R315). -/
  poison : Nat := 0
  /-- QUEUE_EMPTY, QUEUE_TRUNCATED or QUEUE_POISON met (09 R310). -/
  queueCode : Nat := 0
  /-- bytes of remote frames ACCEPTED (13 R431). -/
  accepted : Nat := 0
  /-- lengths of the remote frames handed to egress and not yet answered, oldest first (13 R431). -/
  inFlight : List Nat := []
  /-- OP 2: bytes of the access in progress read and not yet written (08 R258). -/
  copyBuf : List (BitVec 8) := []
  deriving DecidableEq, Repr

/-- A descriptor handed to a channel and not active yet (09 R282, R283). -/
structure DmaPend where
  /-- the lanes read so far; the channel's own copy (09 R284). -/
  desc : BitVec 512 := 0
  /-- cycle of dma.start (09 R283). -/
  t0 : Nat := 0
  /-- validated in cycles t0 + 1 to t0 + 4 (09 R286). -/
  valid : Bool := false
  deriving DecidableEq, Repr

/-- One DMA channel (09 R283, R296). -/
structure Channel where
  /-- active descriptor (09 R283). -/
  active : Option DmaRun := none
  /-- descriptors taken and not active yet, in order: pending or being validated (09 R283). -/
  pend : List DmaPend := []
  /-- cycle in which the last active descriptor completed (09 R283). -/
  freeAt : Nat := 0
  /-- DMA_STATUSn of the last descriptor to finish (09 R297). -/
  status : BitVec 32 := 0
  /-- DMA_RESIDUEn (09 R298). -/
  residue : BitVec 64 := 0
  /-- DROPPED (09 R297). -/
  dropped : Bool := false
  deriving DecidableEq, Repr

/-- The DMA engine of one tile (09). -/
structure Dma where
  /-- channels 0 to 7 (09 R283). -/
  ch : Vector Channel 8 := Vector.replicate 8 {}
  /-- crossing set, ascending (09 R312). -/
  qcross : List Nat := []
  /-- DMA_ENGINE.RECOVER (09 R299). -/
  recover : Bool := false
  /-- DMA_ENGINE.STOPPED (09 R299). -/
  stopped : Bool := false
  /-- DMA_ENGINE.ERR_CH (09 R299). -/
  errCh : Nat := 0
  /-- the channel whose bus error began the stop in progress; ERR_CH takes it with STOPPED (09 R302). -/
  stopCh : Nat := 0
  /-- cycle + 1 in which STOPPED was last cleared (09 R303). -/
  cleared : Nat := 0
  /-- an engine stop in progress: the cycle in which the error was found (09 R302). -/
  stopping : Option Nat := none
  /-- cycle + 1 to which portUsed belongs (09 R288). -/
  portAt : Nat := 0
  /-- ports that served an access of the engine in that cycle (09 R288). -/
  portUsed : List Nat := []
  deriving DecidableEq, Repr

/-- The attempt that runs on a tile (15 R472, R476). -/
structure JobRun where
  /-- key of the item in the item table (15 R472). -/
  item : Nat := 0
  /-- ATTEMPT (15 R472). -/
  attempt : Nat := 0
  /-- cycle in which the attempt started (15 R476). -/
  start : Nat := 0
  /-- idle cycles of the power cap since then (15 R476). -/
  idle : Nat := 0
  /-- class-0 handler cycles on the tile since then (15 R476). -/
  c0cycles : Nat := 0
  /-- step re-runs of this attempt (08 R261). -/
  reruns : Nat := 0
  /-- cycles of the steps re-run (15 R476). -/
  rerunCycles : Nat := 0
  /-- cycle of the last mark (08 R261). -/
  markAt : Nat := 0
  /-- n of the next rng of the attempt (14 R447). -/
  rngN : Nat := 0
  /-- patrol replay (15 R486). -/
  replay : Bool := false
  deriving DecidableEq, Repr

/-- One physical tile. -/
structure Tile where
  /-- 0 IN_SERVICE 1 SPARE 2 ACTING 3 BIST 4 SUSPECT 5 RETIRED 6 OFF (15 R479, R494). -/
  role : Nat := 0
  /-- logical or acting id, 0xFF none (15 R494). -/
  logical : Nat := 255
  /-- 0 Run 1 Hold 2 Rest 3 Nap 4 Off (17 R536). -/
  power : Nat := 4
  /-- the job's bank (03 R84). -/
  job : Bank := {}
  /-- the class-0 bank (03 R113). -/
  c0 : Bank := {}
  /-- ROT_OFS (03 R85). -/
  rot : BitVec 5 := 0
  /-- the tile is in its class-0 context (03 R113). -/
  inC0 : Bool := false
  /-- handler running (03 R117). -/
  c0run : Option C0Run := none
  /-- triggers on the way (02 R69). -/
  trigs : List Trigger := []
  /-- triggers delivered and waiting for a dispatch point, in order (02 R69). -/
  c0wait : List Trigger := []
  /-- C0_WINDOW (03 R114). -/
  c0Window : BitVec 32 := 0
  /-- INT_CTRL: IA, WP (03 R109). -/
  intCtrl : BitVec 32 := 0
  /-- INT_ENABLE (03 R86). -/
  intEnable : BitVec 16 := 0
  /-- INT_PENDING (03 R86). -/
  intPending : BitVec 16 := 0
  /-- INT_PC (03 R86). -/
  intPc : BitVec 32 := 0
  /-- INT_VECTOR (03 R86). -/
  intVector : BitVec 32 := 0
  /-- INT_CAUSE (03 R86). -/
  intCause : BitVec 8 := 0
  /-- BELL_FROM (03 R86). -/
  bellFrom : BitVec 64 := 0
  /-- INT_WAIT (03 R86). -/
  intWait : BitVec 32 := 0
  /-- interrupt entry in progress: its source and the cycle in which the first bundle at INT_VECTOR issues (03 R108, R119). -/
  entry : Option (Nat × Nat) := none
  /-- first cycle in which the core may issue after a bank switch (03 R113, R117). -/
  switchAt : Nat := 0
  /-- address of the last bundle that issued or faulted (15 R478). -/
  lastPc : BitVec 32 := 0
  /-- cycle in which the last bundle issued (03 R83). -/
  lastIssue : Nat := 0
  /-- a vector fault waits for its entry: no bundle of the job issues before it (04 R157). -/
  vfEntry : Bool := false
  /-- a step re-run waits for the vector operations in flight (08 R260, 03 R106). -/
  rerun : Bool := false
  /-- cycle at which the core reissues the wait held in INT_WAIT (03 R110). -/
  reissueAt : Option Nat := none
  /-- cycle at which the core reissues the faulted vector operation (04 R159). -/
  vReissueAt : Option Nat := none
  /-- class-1 doorbells on the way: (cycle of delivery, sender id) (03 R123). -/
  bells : List (Nat × Nat) := []
  /-- first cycle after the non-interruptible region (03 R112). -/
  nintEnd : Nat := 0
  /-- first cycle after the landing of the last paired control write (03 R112). -/
  pairEnd : Nat := 0
  /-- step shadow (03 R106). -/
  shadow : Option Shadow := none
  /-- SEED (03 R86). -/
  seed : BitVec 64 := 0
  /-- JOB_ID (03 R86). -/
  jobId : BitVec 16 := 0
  /-- CONTEXT_ID (03 R86). -/
  ctxId : BitVec 16 := 0
  /-- VL (04 R128). -/
  vl : Nat := 0
  /-- VEW: sticky flags, FRM, EW (04 R129). -/
  vew : BitVec 32 := 0
  /-- VRESUME (04 R130). -/
  vresume : BitVec 64 := 0
  /-- VFAULT_IDX (04 R131). -/
  vfaultIdx : BitVec 32 := 0
  /-- VFAULT_ADDR (04 R131). -/
  vfaultAddr : BitVec 32 := 0
  /-- v0 to v31; f_n is the low 64 bits of v_n (04 R125). -/
  v : Vector (BitVec 2048) 32 := Vector.replicate 32 0
  /-- bytes of vector registers with bad parity: 256 x register + byte (04 R156, 01 R18). -/
  vBad : List Nat := []
  /-- results in flight (03 R80). -/
  sched : List Sched := []
  /-- writes of the present cycle to tile memories (04 R150). -/
  commits : List Commit := []
  /-- last cycle + 1 in which a bundle issued (03 R76). -/
  issued : Nat := 0
  /-- last cycle + 1 in which the L1 slot accessed core memory (03 R95). -/
  l1Used : Nat := 0
  /-- cycles in which vector operations hold core-memory port 0 (04 R148, R149). -/
  port0 : List Nat := []
  /-- those of port0 that operations of the flow hold that the interrupt being served cut (04 R161). -/
  port0Old : List Nat := []
  /-- cycles in which vector operations hold the vector port of the operand buffer (04 R148, R149). -/
  portV : List Nat := []
  /-- core memory (08 R248). -/
  core : Mem := []
  /-- weight buffer (08 R248). -/
  wbuf : Mem := []
  /-- activation buffer, byte o of bank r at r x 2048 + o (08 R248). -/
  abuf : Mem := []
  /-- vector operand buffer (08 R248). -/
  vob : Mem := []
  /-- core-memory bytes with bad parity (08 R259). -/
  coreBad : List Nat := []
  /-- weight-buffer bytes with bad parity (08 R259). -/
  wbufBad : List Nat := []
  /-- activation-buffer bytes with bad parity (08 R259). -/
  abufBad : List Nat := []
  /-- vector-operand-buffer bytes with bad parity (08 R259). -/
  vobBad : List Nat := []
  /-- bytes that fetch still sees as they were (03 R94). -/
  fetchLog : List OldByte := []
  /-- Sward array (05). -/
  arr : ArrayUnit := {}
  /-- DMA engine (09). -/
  dma : Dma := {}
  /-- blocks of the input descriptor that the system controller has still to write through port 1 (08 R264, 09 R289). -/
  descWrites : List (Nat × List (BitVec 8)) := []
  /-- attempt running (15 R472). -/
  run : Option JobRun := none
  /-- half of the descriptor area of the running or last item (08 R264). -/
  descHalf : Nat := 0
  /-- a scrub is due (0) or runs until this cycle (08 R268). -/
  scrubUntil : Option Nat := none
  /-- the tile is in BIST (15 R484). -/
  bistEnd : Bool := false
  /-- tile.bist_last, gPTP time of the last pass (15 R494). -/
  bistPass : Nat := 0
  /-- times (ns) of hardware faults of the last 10 s (15 R480). -/
  hwTimes : List Nat := []
  /-- times (ns) of entries into SUSPECT of the last 24 h (15 R480). -/
  suspectTimes : List Nat := []
  deriving DecidableEq, Repr

/-- Meadow memory (08 R248, R255). -/
structure Meadow where
  /-- bytes by offset from 0x0100_0000_0000, the cell pool included (08 R248). -/
  mem : Mem := []
  /-- offsets of bytes with bad parity (08 R259). -/
  bad : List Nat := []
  /-- offsets of cell words whose poison tag is set (09 R314). -/
  poison : List Nat := []
  /-- cycle + 1 to which busy belongs (08 R255). -/
  busyAt : Nat := 0
  /-- banks that served a slot in that cycle (08 R255). -/
  busy : List Nat := []
  /-- bytes of slots granted in the present cycle, in the order of grant; they take effect at its end (08 R255). -/
  commits : List (Nat × BitVec 8) := []
  /-- slots of image regions that wait for their refill (08 R263). -/
  refills : List Nat := []
  deriving DecidableEq, Repr

/-- A partial-granule write between its two halves (08 R254). -/
structure HbmPartial where
  /-- granule number (08 R254). -/
  granule : Nat := 0
  /-- byte addresses and the bytes to merge (08 R254). -/
  bytes : List (Nat × BitVec 8) := []
  /-- cycle of the read slot (08 R254). -/
  at_ : Nat := 0
  /-- requesting tile; none for any other client (08 R254). -/
  tile : Option (Fin 72) := none
  /-- its channel (08 R254). -/
  ch : Fin 8 := 0
  deriving DecidableEq, Repr

/-- What the HBM controller keeps of one row of 1 KiB of one pseudo-channel (08 R276). -/
structure HbmRow where
  /-- patrol passes in which the row received corrections, newest first (08 R276). -/
  corrected : List Nat := []
  /-- the row had an uncorrectable error (08 R276). -/
  uncorrectable : Bool := false
  deriving DecidableEq, Repr

/-- One row under soft remap (08 R276). -/
structure Remap where
  /-- row number: pseudo-channel x 786,432 + row of it (08 R276). -/
  row : Nat := 0
  /-- spare row of the pseudo-channel in the repair area, 0 to 7 (08 R276). -/
  spare : Nat := 0
  /-- the remap has taken effect at a boundary (08 R276). -/
  active : Bool := false
  /-- the stack has no spare row left for the bank (08 R277). -/
  permanent : Bool := false
  deriving DecidableEq, Repr

/-- The HBM stack and its controller (08 R270 to R279). -/
structure Hbm where
  /-- bytes by global address (08 R248). -/
  mem : Mem := []
  /-- stored bits that differ from what the granule's ECC was formed over: (byte address, bit) (08 R274). -/
  flips : List (Nat × Nat) := []
  /-- bytes of writes granted in the present cycle; they take effect at its end (08 R254). -/
  commits : List (Nat × BitVec 8) := []
  /-- partial-granule writes whose write-back is outstanding (08 R254). -/
  partials : List HbmPartial := []
  /-- rows with corrections or an uncorrectable error (08 R276). -/
  rows : SMap HbmRow := []
  /-- rows under soft remap (08 R276). -/
  remaps : List Remap := []
  /-- rows fused in the stack (08 R276). -/
  fused : List Nat := []
  /-- data lanes moved to redundant lanes, as pseudo-channel x 64 + lane (08 R278). -/
  lanes : List Nat := []
  /-- data lanes whose transfers fail the interface parity (08 R278). -/
  badLanes : List Nat := []
  /-- errors counted per data lane in the patrol pass in progress (08 R278). -/
  laneErrors : SMap Nat := []
  /-- lanes that move to a redundant lane at the next boundary (08 R278). -/
  laneDue : List Nat := []
  /-- cycle + 1 to which sysUsed belongs (08 R270). -/
  sysAt : Nat := 0
  /-- pseudo-channels whose system cycle is used in that cycle (08 R270). -/
  sysUsed : List Nat := []
  /-- granules of an uncorrectable read whose package bytes firmware has still to reload (08 R275). -/
  lost : List Nat := []
  /-- rows queued for repair (08 R276). -/
  repairs : List Nat := []
  /-- next granule of each pseudo-channel in patrol order (08 R273). -/
  patrolPos : Vector Nat 32 := Vector.replicate 32 0
  /-- number of the patrol pass in progress (08 R273). -/
  pass : Nat := 0
  /-- stack temperature, degrees C (08 R279). -/
  temp : Int := 25
  /-- refresh doubled now (08 R272). -/
  doubled : Bool := false
  deriving DecidableEq, Repr

/-- One item of a queue (09 R306). -/
structure QItem where
  /-- priority (09 R306). -/
  prio : Nat := 0
  /-- cells of the item, in order (09 R306). -/
  cells : List Nat := []
  /-- bytes that its writer gave (09 R294). -/
  len : Nat := 0
  /-- queue 1,032: the item-table row whose record a tile linked; queues 1,024 to 1,031: the item to run (15 R475). -/
  item : Option Nat := none
  /-- queue 1,032: the controller's message (14 R458). -/
  msg : Option Nat := none
  deriving DecidableEq, Repr

/-- One queue as one copy of the pointer store holds it (09 R306, R316). -/
structure Queue where
  /-- items in the order they were linked (09 R306). -/
  items : List QItem := []
  deriving DecidableEq, Repr

/-- An item that the result egress has unlinked and reads cell by cell (09 R310, R311). -/
structure ChipTake where
  /-- the item (09 R310). -/
  item : QItem := {}
  /-- cells still to read (09 R310). -/
  cells : List Nat := []
  /-- bytes read so far (09 R310). -/
  bytes : List (BitVec 8) := []
  /-- poisoned words among them (09 R315). -/
  poison : Nat := 0
  deriving DecidableEq, Repr

/-- An item that a chip-side client of the queue engine enqueues cell by cell (09 R309, R311). -/
structure ChipOp where
  /-- queue (09 R306). -/
  queue : Nat := 0
  /-- priority (09 R306). -/
  prio : Nat := 0
  /-- the item (09 R306). -/
  bytes : List (BitVec 8) := []
  /-- words of the item that the writer marks (09 R314). -/
  bad : List Nat := []
  /-- cells written so far (09 R309). -/
  cells : List Nat := []
  /-- the item that a load-balancing entry names (02 R66). -/
  item : Option Nat := none
  /-- the controller's message (14 R458). -/
  msg : Option Nat := none
  deriving DecidableEq, Repr

/-- The queue engine (09 R306 to R317). -/
structure Queues where
  /-- first copy of the pointer store; a queue not listed is empty (09 R316). -/
  ptrA : SMap Queue := []
  /-- second copy (09 R316). -/
  ptrB : SMap Queue := []
  /-- cells not free, ascending: the first copy of the allocation (09 R306). -/
  used : List Nat := []
  /-- second copy of the allocation (09 R316). -/
  usedB : List Nat := []
  /-- queues that own a word of the pointer store with bad parity (09 R316). -/
  ptrBad : List Nat := []
  /-- queues held (09 R293). -/
  held : List Nat := []
  /-- cycle + 1 of the last QUEUE_SLOT (09 R311). -/
  slotAt : Nat := 0
  /-- access-unit items that intake enqueues, in order (09 R311). -/
  intake : List ChipOp := []
  /-- items that the system controller enqueues, in order (09 R311). -/
  sys : List ChipOp := []
  /-- item that the result egress reads (09 R311). -/
  egress : Option ChipTake := none
  /-- queues that an operation of the present cycle changed, with their fill before it; marks and crossings act from the next cycle (09 R293, R312). -/
  touched : List (Nat × Nat) := []
  deriving DecidableEq, Repr

/-- A Beryl frame other than IDLE (13 R414, R415). -/
structure BFrame where
  /-- KIND: 1 WRITE, 2 TICK, 3 CONTROL (13 R415). -/
  kind : Nat := 1
  /-- LAST (13 R415). -/
  last : Bool := false
  /-- VC1 (13 R421). -/
  vc : Bool := false
  /-- DST (13 R415). -/
  dst : Nat := 0
  /-- SRC (13 R415). -/
  src : Nat := 0
  /-- HOPS (13 R415). -/
  hops : Nat := 0
  /-- WINDOW [5:0] (13 R415). -/
  window : Nat := 0
  /-- WINDOW [7:6], the generation (13 R415). -/
  gen : Nat := 0
  /-- OFFSET (13 R415). -/
  offset : Nat := 0
  /-- TAG [8:0] (13 R415). -/
  tag : Nat := 0
  /-- the LENGTH bytes used, or the payload of a TICK or CONTROL frame (13 R415). -/
  payload : List (BitVec 8) := []
  /-- first tile cycle in which its first bit may leave (13 R424). -/
  at_ : Nat := 0
  deriving DecidableEq, Repr

/-- A reply on its way (13 R415, R422, R430). -/
structure BReply where
  /-- REPLY_CODE (13 R415). -/
  code : Nat := 0
  /-- REPLY_DST (13 R415). -/
  dst : Nat := 0
  /-- REPLY_WINDOW (13 R415). -/
  window : Nat := 0
  /-- REPLY_TAG [15:7] (13 R415). -/
  tag : Nat := 0
  /-- REPLY_TAG [6:0] (13 R415). -/
  count : Nat := 1
  deriving DecidableEq, Repr

/-- What one port sent in one frame slot (13 R414, R422). -/
structure BSent where
  /-- port (13 R422). -/
  port : Fin 4 := 0
  /-- frame; none for IDLE (13 R422). -/
  frame : Option BFrame := none
  /-- reply in its header (13 R415). -/
  reply : Option BReply := none
  /-- LINK_SEQ (13 R415). -/
  seq : Nat := 0
  /-- LINK_ACK (13 R415). -/
  ack : Nat := 0
  /-- LINK_CREDIT [3:0] (13 R415). -/
  credit0 : Nat := 0
  /-- LINK_CREDIT [7:4] (13 R415). -/
  credit1 : Nat := 0
  /-- the frame as it stands on the fiber (13 R414, R416). -/
  wire : List (BitVec 8) := []
  deriving DecidableEq, Repr

/-- An entry of the credit table: a remote window this part may write to (13 R426). -/
structure RemoteWin where
  /-- owner (13 R426). -/
  device : Nat := 0
  /-- window (13 R426). -/
  window : Nat := 0
  /-- generation (13 R426). -/
  gen : Nat := 0
  /-- a CLOSE notice has come (13 R433). -/
  closing : Bool := false
  /-- OFFSET (13 R426). -/
  offset : Nat := 0
  /-- size (13 R426). -/
  size : Nat := 0
  /-- credits left (13 R428). -/
  pool : Nat := 0
  deriving DecidableEq, Repr

/-- One of the part's 64 windows (13 R425 to R432). -/
structure OwnWin where
  /-- 0 CLOSED, 1 OPEN, 2 CLOSING (13 R438). -/
  state : Nat := 0
  /-- generation (13 R426). -/
  gen : Nat := 0
  /-- target in force while it is OPEN or CLOSING (13 R429). -/
  target : Nat := 0
  /-- OFFSET in force (13 R429). -/
  offset : Nat := 0
  /-- size in force (13 R432). -/
  size : Nat := 0
  /-- sources in force (13 R425). -/
  sources : List Nat := []
  /-- credits granted to each source and not yet answered (13 R430). -/
  credits : SMap Nat := []
  /-- time (ns) at which CLOSING began (13 R432). -/
  since : Nat := 0
  deriving DecidableEq, Repr

/-- One Beryl port (13 R413 to R422). -/
structure BPort where
  /-- 0 DOWN, 1 TRAINING, 2 UP (13 R419). -/
  state : Nat := 0
  /-- DOWN on account of LSIN (13 R412). -/
  lost : Bool := false
  /-- LINK_SEQ of the next frame (13 R415). -/
  txSeq : Nat := 0
  /-- frames sent and not acknowledged, by LINK_SEQ, oldest first (13 R417). -/
  replay : List (Nat × BSent) := []
  /-- frames of the replay buffer that a NAK asks for again (13 R417). -/
  resend : List BSent := []
  /-- replays in a row of the oldest frame (13 R418). -/
  replayRow : Nat := 0
  /-- LINK_SEQ of the next frame accepted (13 R417). -/
  rxNext : Nat := 0
  /-- LINK_ACK last received since a frame was acknowledged (13 R417). -/
  rxAcks : Option Nat := none
  /-- receive buffers of VC0 that the peer holds free (13 R422). -/
  credit0 : Nat := 64
  /-- of VC1 (13 R422). -/
  credit1 : Nat := 64
  /-- VC0 buffers freed and not yet returned (13 R415). -/
  freed0 : Nat := 0
  /-- VC1 buffers freed and not yet returned (13 R415). -/
  freed1 : Nat := 0
  /-- VC0 frames passing through that leave on this port, with the port they came on (13 R422). -/
  pass0 : List (Fin 4 × BFrame) := []
  /-- VC1 frames passing through (13 R422). -/
  pass1 : List (Fin 4 × BFrame) := []
  /-- CONTROL and TICK frames of this part (13 R422). -/
  own : List BFrame := []
  /-- number of the next frame slot (13 R422). -/
  slot : Nat := 0
  /-- first moment of the next frame slot, in fifths of a tile cycle (13 R414). -/
  slotAt : Nat := 0
  /-- the last 58 bits sent scrambled, the latest in bit 0 (13 R416). -/
  scr : BitVec 58 := 0
  deriving DecidableEq, Repr

/-- A WRITE frame that a tile's channel handed to egress (13 R428). -/
structure BWrite where
  /-- tile (13 R428). -/
  tile : Fin 72 := 0
  /-- channel (13 R428). -/
  ch : Fin 8 := 0
  /-- port on which it leaves (13 R422). -/
  port : Fin 4 := 0
  /-- frame (13 R428). -/
  frame : BFrame := {}
  deriving DecidableEq, Repr

/-- An accepted write frame on its way into this part's memory (13 R424, R429). -/
structure BLanding where
  /-- first cycle in which it may be granted (13 R424). -/
  due : Nat := 0
  /-- port on which it came (13 R429). -/
  port : Fin 4 := 0
  /-- window of this part (13 R429). -/
  window : Fin 64 := 0
  /-- address of the next byte to write (13 R429). -/
  at_ : Nat := 0
  /-- bytes still to write (13 R429). -/
  bytes : List (BitVec 8) := []
  /-- bytes of the whole frame (13 R438). -/
  size : Nat := 0
  /-- reply made when the last byte is granted (13 R430). -/
  reply : BReply := {}
  deriving DecidableEq, Repr

/-- The Beryl links (13). -/
structure Beryl where
  /-- BL0 to BL3 (13 R419). -/
  port : Vector BPort 4 := Vector.replicate 4 {}
  /-- own windows (13 R425). -/
  win : Vector OwnWin 64 := Vector.replicate 64 {}
  /-- credit table (13 R426). -/
  remote : List RemoteWin := []
  /-- frames handed to egress and not yet sent (13 R428). -/
  writes : List BWrite := []
  /-- accepted writes not yet granted in memory, oldest first (13 R429). -/
  landing : List BLanding := []
  /-- replies made and not yet sent, oldest first (13 R422). -/
  replies : List BReply := []
  /-- replies received for this part, with the cycle in which they act (13 R424). -/
  replyIn : List (Nat × BReply) := []
  /-- log of the frames sent, newest first (the model's own record) (13 R414). -/
  sent : List BSent := []
  /-- hops from the master, of the last TICK frame followed (13 R435). -/
  tickHops : Nat := 0
  deriving DecidableEq, Repr

/-- A tile record of a plan (16 R525). -/
structure PlanTile where
  /-- ENTRY_FIRST (16 R525). -/
  entryFirst : Nat := 0
  /-- ENTRY_COUNT (16 R525). -/
  entryCount : Nat := 0
  /-- HANDLER_FIRST (16 R525). -/
  handlerFirst : Nat := 0
  /-- HANDLER_COUNT (16 R525). -/
  handlerCount : Nat := 0
  /-- reserved byte at 11 (16 R525). -/
  reserved1 : Nat := 0
  /-- C0_WINDOW (16 R525). -/
  c0Window : BitVec 32 := 0
  /-- POWER_FIRST (16 R525). -/
  powerFirst : Nat := 0
  /-- POWER_COUNT (16 R525). -/
  powerCount : Nat := 0
  /-- CODE_OFF (16 R525). -/
  codeOff : Nat := 0
  /-- CODE_LEN (16 R525). -/
  codeLen : Nat := 0
  /-- reserved bytes at 36 (16 R525). -/
  reserved2 : Nat := 0
  deriving DecidableEq, Repr

/-- An entry record of a plan (16 R526). -/
structure PlanEntry where
  /-- JOB_ID (16 R526). -/
  job : Nat := 0
  /-- TARGET (16 R526). -/
  target : Nat := 0
  /-- CLASS (16 R526). -/
  cls : Nat := 0
  /-- PRIORITY (16 R526). -/
  prio : Nat := 0
  /-- FLAGS (16 R526). -/
  flags : Nat := 0
  /-- RANGE_COUNT (16 R526). -/
  rangeCount : Nat := 0
  /-- START_STEP (16 R526). -/
  start : Nat := 0
  /-- WORST (16 R526). -/
  worst : Nat := 0
  /-- SPARE_WORST (16 R526). -/
  spareWorst : Nat := 0
  /-- ENTRY_PC (16 R526). -/
  pc : Nat := 0
  /-- RANGE_FIRST (16 R526). -/
  rangeFirst : Nat := 0
  /-- reserved bytes at 28 (16 R526). -/
  reserved : Nat := 0
  deriving DecidableEq, Repr

/-- A handler record of a plan (16 R526). -/
structure PlanHandler where
  /-- HANDLER (16 R526). -/
  handler : Nat := 0
  /-- reserved byte (16 R526). -/
  reserved : Nat := 0
  /-- WORST (16 R526). -/
  worst : Nat := 0
  /-- ENTRY_PC (16 R526). -/
  pc : Nat := 0
  deriving DecidableEq, Repr

/-- A region record of a plan (16 R527). -/
structure PlanRegion where
  /-- KIND (16 R527). -/
  kind : Nat := 0
  /-- ARG (16 R527). -/
  arg : Nat := 0
  /-- DEVICE (16 R527). -/
  device : Nat := 0
  /-- reserved byte (16 R527). -/
  reserved : Nat := 0
  /-- DEADLINE (16 R527). -/
  deadline : Nat := 0
  /-- BASE (16 R527). -/
  base : Nat := 0
  /-- LENGTH (16 R527). -/
  length : Nat := 0
  /-- SOURCE (16 R527). -/
  source : Nat := 0
  /-- COPY1 (16 R527). -/
  copy1 : Nat := 0
  deriving DecidableEq, Repr

/-- A plan as its package gives it (16 R523 to R527). -/
structure Plan where
  /-- package digest (16 R523). -/
  digest : List (BitVec 8) := []
  /-- HBM_BASE (16 R523). -/
  base : Nat := 0
  /-- LENGTH of the package (16 R523). -/
  length : Nat := 0
  /-- SVN (16 R523). -/
  svn : Nat := 0
  /-- PKG_SEED (16 R523). -/
  seed : BitVec 64 := 0
  /-- CP_LAYOUT (16 R523). -/
  cpLayout : Nat := 0
  /-- FLAGS (16 R525). -/
  flags : Nat := 0
  /-- tile records, one per logical tile from 0 (16 R525). -/
  tiles : List PlanTile := []
  /-- entry table (16 R526). -/
  entries : List PlanEntry := []
  /-- handler table (16 R526). -/
  handlers : List PlanHandler := []
  /-- region table (16 R527). -/
  regions : List PlanRegion := []
  /-- range table: (BASE, LENGTH) (16 R526). -/
  ranges : List (Nat × Nat) := []
  /-- power table: (STEP, STATE, reserved bytes) (16 R526). -/
  powers : List (Nat × Nat × Nat) := []
  /-- layer groups: (FIRST, LAST) (16 R527). -/
  groups : List (Nat × Nat) := []
  /-- weights digest (14 R461). -/
  weights : List (BitVec 8) := []
  deriving DecidableEq, Repr

/-- A package the part holds verified in HBM (02 R582). -/
structure Package where
  /-- package digest (16 R523). -/
  digest : List (BitVec 8) := []
  /-- HBM_BASE (16 R523). -/
  base : Nat := 0
  /-- LENGTH (16 R523). -/
  length : Nat := 0
  /-- uploaded or reloaded, and not run since (14 R467). -/
  fresh : Bool := true
  deriving DecidableEq, Repr

/-- Where an item stands (02 R58, R62; 15 R472). ended: its attempt ran end before a record was linked; final carries its status and code (00 R14). -/
inductive ItemState where
  | waiting
  | running (p : Fin 72)
  | restart
  | ended
  | final (status : Nat) (code : Nat)
  deriving DecidableEq, Repr

/-- An item of the current or a recent tick, a row of the system controller's item table (14 R455, R456). -/
structure Item where
  /-- persistent tick number (00 R14). -/
  tick : Nat := 0
  /-- RUN_TICK (14 R442). -/
  runTick : Nat := 0
  /-- stream context; the first member of a lock group (00 R14). -/
  ctx : Nat := 0
  /-- TARGET of the entry (16 R526). -/
  target : Nat := 0
  /-- job id (00 R14). -/
  job : Nat := 0
  /-- index of the entry in the plan (16 R526). -/
  entry : Nat := 0
  /-- class (02 R57). -/
  cls : Nat := 1
  /-- logical tile of the entry (02 R57). -/
  tile : Nat := 0
  /-- planned start step (02 R58). -/
  start : Nat := 0
  /-- worst-case steps (02 R62). -/
  worst : Nat := 0
  /-- worst-case steps on a spare (15 R474). -/
  spareWorst : Nat := 0
  /-- load-balancing priority (02 R66). -/
  prio : Nat := 0
  /-- a safety entry (15 R488). -/
  safety : Bool := false
  /-- SEED (14 R443). -/
  seed : BitVec 64 := 0
  /-- where the item stands (02 R58). -/
  state : ItemState := .waiting
  /-- number of the present or last attempt (15 R472). -/
  attempt : Nat := 0
  /-- code of the first fault (14 R455). -/
  firstCode : Nat := 0
  /-- tile on which the last attempt stopped (15 R472). -/
  faultTile : Option (Fin 72) := none
  /-- step re-runs over all attempts (14 R455). -/
  reruns : Nat := 0
  /-- byte addresses that raised a parity error in any attempt (08 R261). -/
  parityAt : List Nat := []
  /-- FIRST_PTILE (14 R455). -/
  firstTile : Nat := 255
  /-- LAST_PTILE (14 R455). -/
  lastTile : Nat := 255
  /-- e-flags of the record: RAW_READ, LOAD_BALANCED, TIMING_VARIED, TICK_READ (14 R455). -/
  marks : BitVec 16 := 0
  /-- its record is linked into queue 1,032 (15 R475). -/
  linked : Bool := false
  /-- STEP of the record (14 R455). -/
  linkStep : Nat := 0
  /-- its record is written (14 R462). -/
  recorded : Bool := false
  /-- pictures of the input set taken for its members, by picture number + 1, 0 absent (10 R340). -/
  frames : List Nat := []
  /-- OUTCOME_DIGEST of the record, for patrol replay (14 R457). -/
  outcome : List (BitVec 8) := []
  /-- LAYER_DIGEST entries of the record, for patrol replay (14 R460). -/
  layers : List (BitVec 64) := []
  deriving DecidableEq, Repr

/-- The access unit that a context's packets are forming (10 R325 to R328). -/
structure AccessUnit where
  /-- RTP timestamp (10 R329). -/
  rtp : BitVec 32 := 0
  /-- gPTP time of the last byte of the unit's first packet (10 R328). -/
  arrival : Nat := 0
  /-- ring offset of its first byte (10 R326). -/
  start : Nat := 0
  /-- its bytes in Annex B form (10 R326). -/
  bytes : List (BitVec 8) := []
  /-- DAMAGED (01 R28). -/
  damaged : Bool := false
  /-- holds an IDR NAL unit (10 R327). -/
  idr : Bool := false
  /-- a fragmented NAL unit is open (10 R325). -/
  frag : Bool := false
  /-- PARAMS (10 R326). -/
  params : Bool := false
  /-- bytes of the open fragmented NAL unit, in Annex B form (10 R325, R326). -/
  fragBytes : List (BitVec 8) := []
  /-- the open fragmented NAL unit is one of an IDR unit (10 R327). -/
  fragIdr : Bool := false
  deriving DecidableEq, Repr

/-- A unit that is queued or being decoded and whose ring bytes may not be overwritten (10 R327). -/
structure RingUnit where
  /-- AU_SEQ (10 R328). -/
  seq : Nat := 0
  /-- ring offset (10 R326). -/
  start : Nat := 0
  /-- bytes (10 R328). -/
  len : Nat := 0
  deriving DecidableEq, Repr

/-- One picture of a context's decoded picture buffer (10 R336 to R341). -/
structure Picture where
  /-- number of the picture within the part (10 R338). -/
  num : Nat := 0
  /-- slot (10 R336). -/
  slot : Nat := 0
  /-- AU_SEQ (10 R341). -/
  seq : Nat := 0
  /-- address of its slot (10 R336, R323). -/
  base : Nat := 0
  /-- Y_PITCH (10 R341). -/
  yPitch : Nat := 0
  /-- C_PITCH (10 R341). -/
  cPitch : Nat := 0
  /-- CAPTURE (10 R338). -/
  capture : Nat := 0
  /-- RTP_EXT (10 R338). -/
  rtpExt : Nat := 0
  /-- chain digest (10 R338). -/
  chain : List (BitVec 8) := []
  /-- conformance window width (10 R341). -/
  width : Nat := 0
  /-- conformance window height (10 R341). -/
  height : Nat := 0
  /-- left edge of the conformance window (10 R341). -/
  cropX : Nat := 0
  /-- top edge of the conformance window (10 R341). -/
  cropY : Nat := 0
  /-- coded height (10 R336). -/
  codedHeight : Nat := 0
  /-- 10-bit samples (10 R341). -/
  tenBit : Bool := false
  /-- monochrome (10 R341). -/
  mono : Bool := false
  /-- RESYNC (10 R341). -/
  resync : Bool := false
  /-- a reference picture (10 R337). -/
  reference : Bool := false
  /-- awaits output (10 R337). -/
  awaiting : Bool := false
  /-- cycle in which the picture became complete (10 R338). -/
  complete : Option Nat := none
  /-- its place in output order within the part (10 R338). -/
  order : Nat := 0
  /-- taken into an input set or superseded (01 R29). -/
  taken : Bool := false
  /-- in the input set of the running tick (10 R337). -/
  inSet : Bool := false
  deriving DecidableEq, Repr

/-- One stream context (10 R320 to R339). -/
structure Ctx where
  /-- DISABLED, EMPTY, WAIT_IDR, RUNNING, SUSPENDED (10 R320). -/
  state : Nat := 0
  /-- highest accepted sequence number (10 R324). -/
  high : Option Nat := none
  /-- unit in progress (10 R325). -/
  unit : Option AccessUnit := none
  /-- AU_SEQ counter (10 R328). -/
  seq : Nat := 0
  /-- ring offset of the next unit (10 R326). -/
  ringPos : Nat := 0
  /-- units queued or being decoded (10 R327). -/
  ring : List RingUnit := []
  /-- extended timestamp of the previous unit (10 R329). -/
  rtpExt : Option Nat := none
  /-- token bucket, in units of 1/500,000,000,000 sample (10 R334). -/
  tokens : Nat := 0
  /-- cycle up to which the bucket is refilled (10 R334). -/
  tokensAt : Nat := 0
  /-- the decoder has put the context into WAIT_IDR since the last unit queued with RESYNC (10 R327, R339). -/
  rewait : Bool := false
  /-- parameter sets precede the next IDR unit (10 R326). -/
  needParams : Bool := false
  /-- the next picture carries RESYNC (10 R341). -/
  resync : Bool := false
  /-- the decoder discards items up to an undamaged IDR item (10 R332). -/
  gapSkip : Bool := false
  /-- decoder state: the units decoded since the IDR unit, by AU_SEQ, in order (10 R332). -/
  history : List (Nat × List (BitVec 8)) := []
  /-- chain digest of the last unit decoded (10 R338). -/
  chain : List (BitVec 8) := []
  /-- NAL units that the decoder discarded and counted (10 R330). -/
  nals : Nat := 0
  /-- pictures held (10 R336). -/
  pics : List Picture := []
  /-- engine that decodes its unit (10 R332). -/
  engine : Option (Fin 9) := none
  deriving DecidableEq, Repr

/-- The unit a decode engine works on (10 R332, R333). -/
structure DecodeJob where
  /-- context (10 R332). -/
  ctx : Nat := 0
  /-- the queue item, as far as its cells are read (10 R328). -/
  item : List (BitVec 8) := []
  /-- cells of the item still to read (09 R311). -/
  cells : List Nat := []
  /-- poisoned words among those read (09 R315). -/
  poison : Nat := 0
  /-- AU_SEQ of the unit (10 R328). -/
  seq : Nat := 0
  /-- the item is read and the unit is being decoded (10 R332). -/
  taken : Bool := false
  /-- cycle of the unlink (10 R333). -/
  start : Nat := 0
  deriving DecidableEq, Repr

/-- One decode engine (10 R332, R335). -/
structure Engine where
  /-- unit in work (10 R332). -/
  job : Option DecodeJob := none
  /-- failed its self-check (10 R335). -/
  failed : Bool := false
  deriving DecidableEq, Repr

/-- Intake and decode (10). -/
structure Intake where
  /-- stream contexts; one not listed is as after reset (10 R320). -/
  ctx : SMap Ctx := []
  /-- decode engines; engine 8 is the spare (10 R332). -/
  engines : Vector Engine 9 := Vector.replicate 9 {}
  /-- pictures numbered so far (10 R338). -/
  pictures : Nat := 0
  /-- pictures complete so far (10 R338). -/
  outputs : Nat := 0
  /-- join reports to send: (port, context, repeat) (10 R324). -/
  joinAt : List (Nat × Nat × Bool) := []
  deriving DecidableEq, Repr

/-- A frame that a port sends or holds for its gate (11 R347, R348). -/
structure EthTx where
  /-- traffic class (11 R347). -/
  cls : Nat := 0
  /-- destination address, IPv4 as an IPv4-mapped address; for a frame without IP the 6 bytes of its MAC address (11 R367). -/
  dst : List (BitVec 8) := []
  /-- destination UDP port, 0 for a frame that is not UDP (11 R367). -/
  dport : Nat := 0
  /-- 0 UDP, 1 ARP, 2 Neighbor Discovery, 3 ICMP echo, 4 IGMP, 5 MLD, 6 MKA, 7 gPTP, 8 verify, 9 respond (11 R347). -/
  proto : Nat := 0
  /-- source address where the frame answers one that named it, else the port's own address (11 R346, R367). -/
  src : List (BitVec 8) := []
  /-- sequence number of the R-TAG (11 R358). -/
  rtag : Option Nat := none
  /-- payload (11 R367). -/
  body : List (BitVec 8) := []
  deriving DecidableEq, Repr

/-- A frame that left the part, before MACsec (11 R347; notes/assumptions/9.md). -/
structure Sent where
  /-- port (11 R347). -/
  port : Fin 2 := 0
  /-- frame (11 R347). -/
  frame : EthTx := {}
  /-- source address, as the destination is written (11 R346, R367). -/
  src : List (BitVec 8) := []
  /-- VID and PCP of its VLAN tag (11 R348, R360). -/
  tag : Option (Nat × Nat) := none
  /-- time of its first bit on the wire, in tenths of a ns from cycle 0 on (02 R71). -/
  start : Nat := 0
  deriving DecidableEq, Repr

/-- A gate control list as it stands (11 R349). -/
structure Gcl where
  /-- entries (11 R349). -/
  count : Nat := 0
  /-- cycle time in ns (11 R349). -/
  cycle_ : Nat := 0
  /-- base time (11 R349). -/
  base : Nat := 0
  /-- (GATES, INTERVAL) (11 R349). -/
  entries : List (Nat × Nat) := []
  deriving DecidableEq, Repr

/-- A live MKA peer (11 R362). -/
structure MkaPeer where
  /-- its secure channel identifier (11 R361). -/
  sci : Nat := 0
  /-- key server priority (11 R362). -/
  prio : Nat := 0
  /-- lowest packet number accepted next without the replay window: one above the highest accepted (11 R361). -/
  pn : Nat := 0
  /-- time (ns) at which it was last heard (11 R362). -/
  heard : Nat := 0
  deriving DecidableEq, Repr

/-- One Ethernet port (11). -/
structure Port where
  /-- link up (11 R344). -/
  link : Bool := false
  /-- Mbit/s (11 R375). -/
  speed : Nat := 0
  /-- Clause 74 FEC negotiated (11 R344). -/
  fec : Bool := false
  /-- DISABLED, VERIFYING, ACTIVE, FAILED (11 R352). -/
  preempt : Nat := 0
  /-- verify frames sent since link-up (11 R352). -/
  verifies : Nat := 0
  /-- operational gate list (11 R350). -/
  gcl : Gcl := {}
  /-- committed list that waits for its first cycle start (11 R350). -/
  gclNext : Option Gcl := none
  /-- time (ns) of that cycle start (11 R350). -/
  gclNextAt : Nat := 0
  /-- current entry (11 R349). -/
  gclIdx : Nat := 0
  /-- time at which the express frame in flight leaves the wire, in tenths of a ns (02 R71). -/
  wireX : Nat := 0
  /-- the same of a preemptable frame (02 R71). -/
  wireP : Nat := 0
  /-- traffic class of that preemptable frame (11 R351). -/
  wireCls : Nat := 0
  /-- frames that wait for the wire or their gate, in the order they were queued (11 R348). -/
  queue : List EthTx := []
  /-- macsec.state (11 R375). -/
  mka : Nat := 0
  /-- number of the SAK in use, 0 none (11 R362). -/
  sak : Nat := 0
  /-- last transmit packet number (11 R362). -/
  pn : Nat := 0
  /-- live peers (11 R361). -/
  peers : List MkaPeer := []
  /-- measured peer delay, ns (11 R364). -/
  pdelay : Nat := 0
  /-- asCapable neighbour (11 R364). -/
  asCapable : Bool := false
  /-- grandmaster identity announced on the port (11 R366). -/
  gm : List (BitVec 8) := []
  /-- priority vector of that announce (11 R364). -/
  gmPrio : Nat := 0
  /-- sync received within its timeout (11 R364). -/
  synced : Bool := false
  /-- time (ns) of the last peer delay request (11 R364). -/
  pdelayAt : Nat := 0
  /-- sequence number of the next peer delay request (11 R364). -/
  pdelaySeq : Nat := 0
  deriving DecidableEq, Repr

/-- Counters and meters of the stream filters (11 R355, R356). -/
structure Qci where
  /-- frames passed (11 R356). -/
  passed : SMap Nat := []
  /-- frames dropped (11 R356). -/
  dropped : SMap Nat := []
  /-- filters that BLOCK_OVERSIZE has closed (11 R355). -/
  blocked : List Nat := []
  /-- tokens in 1/4,000,000 byte and the cycle up to which they are refilled (11 R355). -/
  tokens : SMap (Nat × Nat) := []
  deriving DecidableEq, Repr

/-- Vector recovery of one listener stream (11 R359). -/
structure Recovery where
  /-- highest sequence number accepted since the reset (11 R359). -/
  high : Option Nat := none
  /-- sequence numbers of the history that were accepted (11 R359). -/
  seen : List Nat := []
  /-- frames passed (11 R375). -/
  passed : Nat := 0
  /-- frames discarded (11 R375). -/
  discarded : Nat := 0
  /-- frames without an R-TAG (11 R359). -/
  tagless : Nat := 0
  deriving DecidableEq, Repr

/-- An emit on its way to the alarm egress, or an alarm whose wire stage has not ended (11 R367). -/
structure AlarmTx where
  /-- cycle in which it reaches the egress (02 R71). -/
  due : Nat := 0
  /-- logical tile id (11 R367). -/
  tile : Nat := 0
  /-- physical tile (14 R458). -/
  ptile : Fin 72 := 0
  /-- handler (11 R367). -/
  handler : Nat := 0
  /-- job id of the alarm record (14 R458). -/
  job : Nat := 0
  /-- STEP_COUNT at the emit (11 R367). -/
  step : Nat := 0
  /-- tick number at the emit (11 R367). -/
  tick : Nat := 0
  /-- gPTP time of the emit (11 R367). -/
  time : Nat := 0
  /-- event number (11 R367). -/
  event : Nat := 0
  /-- alarm body (11 R367). -/
  body : List (BitVec 8) := []
  /-- CODE of its alarm record (14 R458). -/
  code : Nat := 0
  /-- names the emit until its record is written (the model's own). -/
  key : Nat := 0
  deriving DecidableEq, Repr

/-- A message of the result stream (11 R370). -/
structure Message where
  /-- KIND (11 R370). -/
  kind : Nat := 0
  /-- TICK (11 R370). -/
  tick : Nat := 0
  /-- SEQ of its first datagram (11 R370). -/
  seq : Nat := 0
  /-- body (11 R370). -/
  body : List (BitVec 8) := []
  deriving DecidableEq, Repr

/-- The two Ethernet ports and the egresses (11). -/
structure Eth where
  /-- ETH0 and ETH1 (11 R344). -/
  port : Vector Port 2 := Vector.replicate 2 {}
  /-- stream filters (11 R354). -/
  qci : Qci := {}
  /-- listener streams 2 to 255 (11 R359). -/
  frer : SMap Recovery := []
  /-- sequence number of talker stream 0 (11 R358). -/
  alarmSeq : BitVec 16 := 0
  /-- sequence number of talker stream 1 (11 R358). -/
  resultSeq : BitVec 16 := 0
  /-- emits on their way to the egress (11 R367). -/
  alarms : List AlarmTx := []
  /-- alarm payloads whose frames are being built: (cycle in which the frame is ready, payload) (02 R71). -/
  building : List (Nat × List (BitVec 8)) := []
  /-- alarm pulses: (cycle in which the pins become active, cycle in which they return) (11 R369). -/
  pulses : List (Nat × Nat) := []
  /-- retention ring, oldest first (11 R372). -/
  ring : List Message := []
  /-- boundaries began without a lock (16 R531). -/
  neverLocked : Bool := false
  /-- SEARCHING, SLAVE, HOLDOVER (11 R375). -/
  ptpState : Nat := 0
  /-- slave port (11 R375). -/
  slave : Nat := 0
  /-- last offset from master, ns (11 R375). -/
  offset : Int := 0
  /-- |offset| of the last 16 sync intervals (11 R366). -/
  offsets : List Nat := []
  /-- cycle of the last good sync (11 R366). -/
  lastSync : Nat := 0
  /-- estimate of the time base, ns, at cycle time0At (11 R366). -/
  time0 : Nat := 0
  /-- cycle to which time0 belongs (11 R366). -/
  time0At : Nat := 0
  /-- measured rate of the arithmetic clock against the time base, 10^-9 (02 R53). -/
  rate : Int := 0
  deriving DecidableEq, Repr

/-- An established Alaust session (12 R390 to R395). -/
structure Session where
  /-- session number (12 R388). -/
  num : Nat := 0
  /-- opened at level Expert (12 R376). -/
  expert : Bool := false
  /-- KEY_SLOT (12 R387). -/
  slot : Nat := 0
  /-- k_hp, host to part (12 R389). -/
  keyIn : List (BitVec 8) := []
  /-- k_ph, part to host (12 R389). -/
  keyOut : List (BitVec 8) := []
  /-- port of the host's last datagram (12 R385). -/
  port : Fin 2 := 0
  /-- address of the host, IPv4 as an IPv4-mapped address (12 R385). -/
  host : List (BitVec 8) := []
  /-- UDP port of the host (12 R385). -/
  hport : Nat := 0
  /-- highest counter accepted (12 R391). -/
  rxHigh : Nat := 0
  /-- counters accepted inside the window (12 R391). -/
  rxSeen : List Nat := []
  /-- next COUNTER of the part (12 R391). -/
  txNext : Nat := 1
  /-- staged bytes, keyed by object x 65,536 + offset (12 R379). -/
  stage : SMap (BitVec 8) := []
  /-- (REQ_ID, reply) of the last requests, newest first (12 R395). -/
  replies : List (Nat × List (BitVec 8)) := []
  /-- REQ_IDs whose reply is outstanding (12 R395). -/
  waiting : List Nat := []
  /-- (NSEQ, times sent) not yet acknowledged (12 R401). -/
  notify : List (Nat × Nat) := []
  deriving DecidableEq, Repr

/-- An open handshake (12 R388). -/
structure Handshake where
  /-- assigned SESSION (12 R388). -/
  num : Nat := 0
  /-- LEVEL (12 R387). -/
  expert : Bool := false
  /-- KEY_SLOT (12 R387). -/
  slot : Nat := 0
  /-- transcript digest (12 R388). -/
  th : List (BitVec 8) := []
  /-- k_hp, host to part (12 R389). -/
  keyIn : List (BitVec 8) := []
  /-- k_ph, part to host (12 R389). -/
  keyOut : List (BitVec 8) := []
  deriving DecidableEq, Repr

/-- An open bulk transfer (12 R397 to R400). -/
structure Bulk where
  /-- BULK_ID (12 R397). -/
  id : Nat := 0
  /-- session (12 R397). -/
  session : Nat := 0
  /-- TARGET (12 R397). -/
  target : Nat := 0
  /-- PERSIST (12 R397). -/
  persist : Bool := false
  /-- bytes of the upload, or of the download (12 R397). -/
  length : Nat := 0
  /-- DIGEST (12 R397). -/
  digest : List (BitVec 8) := []
  /-- HBM address the upload is received at (12 R399). -/
  base : Nat := 0
  /-- segments received, or acked by the host (12 R398). -/
  got : List Nat := []
  /-- new segments since the last ack (12 R398). -/
  unacked : Nat := 0
  /-- download: segments sent at least once (12 R398). -/
  sent : Nat := 0
  /-- download: the retained messages; upload: nothing (12 R398). -/
  data : List (BitVec 8) := []
  /-- upload: the segments received, by number (12 R398). -/
  parts : SMap (List (BitVec 8)) := []
  /-- REQ_ID of the BULK_CLOSE whose verification runs (12 R399). -/
  closing : Option Nat := none
  deriving DecidableEq, Repr

/-- Who wrote a stage or a request (12 R379). -/
inductive Writer where
  | session (num : Nat)
  | i2c
  deriving DecidableEq, Repr

/-- A commit group (12 R380). -/
structure Group where
  /-- writer (12 R380). -/
  writer : Writer := .i2c
  /-- REQ_ID of the COMMIT that waits for its reply (12 R395). -/
  req : Option Nat := none
  /-- staged bytes (12 R380). -/
  bytes : SMap (BitVec 8) := []
  /-- target of the request: 0, or a tick number (12 R380). -/
  target : Nat := 0
  /-- accepted: the tick at whose boundary it applies (12 R380). -/
  tick : Nat := 0
  /-- order of acceptance (12 R382). -/
  seq : Nat := 0
  /-- accepted: time (ns) at which validation ended (12 R380). -/
  at_ : Nat := 0
  deriving DecidableEq, Repr

/-- A notification record (12 R401). -/
structure Note where
  /-- NSEQ (12 R401). -/
  nseq : Nat := 0
  /-- TIME (12 R401). -/
  time : Nat := 0
  /-- CODE (12 R401). -/
  code : Nat := 0
  /-- KIND (12 R401). -/
  kind : Nat := 0
  /-- SOURCE (12 R401). -/
  source : Nat := 0
  /-- TICK (12 R401). -/
  tick : Nat := 0
  /-- DATA (12 R401). -/
  data : List (BitVec 8) := []
  deriving DecidableEq, Repr

/-- The I2C target (12 R403). -/
structure I2c where
  /-- its own stage (12 R379). -/
  stage : SMap (BitVec 8) := []
  /-- response of the last command, status first (12 R403). -/
  response : Option (List (BitVec 8)) := none
  /-- a command is pending, held during a firmware switch (12 R403). -/
  busy : Bool := false
  deriving DecidableEq, Repr

/-- A request received during a firmware switch and held until it ends (12 R396). -/
inductive HeldReq where
  | read (m : AMsg) (entries : List AEntry)
  | write (m : AMsg) (entries : List AEntry)
  | commit (m : AMsg) (target : Nat)
  | discard (m : AMsg)
  | keepalive (m : AMsg)
  | notifyAck (m : AMsg) (nseq : Nat)
  | bulkOpen (m : AMsg) (target flags reserved length first : Nat) (digest : List (BitVec 8))
  | bulkData (m : AMsg) (id reserved seg : Nat) (bytes : List (BitVec 8))
  | bulkAck (m : AMsg) (id next map : Nat)
  | bulkClose (m : AMsg) (id : Nat)
  | finish (m : AMsg)
  | i2cRead (index sub offset length : Nat)
  | i2cWrite (index sub offset : Nat) (data : List (BitVec 8))
  deriving DecidableEq, Repr

/-- Dictionary service, Alaust and I2C (12). -/
structure Alaust where
  /-- established sessions (12 R390). -/
  sessions : List Session := []
  /-- open handshakes (12 R388). -/
  shakes : List Handshake := []
  /-- next session number to assign (12 R388). -/
  nextSession : Nat := 1
  /-- open transfers (12 R397). -/
  bulks : List Bulk := []
  /-- next BULK_ID (12 R397). -/
  nextBulk : Nat := 1
  /-- groups under validation, in order of request (12 R380). -/
  validating : List Group := []
  /-- groups accepted and not yet applied, in order of acceptance (12 R382). -/
  accepted : List Group := []
  /-- groups accepted so far (12 R382). -/
  groups : Nat := 0
  /-- notification records raised and not yet numbered and written to the ring, oldest first (12 R401). -/
  raised : List Note := []
  /-- notification ring, oldest first (12 R401). -/
  ring : List Note := []
  /-- requests held during a firmware switch, oldest first (12 R396). -/
  held : List HeldReq := []
  /-- commit.last_applied (12 R384). -/
  lastApplied : Nat := 0
  /-- I2C target (12 R403). -/
  i2c : I2c := {}
  /-- life-cycle state to enter at the next boundary (16 R522). -/
  lcTo : Option Nat := none
  /-- code with which the last command write was answered (the model's own record) (12 R402). -/
  answer : Nat := 0
  /-- bytes that the last command read of test.data or of the I2C response delivered (the model's own record) (12 R407). -/
  data : List (BitVec 8) := []
  deriving DecidableEq, Repr

/-- One record of a tick's record set (14 R462, R463). -/
structure RecLeaf where
  /-- CONTEXT (14 R463). -/
  ctx : Nat := 0
  /-- JOB_ID (14 R463). -/
  job : Nat := 0
  /-- EVENT of an alarm record, else 0 (14 R463). -/
  event : Nat := 0
  /-- d, SHA-384 of the record's body (14 R463). -/
  digest : List (BitVec 8) := []
  deriving DecidableEq, Repr

/-- The record set of a tick until its seal is signed (14 R462 to R465). -/
structure TickSet where
  /-- tick (14 R464). -/
  tick : Nat := 0
  /-- RUN_TICK (14 R464). -/
  runTick : Nat := 0
  /-- TICK_TIME, t(k) (14 R464). -/
  time : Nat := 0
  /-- package of the plan (14 R464). -/
  package : List (BitVec 8) := []
  /-- weights digest of the plan (14 R461). -/
  weights : List (BitVec 8) := []
  /-- records written so far (14 R463). -/
  leaves : List RecLeaf := []
  /-- HOLDOVER (14 R464). -/
  holdover : Bool := false
  /-- REPHASE (14 R464). -/
  rephase : Bool := false
  /-- VARIABLE: det.repeatable was FALSE at some time of the tick (14 R464). -/
  varied : Bool := false
  /-- CLOSED_AT_BOUNDARY (14 R464). -/
  atBoundary : Bool := false
  /-- the set has closed (14 R462). -/
  closed : Bool := false
  /-- a DANGEROUS condition stood in the tick (14 R464, 15 R489). -/
  suspect : Bool := false
  /-- alarm records of emits of the tick not yet written (14 R462). -/
  alarms : Nat := 0
  /-- bytes 0 to 175 of the seal whose signature is being made (14 R465). -/
  message : Option (List (BitVec 8)) := none
  deriving DecidableEq, Repr

/-- A patrol replay on a spare (15 R485 to R487). -/
structure Replay where
  /-- the spare (15 R485). -/
  tile : Fin 72 := 0
  /-- key of the original item (15 R485). -/
  item : Nat := 0
  /-- the third execution (15 R487). -/
  third : Bool := false
  /-- third execution: digests of the first replay (15 R487). -/
  first : List (BitVec 8) := []
  /-- third execution: tile of the first replay (15 R487). -/
  firstTile : Fin 72 := 0
  /-- record handed to the comparator (15 R486). -/
  record : Option (List (BitVec 8)) := none
  /-- writes discarded (15 R486). -/
  discarded : Nat := 0
  deriving DecidableEq, Repr

/-- Patrol replay (15 R485). -/
structure Patrol where
  /-- time (ns) at which the present pass began (15 R485). -/
  passAt : Option Nat := none
  /-- the pass has taken every entry and its length is reported (15 R485). -/
  ended : Bool := false
  /-- entries of the plan taken in the present pass (15 R485). -/
  done : List Nat := []
  /-- entries passed over (15 R485). -/
  passed : Nat := 0
  /-- replays in progress (15 R485). -/
  replays : List Replay := []
  /-- replays that differ and wait for a third execution (15 R487). -/
  wait3 : List Replay := []
  deriving DecidableEq, Repr

/-- A message that the system controller put into queue 1,032: what the result egress needs beside its bytes (11 R370, 14 R456, R458). -/
structure ResMsg where
  /-- KIND (11 R370). -/
  kind : Nat := 1
  /-- record: the item it reports (14 R458). -/
  item : Option Nat := none
  /-- alarm record: the emit (14 R458). -/
  alarm : Option AlarmTx := none
  /-- record of a handler that ended without an emit, or that replaces a poisoned alarm record: its fields (14 R458). -/
  ended : Option AlarmTx := none
  /-- STATUS of an alarm record (14 R458). -/
  status : Nat := 0
  /-- the record of an emit, awaited by its tick's set (14 R462). -/
  emit : Bool := false
  /-- TICK (11 R370). -/
  tick : Nat := 0
  /-- body of a seal or an event (11 R370). -/
  body : List (BitVec 8) := []
  deriving DecidableEq, Repr

/-- The vector unit of the system controller and the memory that it reaches (04 R155, 08 R248). -/
structure CtrlUnit where
  /-- vector registers (04 R155). -/
  v : Vector (BitVec 256) 32 := Vector.replicate 32 0
  /-- VL of the unit (04 R133, R155). -/
  vl : Nat := 0
  /-- VEW of the unit (04 R129, R155). -/
  vew : BitVec 32 := 0
  /-- controller memory (08 R248). -/
  mem : Mem := []
  /-- bytes of controller memory whose ECC word no longer corrects (08 R248). -/
  bad : List Nat := []
  /-- the g registers that the encodings name (04 R136, R155). -/
  g : Vector (BitVec 64) 64 := Vector.replicate 64 0
  /-- the a registers that the encodings name (04 R137, R155). -/
  a : Vector (BitVec 32) 8 := Vector.replicate 8 0
  /-- the cb registers by which addresses wrap (04 R146, R155). -/
  cb : Vector (BitVec 64) 8 := Vector.replicate 8 0
  /-- V-slot words that firmware has given the unit, one issuing per tile cycle (04 R155). -/
  words : List (BitVec 32) := []
  /-- results in flight (04 R155). -/
  sched : List Sched := []
  /-- tile cycles in which an operation holds the unit's access of controller memory (04 R149, R155). -/
  port : List Nat := []
  /-- words that took no effect: an undefined opcode or another word that R139 names (04 R139, R151). -/
  refused : Nat := 0
  deriving DecidableEq, Repr

/-- The system controller's tick, plan, item, record and fault state (02, 14, 15). -/
structure Ctrl where
  /-- persistent tick number (02 R49). -/
  tick : Nat := 0
  /-- cycle of the last boundary (02 R44). -/
  boundary : Nat := 0
  /-- gPTP time of the last boundary (02 R48). -/
  time : Nat := 0
  /-- STEP_COUNT (02 R42). -/
  step : Nat := 0
  /-- the guard has begun (02 R46). -/
  guard : Bool := true
  /-- tick.lock_state (02 R52). -/
  lock : Nat := 0
  /-- cycle in which the present guard began (02 R46). -/
  guardAt : Nat := 0
  /-- tick.guard_last (02 R74). -/
  guardLast : Nat := 0
  /-- cycle of the last TICK_IN boundary or TICK frame boundary (02 R50). -/
  edgeAt : Option Nat := none
  /-- number that the next boundary takes from a TICK frame (13 R436). -/
  nextTick : Option Nat := none
  /-- tile cycles between the last two boundaries of the source that came one period apart (02 R53). -/
  edgePeriod : Nat := 0
  /-- phase errors at the last 16 edges or TICK frames accepted, ns, newest first (02 R53). -/
  edgeErrs : List Nat := []
  /-- expected edges, or TICK frames, missing in a row (02 R50). -/
  edgesMissed : Nat := 0
  /-- edges outside the window (02 R50). -/
  edgesIgnored : Nat := 0
  /-- the present tick is a re-phase tick (02 R54). -/
  rephase : Bool := false
  /-- the present tick is in HOLDOVER (02 R53). -/
  holdover : Bool := false
  /-- the monitor has shed in the present tick (02 R63). -/
  shedTick : Bool := false
  /-- plan in force (02 R60). -/
  plan : Option Plan := none
  /-- the plan in force has not finished loading (16 R528). -/
  loading : Bool := false
  /-- time (ns) of the boundary at which the plan became active (16 R513). -/
  activatedAt : Nat := 0
  /-- spares at the plan's activation, in ascending physical number: replay area ARG belongs to the ARG-th (16 R527). -/
  replaySpares : List (Fin 72) := []
  /-- a plan runs in the present tick (02 R44). -/
  runs : Bool := false
  /-- packages held verified in HBM (02 R582). -/
  packages : List Package := []
  /-- RUN_TICK of the present or last running tick (14 R442). -/
  runTick : Nat := 0
  /-- RUN_TICK of the next running tick (14 R442). -/
  nextRun : Nat := 0
  /-- det.clean_start (14 R467). -/
  clean : Bool := false
  /-- det.paused (14 R451). -/
  paused : Bool := false
  /-- paused ticks of the present pause (14 R459). -/
  pausedTicks : Nat := 0
  /-- det.save_digest (14 R452). -/
  save : Option (List (BitVec 8)) := none
  /-- the save digest is being computed (14 R452). -/
  saving : Bool := false
  /-- 0 none, 1 computing, 2 equal: resume at the next boundary, 3 mismatch (14 R453). -/
  verify : Nat := 0
  /-- item table (14 R456). -/
  items : SMap Item := []
  /-- next key of the item table (14 R456). -/
  nextItem : Nat := 0
  /-- record sets not yet sealed, oldest first (14 R462). -/
  sets : List TickSet := []
  /-- digest of the last seal (14 R465). -/
  prevSeal : Option (List (BitVec 8)) := none
  /-- digest of the last seal sent (14 R465). -/
  sealSent : Option (List (BitVec 8)) := none
  /-- det.seals (14 R470). -/
  seals : Nat := 0
  /-- checkpoint in progress: its CP_RUN_TICK (16 R513). -/
  checkpoint : Option Nat := none
  /-- vector unit and memory of the controller (04 R155). -/
  vecUnit : CtrlUnit := {}
  /-- patrol replay (15 R485). -/
  patrol : Patrol := {}
  /-- DANGEROUS conditions that persist (15 R488). -/
  dangerous : List Nat := []
  /-- FAULT_N is held asserted until a clear (15 R489). -/
  latched : Bool := false
  /-- reasons of DEGRADED since the start (15 R488). -/
  degraded : List Nat := []
  /-- (region, time in ns) of the faults of the last second (15 R482). -/
  regionFaults : List (Nat × Nat) := []
  /-- regions to isolate at the next boundary (15 R482). -/
  isolating : List Nat := []
  /-- isolated regions (15 R482). -/
  isolated : List Nat := []
  /-- vacant logical ids (15 R481). -/
  vacant : List Nat := []
  /-- physical tile that last held a vacant id (01 R24; 15 R481). -/
  vacatedBy : SMap Nat := []
  /-- queues with target 0xFF whose crossing notified the system controller (09 R312). -/
  qcross : List Nat := []
  /-- tiles whose id passes to a spare at the next boundary (15 R480). -/
  withdraw : List (Fin 72) := []
  /-- rotations that wait for the next boundary (15 R484). -/
  rotate : List Nat := []
  /-- trng.active (15 R483). -/
  trng : Nat := 0
  /-- the controller restarts: first tick without items (15 R490). -/
  down : Option Nat := none
  /-- failed self-tests in a row (15 R490). -/
  enclaveFails : Nat := 0
  /-- test alarms that wait for the next tick: (logical tile, handler) (14 R462, 15 R491). -/
  testAlarms : List (Nat × Nat) := []
  /-- next NSEQ (12 R401). -/
  nseq : Nat := 0
  /-- next SEQ of the result stream (11 R371). -/
  seq : Nat := 0
  /-- next EVENT of alarms (11 R367). -/
  event : Nat := 0
  /-- messages of the controller in queue 1,032 or on their way to it (14 R458). -/
  msgs : SMap ResMsg := []
  /-- next key of msgs (the model's own). -/
  nextMsg : Nat := 0
  /-- power-fail record whose missing records wait until the active package is present (16 R512). -/
  interrupted : Option (List (BitVec 8)) := none
  /-- package loaded from the model store, whose plan starts at the first boundary (16 R531). -/
  startPlan : Option (List (BitVec 8)) := none
  /-- CP_RUN_TICK of the checkpoint that the loading plan restores (16 R531). -/
  restore : Option Nat := none
  deriving DecidableEq, Repr

/-- A wake-up that waits for its admission slot (17 R540). -/
structure Wake where
  /-- domain (17 R540). -/
  domain : Nat := 0
  /-- a class-0 wake (17 R539). -/
  c0 : Bool := false
  /-- cycle of the request (17 R540). -/
  at_ : Nat := 0
  /-- order among requests of one cycle: logical or acting id, 100 + physical number of a spare, 200 + number of another domain (17 R540). -/
  rank : Nat := 0
  deriving DecidableEq, Repr

/-- Recovery of the firmware image from the host (16 R530). -/
structure Recover where
  /-- port (16 R530). -/
  port : Fin 2 := 0
  /-- link-local address of the host (16 R530). -/
  host : List (BitVec 8) := []
  /-- LENGTH of the image (16 R530). -/
  length : Nat := 0
  /-- DIGEST of the OFFER (16 R530). -/
  digest : List (BitVec 8) := []
  /-- bytes received, in order (16 R530). -/
  got : List (BitVec 8) := []
  /-- repeats of the outstanding READ (16 R530). -/
  repeats : Nat := 0
  deriving DecidableEq, Repr

/-- A power-fail commit that runs (16 R508; 17 R544, R546, R552). -/
structure CutShort where
  /-- reset cause that follows: 1 PWR_FAIL_N or a supply, 3 requested, 4 thermal trip, 5 clock failure, 6 EXTEST (16 R521) (17 R552). -/
  cause : Nat := 1
  /-- body of the power-fail record (16 R511). -/
  body : List (BitVec 8) := []
  /-- the record verifies and the part holds (16 R508). -/
  done : Bool := false
  deriving DecidableEq, Repr

/-- Power domains, the cap and the throttle, clocks, resets, start-up and low-speed pins (17, 18). -/
structure Power where
  /-- throttle level L in force (17 R542, R543). -/
  level : Nat := 0
  /-- throttle level from the next step boundary (17 R542). -/
  next : Nat := 0
  /-- power samples of the last 1 ms in mW, newest first (17 R542). -/
  samples : List Nat := []
  /-- highest junction sensor, degrees C (17 R544). -/
  junction : Int := 25
  /-- rail voltages in mV, in the order of power.rails (17 R545, 18 R565). -/
  rails : List Nat := [750, 1800, 1800, 1800, 750, 800, 850, 1100, 400, 1800, 3300, 750]
  /-- power states of domains 80 to 92 (17 R535). -/
  blocks : Vector Nat 13 := Vector.replicate 12 4 |>.push 0
  /-- queue of wake-ups (17 R540). -/
  wake : List Wake := []
  /-- admitted wake-ups whose exit time runs (17 R540). -/
  waking : List Nat := []
  /-- lowering requests of tiles that wait until the tile is idle: tile to state (17 R537). -/
  lower : SMap Nat := []
  /-- core PLL driving the tree (17 R549). -/
  pllActive : Nat := 0
  /-- locked PLLs: 0, 1 core, 2 HBM, 3 and 4 ETH0 and ETH1, 5 to 8 BL0 to BL3 (17 R548, R557). -/
  pll : List Nat := []
  /-- REFCLK_25 present (17 R550). -/
  refclk : Bool := true
  /-- ETH_REFCLK present (17 R550). -/
  ethRefclk : Bool := true
  /-- Ethernet ports that the loss of ETH_REFCLK took down, with their speed and FEC: port + 2 x FEC + 4 x speed (17 R550). -/
  linksHeld : List Nat := []
  /-- PWR_FAIL_N is low (16 R507; 18 R562). -/
  powerFail : Bool := false
  /-- power-fail commit (16 R508). -/
  cut : Option CutShort := none
  /-- EXTEST is loaded: FAULT_N asserted until PORST_N (16 R521). -/
  extest : Bool := false
  /-- reset.phase (17 R554). -/
  phase : Nat := 0
  /-- reset.last_cause (17 R552). -/
  cause : Nat := 0
  /-- cycle of the rise of PORST_N (17 R557). -/
  riseAt : Nat := 0
  /-- BOOT_MODE as sampled (16 R515; 18 R563). -/
  bootMode : BitVec 2 := 0
  /-- I2C address, from the straps (12 R403; 18 R563). -/
  i2cAddr : Nat := 0x58
  /-- halted before the first firmware instruction for JTAG (16 R515). -/
  halted : Bool := false
  /-- the enclave has released the keys (16 R517). -/
  released : Bool := false
  /-- recovery in progress (16 R530). -/
  recover : Option Recover := none
  /-- TICK_OUT (02 R51; 17 R553). -/
  tickOut : Bool := false
  /-- cycle in which TICK_OUT rises, or rose (02 R51). -/
  tickOutAt : Option Nat := none
  /-- PPS_OUT (18 R571; 17 R553). -/
  ppsOut : Bool := false
  deriving DecidableEq, Repr

/-- The body of a journal record (16 R501). -/
inductive JBody where
  | config (seq target : Nat) (bytes : SMap (BitVec 8))
  | reserve (counter block : Nat)
  | checkpoint (ctx runTick : Nat) (slot : List (BitVec 8))
  | cpCommit (runTick layout : Nat) (package : List (BitVec 8)) (count : Nat)
  | packageDir (digest : List (BitVec 8)) (device offset length : Nat)
  | repair (entries : List (Nat × Nat × Nat × Nat))
  | spares (tiles : List (Nat × Nat))
  | wear (counts : SMap Nat)
  | bootPort (port mode : Nat)
  | firmware (digest : List (BitVec 8)) (svn state : Nat)
  | powerFail (body : List (BitVec 8))
  | carry (keys : List (BitVec 8))
  deriving DecidableEq, Repr

/-- A record of the journal as it lies in the log (16 R500). -/
structure JRec where
  /-- JSEQ (16 R500). -/
  jseq : Nat := 0
  /-- transition count of the keep key that encrypted an owner record (16 R517). -/
  gen : Nat := 0
  /-- where it lies, in bytes from the first byte ever written to the log (16 R502). -/
  at_ : Nat := 0
  /-- TYPE, key and BODY (16 R501). -/
  body : JBody := .reserve 0 0
  deriving DecidableEq, Repr

/-- The one-time-programmable fuses of the enclave (16 R516). -/
structure Otp where
  /-- firmware key slots; a missing one is all 0 (16 R516). -/
  slots : List (List (BitVec 8)) := []
  /-- revoked slots (16 R516). -/
  revoked : List Nat := []
  /-- FW_SVN (16 R516). -/
  fwSvn : Nat := 0
  /-- PKG_SVN (16 R516). -/
  pkgSvn : Nat := 0
  /-- life-cycle state: 0 BLANK, 1 DEVELOPMENT, 2 DEPLOYED, 3 RETURNED, 4 ENDED (16 R516, R521; 12 R406). -/
  lc : Nat := 0
  /-- count of transitions (16 R516). -/
  transitions : Nat := 0
  /-- every fuse of the device secret is blown (16 R522). -/
  secretGone : Bool := false
  deriving DecidableEq, Repr

/-- A package in the model store (16 R498, R523). -/
structure Stored where
  /-- package digest (16 R523). -/
  digest : List (BitVec 8) := []
  /-- device (16 R498). -/
  device : Nat := 0
  /-- offset in the device's half of the store (16 R501). -/
  offset : Nat := 0
  /-- the package (16 R523). -/
  bytes : List (BitVec 8) := []
  /-- its PACKAGE_DIR record is journaled (16 R523). -/
  listed : Bool := false
  /-- transition count of the keep key that encrypted it (16 R522). -/
  gen : Nat := 0
  deriving DecidableEq, Repr

/-- What survives power cuts: the keep store, its journal, and the fuses (16 R496). -/
structure Keep where
  /-- journal records not yet erased, in the order of their JSEQ (16 R500). -/
  recs : List JRec := []
  /-- next JSEQ (16 R500). -/
  next : Nat := 0
  /-- bytes ever written to the log (16 R502). -/
  pos : Nat := 0
  /-- last block of the log prepared for writing, counted over the laps (16 R502). -/
  ready : Nat := 2
  /-- erases of each block, what the live WEAR record holds (16 R501). -/
  wear : SMap Nat := []
  /-- erases of the last 30 days: (time in ns, block) (16 R503). -/
  erases : List (Nat × Nat) := []
  /-- firmware image of each device (16 R498, R520). -/
  image : List (List (BitVec 8)) := []
  /-- packages in the model store (16 R523). -/
  store : List Stored := []
  /-- fuses (16 R516). -/
  otp : Otp := {}
  /-- CAK of each port that the enclave holds in use (11 R362, 12 R383). -/
  cak : SMap (List (BitVec 8)) := []
  /-- CAK written and used from the next commit that applies (11 R362). -/
  cakNext : SMap (List (BitVec 8)) := []
  /-- devices fitted whose SFDP table does not meet the requirements (16 R497). -/
  sfdpBad : List Nat := []
  /-- copies of journal records whose tag fails: (device, JSEQ) (16 R499). -/
  badCopies : List (Nat × Nat) := []
  /-- devices whose programs and erases fail (16 R499). -/
  programBad : List Nat := []
  /-- failures of the last 24 h: (time in ns, device) (16 R499). -/
  fails : List (Nat × Nat) := []
  /-- reads that device 1 answered for device 0 (16 R499). -/
  rereads : Nat := 0
  /-- devices refused or withdrawn (16 R497, R499). -/
  gone : List Nat := []
  deriving DecidableEq, Repr

/-- The running firmware and its update (16 R518 to R529). -/
structure Firmware where
  /-- running image (16 R518). -/
  image : List (BitVec 8) := []
  /-- firmware.state (16 R533). -/
  state : Nat := 0
  /-- staged image (16 R529). -/
  staged : Option (List (BitVec 8)) := none
  /-- tick at whose boundary the image switches; 0 the next boundary it can (16 R529). -/
  switch : Option Nat := none
  /-- time (ns) of the request, for target 0 (16 R529). -/
  switchAt : Nat := 0
  /-- image that served before the switch (16 R529). -/
  old : List (BitVec 8) := []
  /-- the rewrite in progress restores the keep store and raises FIRMWARE_RECOVERY (16 R520, R530). -/
  recovered : Bool := false
  /-- the image came from the host at this start: keep.last_start reads 3 (16 R530, R533). -/
  fromHost : Bool := false
  deriving DecidableEq, Repr

/-- A package that a verified upload with PERSIST writes to the model store (16 R523). -/
structure Saving where
  /-- package digest (16 R523). -/
  digest : List (BitVec 8) := []
  /-- the package (16 R523). -/
  bytes : List (BitVec 8) := []
  deriving DecidableEq, Repr

/-- The part. -/
structure State where
  /-- the part as the factory made it (00 R5). -/
  part : Part := {}
  /-- tile cycles since reset (02 R39). -/
  cycle : Nat := 0
  /-- number of free values drawn so far (the model's own). -/
  fresh : Nat := 0
  /-- commands that wait, first in, first out (the model's own). -/
  pending : List Instr := []
  /-- physical tiles (01 R1, R21). -/
  tiles : Vector Tile 72 := Vector.replicate 72 {}
  /-- Meadow memory (08 R255). -/
  meadow : Meadow := {}
  /-- HBM (08 R270). -/
  hbm : Hbm := {}
  /-- Beryl links (13). -/
  beryl : Beryl := {}
  /-- queue engine (09 R306). -/
  queues : Queues := {}
  /-- intake and decode (10). -/
  intake : Intake := {}
  /-- Ethernet (11). -/
  eth : Eth := {}
  /-- dictionary service (12). -/
  alaust : Alaust := {}
  /-- system controller (02, 14, 15). -/
  ctrl : Ctrl := {}
  /-- keep store and fuses (16). -/
  keep : Keep := {}
  /-- firmware (16). -/
  fw : Firmware := {}
  /-- packages being stored (16 R523). -/
  saving : List Saving := []
  /-- power and throttle (17). -/
  power : Power := {}
  /-- values of writable objects, keyed INDEX x 256 + SUB; an object not listed holds its default (12 R377). -/
  cfg : SMap (List (BitVec 8)) := []
  /-- stored read-only objects, keyed INDEX x 256 + SUB; an object not listed holds its default (12 R377). -/
  ro : SMap Nat := []
  /-- log of the frames sent, newest first: what leaves the part, kept so that statements can name it (the model's own record) (11 R347). -/
  tx : List Sent := []
  deriving DecidableEq, Repr

/-- What the part does that stops it. No rule of the spec stops the part: every error is a code of 15 R471 and a next state. The one constructor is raised by no meaning; a run that met it would be safe, since nothing follows a fault. -/
inductive Fault where
  | stopped
  deriving DecidableEq, Repr

/-- Commands the model does not carry out. notModelled is raised by exec's arm of a command that has no meaning yet, named by its mnemonic; it is safe, since nothing follows a refusal. -/
inductive Refusal where
  | notModelled (mnemonic : String)
  deriving DecidableEq, Repr

/-- The part right after reset: every memory 0, every object at its default, every tile Off (17 R541, 08 R265; notes/assumptions/4.md). -/
def State.reset : State := {}


end Sys2Proof.Machine
end

