-- ==== Sys2Proof/Machine/Ops.lean ====
section
/-! DEFINITION. The named operations over the state: tiles, objects, time, free values, notifications, and the fault flags. -/

namespace Sys2Proof.Machine

/-- A physical tile. -/
def tile (s : State) (p : PTile) : Tile := s.tiles[p]

/-- A tile changed; every other tile stays. -/
def modTile (s : State) (p : PTile) (f : Tile → Tile) : State :=
  { s with tiles := s.tiles.set p.val (f s.tiles[p]) p.isLt }

/-- A class-0 bank as a plan's activation leaves it: 0 throughout (03 R113). -/
def zeroBank : Bank := { dsp := 0 }

/-- The value in force of a writable object, as its little-endian bytes (12 R378). -/
def cfgBytes (s : State) (k : Nat) : List Byte :=
  match smFind s.cfg k with
  | some b => b
  | none => leBytes (match objFind k with | some r => r.size | none => 0) (objDefault k)

/-- The value in force of a writable object as an unsigned integer. -/
def cfgNat (s : State) (k : Nat) : Nat :=
  match smFind s.cfg k with
  | some b => leNat b
  | none => objDefault k

/-- A BOOL object is TRUE. -/
def cfgOn (s : State) (k : Nat) : Bool := cfgNat s k != 0

/-- A writable object set; a value equal to the default is not listed. -/
def cfgPut (s : State) (k : Nat) (b : List Byte) : State :=
  if leNat b = objDefault k then { s with cfg := smDel s.cfg k } else { s with cfg := smPut s.cfg k b }

/-- A writable object set to an integer. -/
def cfgPutNat (s : State) (k v : Nat) : State :=
  cfgPut s k (leBytes (match objFind k with | some r => r.size | none => 8) v)

/-- Bits of an object's value. -/
def objBits (k : Nat) : Nat := match objFind k with | some r => 8 * r.size | none => 64

/-- A stored read-only object. -/
def roGet (s : State) (k : Nat) : Nat :=
  match smFind s.ro k with
  | some v => v
  | none => objDefault k

/-- A stored read-only object set, modulo its width; its default is not listed. -/
def roPut (s : State) (k v : Nat) : State :=
  let w := v % 2 ^ objBits k
  if w = objDefault k then { s with ro := smDel s.ro k } else { s with ro := smPut s.ro k w }

/-- A counter advanced by n, modulo its width (notes/assumptions/17.md). -/
def roAdd (s : State) (k n : Nat) : State := roPut s k (roGet s k + n)

/-- A maximum kept. -/
def roMax (s : State) (k v : Nat) : State := if roGet s k < v then roPut s k v else s

/-- A minimum kept. -/
def roMin (s : State) (k v : Nat) : State := if v < roGet s k then roPut s k v else s

/-- The part's estimate of the time base in ns: 2 ns a tile cycle from the servo's last point, at the measured rate (02 R48, R53; 11 R366). -/
def timeAt (s : State) (c : Nat) : Nat :=
  let d : Int := 2 * ((c : Int) - (s.eth.time0At : Int))
  ((s.eth.time0 : Int) + d - d * s.eth.rate / 1000000000).toNat

/-- The part's estimate of the time base now. -/
def nowNs (s : State) : Nat := timeAt s s.cycle

/-- Numerator and denominator of tick.period (02 R39). -/
def periodN (s : State) : Nat := cfgNat s oTickPeriod / 2 ^ 32
/-- Denominator of tick.period (02 R39). -/
def periodD (s : State) : Nat := cfgNat s oTickPeriod % 2 ^ 32

/-- Steps of a tick for a period N/D (02 R40). -/
def stepsOf (n d : Nat) : Nat := (n * 499950000 / d - 2048) / 8192

/-- Nominal tile cycles of a period (02 R40). -/
def pNom (n d : Nat) : Nat := n * 500000000 / d

/-- S of the period in force (02 R40). -/
def stepsNow (s : State) : Nat := stepsOf (periodN s) (periodD s)

/-- t(k), the time of the boundary of tick k (02 R48). -/
def tickTime (s : State) (k : Nat) : Nat :=
  ((cfgNat s oTickEpoch : Int) + ((k : Int) - (cfgNat s oTickEpochNumber : Int)) * periodN s * 1000000000 / periodD s).toNat

/-- A free value of 64 bits, drawn from the state's counter. -/
def drawFree (s : State) : BitVec 64 × State := (Config.freeWord s.fresh, { s with fresh := s.fresh + 1 })

/-- n free bytes. -/
def drawBytes : Nat → State → List Byte × State
  | 0, s => ([], s)
  | n + 1, s =>
    let r := drawBytes n { s with fresh := s.fresh + 1 }
    ((Config.freeWord s.fresh).setWidth 8 :: r.1, r.2)

/-- A notification record raised; NOTIFY numbers it and writes it to the ring (12 R401). KIND 0 chip, 1 context, 2 queue, 3 physical tile, 4 port, 5 tick. -/
def notify (s : State) (code kind source : Nat) (data : List Byte := []) : State :=
  let n : Note := { time := nowNs s, code := code, kind := kind, source := source, tick := s.ctrl.tick, data := (data ++ List.replicate 32 0).take 32 }
  { s with alaust := { s.alaust with raised := s.alaust.raised ++ [n] } }

/-- The last code reported (15 R494 fault.last_code). -/
def lastCode (s : State) (code : Nat) : State := roPut s oFaultLastCode code

/-- A reason of DEGRADED (15 R488). -/
def degrade (s : State) (code : Nat) : State :=
  { s with ctrl := { s.ctrl with degraded := setInsert s.ctrl.degraded code } }

/-- A DANGEROUS condition detected: FAULT_N asserts and stays so until a clear; the seals of the open ticks carry SUSPECT (15 R488, R489). -/
def danger (s : State) (code : Nat) (persists : Bool) : State :=
  { s with ctrl := { s.ctrl with
      latched := true
      dangerous := if persists then setInsert s.ctrl.dangerous code else s.ctrl.dangerous
      sets := s.ctrl.sets.map fun t => { t with suspect := true } } }

/-- fault.state: 0 NORMAL, 1 DEGRADED, 2 DANGEROUS (15 R488). -/
def faultState (s : State) : Nat :=
  if s.ctrl.latched then 2 else if s.ctrl.degraded.isEmpty then 0 else 1

/-- The physical tile that holds a logical id in service: roles IN_SERVICE and SUSPECT (15 R480, 01 R23). -/
def holderOf (s : State) (lid : Nat) : Option PTile :=
  (List.finRange 72).find? fun p => ((tile s p).role == 0 || (tile s p).role == 4) && (tile s p).logical == lid

/-- Tiles in service of the grade (00 R5). -/
def gradeTiles (s : State) : Nat := if s.part.small then 48 else 64

end Sys2Proof.Machine
end

