-- ==== Sys2Proof/Machine/Domain.lean ====
section
/-! DEFINITION. The power domains and the requests that raise and lower them (17 R535 to R541). -/

namespace Sys2Proof.Machine

/-- The nine tiles of a region (01, 17 R535). -/
def regionTiles (r : Nat) : List PTile := (List.finRange 72).filter fun p => p.val / 9 = r

/-- State of a region fabric: Run while any of its tiles is in Run, Off only while all nine are Off, else Hold (17 R537). -/
def fabricState (s : State) (r : Nat) : Nat :=
  let l := (regionTiles r).map fun p => (tile s p).power
  if l.any (· == 0) then 0 else if l.all (· == 4) then 4 else 1

/-- State of a domain: 0 Run, 1 Hold, 2 Rest, 3 Nap, 4 Off (17 R535, R557). -/
def domainState (s : State) (d : Nat) : Nat :=
  if h : d < 72 then (tile s ⟨d, h⟩).power
  else if d < 80 then fabricState s (d - 72)
  else (s.power.blocks.toList[d - 80]?).getD 4

/-- The state of a domain set. -/
def setDomain (s : State) (d st : Nat) : State :=
  if h : d < 72 then modTile s ⟨d, h⟩ fun t => { t with power := st }
  else if h : 80 ≤ d ∧ d < 93 then { s with power := { s.power with blocks := s.power.blocks.set (d - 80) st (by omega) } }
  else s

/-- Rank of a domain among the wake-up requests of one cycle: tiles by logical or acting id, then spares by physical number, then the other domains (17 R540). -/
def wakeRank (s : State) (d : Nat) : Nat :=
  if h : d < 72 then
    let t := tile s ⟨d, h⟩
    if t.logical = 255 then 100 + d else t.logical
  else 200 + d

/-- Order of the queue: class-0 wakes first, then by the cycle of the request, then by rank (17 R539, R540). -/
def wakeLe (a b : Wake) : Bool :=
  if a.c0 ≠ b.c0 then a.c0
  else if a.at_ ≠ b.at_ then a.at_ < b.at_
  else a.rank ≤ b.rank

/-- A wake-up requested: no effect for a domain in Run, admitted or queued, but a class-0 wake goes ahead of every other (17 R539, R540). -/
def requestRun (s : State) (d : Nat) (c0 : Bool := false) : State :=
  if domainState s d = 0 || s.power.waking.contains d then s
  else if !c0 && s.power.wake.any (fun w => w.domain = d) then s
  else
    let w : Wake := { domain := d, c0 := c0, at_ := s.cycle, rank := wakeRank s d }
    let q := insertBy wakeLe w (s.power.wake.filter fun x => x.domain ≠ d)
    roMax { s with power := { s.power with wake := q } } oPowerWakeQueueMax q.length

/-- The tile carries class-0 handlers of the plan in force (17 R538). -/
def carriesHandlers (s : State) (p : PTile) : Bool :=
  match s.ctrl.plan with
  | some plan => match plan.tiles[(tile s p).logical]? with | some r => r.handlerCount ≠ 0 | none => false
  | none => false

/-- A tile may be lowered: no item, no DMA descriptor, an idle array, and no class-0 handler that runs or waits (17 R537). -/
def tileIdle (t : Tile) : Bool :=
  t.run.isNone && t.c0run.isNone && t.c0wait.isEmpty && t.arr.descs.isEmpty && t.arr.drains.isEmpty
    && t.dma.ch.toList.all fun c => c.active.isNone && c.pend.isEmpty

end Sys2Proof.Machine
end

