-- ==== Sys2Proof/Machine/Sha.lean ====
section
/-! DEFINITION. The digests and checks over bytes: SHA-384 (14, PRESUMED from FIPS 180-4: notes/assumptions/9.md) and the cyclic redundancy checks. -/

namespace Sys2Proof.Machine

/-- The 80 round constants of SHA-384, constant i in bits [64 i + 63 : 64 i]: the first 64 bits of the fraction of the cube root of the i-th prime, as Laws/Sha.lean shows. -/
def shaCubes : Nat :=
  0x6c44198c4a4758175fcb6fab3ad6faec597f299cfc657e2a4cc5d4becb3e42b6431d67c49c100d4c3c9ebe0a15c9bebc32caab7b40c7249328db77f523047d841b710b35131c471b113f9804bef90dae0a637dc5a2c898a606f067aa72176fbaf57d4f7fee6ed178eada7dd6cde0eb1ed186b8c721c0c207ca273eceea26619cc67178f2e372532bbef9a3f7b2c67915a4506cebde82bde990befffa23631e288cc702081a6439ec84c87814a1f0ab7278a5636f43172f60748f82ee5defb2fc682e6ff3d6b2b8a35b9cca4f7763e3734ed8aa4ae3418acb391c0cb3c5c95a6334b0bcb5e19b48a82748774cdf8eeb991e376c085141ab5319a4c116b8d2d0c8106aa07032bbd1b8f40e35855771202ad69906245565a910d192e819d6ef5218c76c51a30654be30c24b8b70d0f89791a81a664bbc423001a2bfe8a14cf1036492722c851482353b81c2c92e47edaee6766a0abb3c77b2a8650a73548baf63de53380d139d95b3df4d2c6dfc5ac42aed2e1b21385c26c92627b70a8546d22ffc142929670a0e6e7006ca6351e003826fd5a79147930aa725c6e00bf33da88fc2bf597fc7beef0ee4b00327c898fb213fa831c66d2db43210983e5152ee66dfab76f988da831153b55cb0a9dcbd41fbd44a7484aa6ea6e4832de92c6f592b0275240ca1cc77ac9c650fc19dc68b8cd5b5efbe4786384f25e3e49b69c19ef14ad2c19bf174cf6926949bdc06a725c7123580deb1fe3b1696b172be5d74f27b896f550c7dc3d5ffb4e2243185be4ee4b28c12835b0145706fbed807aa98a3030242ab1c5ed5da6d8118923f82a4af194f9b59f111f1b605d0193956c25bf348b538e9b5dba58189dbbcb5c0fbcfec4d3b2f7137449123ef65cd428a2f98d728ae22

/-- The eight words that the registers of SHA-384 start from, packed in the same way: fractions of the square roots of the ninth to the sixteenth prime. -/
def shaSquares : Nat :=
  0x47b5481dbefa4fa4db0c2e0d64f98fa78eb44a876858151167332667ffc00b31152fecd8f70e59399159015a3070dd17629a292a367cd507cbbb9d5dc1059ed8

/-- Word i of a packed number. -/
def packedWord (x i : Nat) : Nat := x / 2 ^ (64 * i) % 2 ^ 64

/-- A word of 64 bits turned right by n places. -/
def turnRight (x n : Nat) : Nat := x / 2 ^ n + x % 2 ^ n * 2 ^ (64 - n)

/-- Where a digest stands within a block: the next sixteen words of the schedule, and the eight registers, first the newest. -/
structure ShaRun where
  win : List Nat
  reg : List Nat
  deriving DecidableEq, Repr

/-- The word that the schedule adds after sixteen words: it stands 16 places after the first of them. -/
def shaFollow (win : List Nat) : Nat :=
  let p := win.getD 1 0
  let q := win.getD 14 0
  (win.getD 0 0 + (turnRight p 1 ^^^ turnRight p 8 ^^^ (p / 2 ^ 7)) + win.getD 9 0 + (turnRight q 19 ^^^ turnRight q 61 ^^^ (q / 2 ^ 6))) % 2 ^ 64

/-- Round i: the first word of the window is consumed and the window moves on by one; the registers move down by one, with a new first and a new fifth. -/
def shaTurn (r : ShaRun) (i : Nat) : ShaRun :=
  match r.reg with
  | [a, b, c, d, e, f, g, h] =>
    let chosen := g ^^^ (e &&& (f ^^^ g))
    let most := (a &&& b) ||| (c &&& (a ||| b))
    let low := h + chosen + (turnRight e 14 ^^^ turnRight e 18 ^^^ turnRight e 41) + packedWord shaCubes i + r.win.headD 0
    let top := most + (turnRight a 28 ^^^ turnRight a 34 ^^^ turnRight a 39)
    { win := r.win.tail ++ [shaFollow r.win], reg := [(low + top) % 2 ^ 64, a, b, c, (d + low) % 2 ^ 64, e, f, g] }
  | _ => r

/-- The registers after one block, given as its sixteen words. -/
def shaAbsorb (reg win : List Nat) : List Nat :=
  List.zipWith (fun x y => (x + y) % 2 ^ 64) reg ((List.range 80).foldl shaTurn { win := win, reg := reg }).reg

/-- The registers after n blocks of 128 bytes. -/
def shaBlocks : Nat → List Byte → List Nat → List Nat
  | 0, _, reg => reg
  | n + 1, bs, reg => shaBlocks n (bs.drop 128) (shaAbsorb reg ((List.range 16).map fun i => beAt bs (8 * i) 8))

/-- SHA-384 of a byte string, 48 bytes in the order the algorithm produces them (00 R9): a bit 1 and the length in bits fill the last block, and six of the eight registers are the digest. -/
def sha384 (bs : List Byte) : List Byte :=
  let blocks := bs.length / 128 + (if bs.length % 128 < 112 then 1 else 2)
  let fill := 128 * blocks - 16 - bs.length
  let whole := bs ++ beBytes fill (2 ^ (8 * fill - 1)) ++ beBytes 16 (8 * bs.length)
  ((shaBlocks blocks whole ((List.range 8).map (packedWord shaSquares))).take 6).flatMap (beBytes 8)

/-- HMAC-SHA-384 (RFC 2104): the key filled with zeros to a block, or its digest where it is longer. -/
def hmac384 (key text : List Byte) : List Byte :=
  let k := if 128 < key.length then sha384 key else key
  let padded (x : Byte) : List Byte := (k ++ List.replicate (128 - k.length) 0).map (x ^^^ ·)
  sha384 (padded 0x5C ++ sha384 (padded 0x36 ++ text))

/-- The first 64 bytes of HKDF with SHA-384 (RFC 5869; 12 R389). -/
def hkdf384 (salt ikm info : List Byte) : List Byte :=
  let prk := hmac384 salt ikm
  let first := hmac384 prk (info ++ [1])
  (first ++ hmac384 prk (first ++ info ++ [2])).take 64

/-- One bit of a reflected CRC. -/
def crcBit (poly : BitVec 32) (c : BitVec 32) : BitVec 32 :=
  if c.getLsbD 0 then (c >>> 1) ^^^ poly else c >>> 1

/-- n bits of a reflected CRC. -/
def crcBits (poly : BitVec 32) : Nat → BitVec 32 → BitVec 32
  | 0, c => c
  | n + 1, c => crcBits poly n (crcBit poly c)

/-- CRC-32 of IEEE 802.3, as a number. -/
def crc32 (bs : List Byte) : Nat :=
  (~~~(bs.foldl (fun c b => crcBits 0xEDB88320 8 (c ^^^ b.setWidth 32)) 0xFFFFFFFF)).toNat

/-- One bit of CRC-8 with polynomial x^8 + x^2 + x + 1. -/
def crc8Bits : Nat → Byte → Byte
  | 0, c => c
  | n + 1, c => crc8Bits n (if c.getLsbD 7 then (c <<< 1) ^^^ 0x07 else c <<< 1)

/-- The packet error code of SMBus: CRC-8 with polynomial 0x07 and initial value 0. -/
def crc8 (bs : List Byte) : Nat := (bs.foldl (fun c b => crc8Bits 8 (c ^^^ b)) 0).toNat

end Sys2Proof.Machine
end

