-- ==== Sys2Proof/Machine/Jobs.lean ====
section
/-! DEFINITION. Attempts and items: how an attempt stops, what a job fault, a step fault and a handler fault do, and the records of the system controller (15 R472 to R481, 08 R260, R261, 14 R458). -/

namespace Sys2Proof.Machine

/-- First address of Meadow memory (08 R250). -/
def meadowBase : Nat := 0x010000000000

/-- The image region that holds an offset of Meadow memory (08 R262, 16 R527). -/
def imageRegion (s : State) (off : Nat) : Option (PlanRegion × Nat) :=
  match s.ctrl.plan with
  | none => none
  | some pl => (pl.regions.find? fun r => r.kind = 1 && r.base ≤ meadowBase + off && meadowBase + off < r.base + r.length).map fun r => (r, pl.base)

/-- Cells returned to the pool (09 R306). -/
def freeCells (s : State) (cells : List Nat) : State :=
  { s with
    queues := { s.queues with used := s.queues.used.filter fun c => !cells.contains c, usedB := s.queues.usedB.filter fun c => !cells.contains c } }

/-- The cells of a channel that return to the pool when its descriptor is cut short (09 R580). -/
def channelCells (c : Channel) : List Nat :=
  match c.active with
  | none => []
  | some r => if r.linked then [] else r.cells

/-- The DMA engine of a tile stops: nothing more is read or written, no status follows (09 R304, R580). -/
def dmaStop (s : State) (p : PTile) : State :=
  let cells := (tile s p).dma.ch.toList.flatMap channelCells
  modTile (freeCells s cells) p fun t =>
    { t with dma := { t.dma with ch := t.dma.ch.map fun c => { c with active := none, pend := [] }, stopping := none } }

/-- The Sward array of a tile stops: every descriptor and drain in flight is abandoned, and with them the terms of the schedule that they leave to later descriptors (05 R195; that a term of a completed descriptor goes too is a DESIGN CHOICE, notes/assumptions/51.md). -/
def arrStop (t : Tile) : Tile :=
  { t with arr := { t.arr with descs := [], drains := [], lastSpanStart := 0, prevEnd := 0, dEnd := 0, setReady := Vector.replicate 2 0 } }

/-- A result in flight that belongs to the job's scalar state, or a mark, an end or a descriptor read of its flow. -/
def jobScalar : Act → Bool
  | .gReg c0 _ _ | .aReg c0 _ _ | .cbReg c0 _ _ | .accReg c0 _ _ | .accmReg c0 _ _ | .dspSticky c0 _ | .loopSet c0 _ _ _ _ _ | .loopClr c0 _ | .ctl c0 _ _ => !c0
  | .markCopy _ | .finish | .dmaLane _ _ _ | .dmaCheck _ | .arrLane _ _ | .arrCheck => true
  | _ => false

/-- A result of a vector operation for the job's scalar state or for VL and EW: it lands before a step re-run (04 R163), and is dropped with an attempt that ends. -/
def vecScalar : Act → Bool
  | .vgReg _ _ | .setVl _ _ => true
  | _ => false

/-- What stops in the core with an attempt or for a step re-run: its scalar results in flight, its holds, branches and interrupt entry (09 R304, 05 R195). -/
def coreStop (t : Tile) : Tile :=
  { t with
    sched := t.sched.filter fun e => !jobScalar e.act
    descWrites := []
    vfEntry := false
    job := { t.job with hold := .none, branch := [] }
    entry := none
    reissueAt := none
    vReissueAt := none
    rerun := false }

/-- An attempt stops on its tile: core, array and DMA engine in the same tile cycle. The scrub of 08 R268 is due when kill is set and mem.scrub_on_kill is TRUE. -/
def stopAttempt (s : State) (p : PTile) (kill : Bool) : State :=
  let scrub := kill && cfgOn s oMemScrubOnKill
  let s := dmaStop s p
  modTile s p fun t =>
    let t := coreStop (arrStop t)
    { t with sched := t.sched.filter (fun e => !vecScalar e.act), run := none, shadow := none, scrubUntil := if scrub then some 0 else t.scrubUntil }

/-- The 32 bytes of DATA of a fault notification (15 R478). The four reserved bytes hold what VFAULT_IDX holds for VECTOR_FAULT, whose report 04 R158 gives the cause and the element (DESIGN CHOICE, notes/assumptions/48.md), and 0 for every other code. -/
def faultData (ctx job attempt logical outcome pc addr step : Nat) (idx : Nat := 0) : List Byte :=
  leBytes 2 ctx ++ leBytes 2 job ++ leBytes 1 attempt ++ leBytes 1 logical ++ leBytes 2 outcome ++ leBytes 4 pc ++ leBytes 4 idx ++ leBytes 8 addr ++ leBytes 8 step

/-- The address of a core-memory byte in the global map: the window of the tile's logical id (08 R250). -/
def coreGlobal (t : Tile) (a : Nat) : Nat := 0x020000000000 + t.logical * 0x01000000 + a

/-- A row of the item table. -/
def itemOf (s : State) (k : Nat) : Item := smGet {} s.ctrl.items k

/-- A row of the item table changed. -/
def modItem (s : State) (k : Nat) (f : Item → Item) : State :=
  { s with ctrl := { s.ctrl with items := smMod {} s.ctrl.items k f } }

/-- A message of the system controller handed to its chip-side slot for queue 1,032 (09 R309, R311). -/
def postMsg (s : State) (m : ResMsg) (bytes : List Byte) : State :=
  let op : ChipOp := { queue := 1032, bytes := bytes, msg := some s.ctrl.nextMsg }
  { s with
    ctrl := { s.ctrl with msgs := smPut s.ctrl.msgs s.ctrl.nextMsg m, nextMsg := s.ctrl.nextMsg + 1 }
    queues := { s.queues with sys := s.queues.sys ++ [op] } }

/-- The t-fields and zero e-fields of a record that the system controller writes: bytes 0 to 55 and the payload (14 R456, R458). -/
def sysRecord (ctx job : Nat) (payload : List Byte) : List Byte :=
  List.replicate 28 0 ++ leBytes 2 ctx ++ leBytes 2 job ++ List.replicate 18 0 ++ leBytes 2 payload.length ++ List.replicate 4 0 ++ payload

/-- The record of an item that the system controller writes (14 R458). -/
def postItemRecord (s : State) (k : Nat) : State :=
  let i := itemOf s k
  let s := modItem s k fun i => { i with linked := true }
  postMsg s { kind := 1, item := some k, tick := i.tick } (sysRecord i.ctx i.job [])

/-- An item ends with a status and a code other than by its own record: FAILED and NOT_RUN (00 R14; 15 R472, R488). -/
def endItemWith (s : State) (k status code : Nat) : State :=
  let i := itemOf s k
  let s := modItem s k fun i => { i with state := .final status code }
  let s := if status = cFailed then lastCode (roAdd s oFaultFailed 1) code else s
  let s := if i.safety then danger s code false else s
  postItemRecord s k

/-- A tile becomes SUSPECT: its id passes to a spare at the next boundary (15 R480). -/
def suspectTile (s : State) (p : PTile) : State :=
  if (tile s p).role = 4 || (tile s p).role = 5 || (tile s p).role = 3 then s else
  let s := roAdd s (oTileSuspects p.val) 1
  let s := modTile s p fun t => { t with role := if t.role = 0 then 4 else t.role, suspectTimes := t.suspectTimes ++ [nowNs s] }
  { s with ctrl := { s.ctrl with withdraw := if s.ctrl.withdraw.contains p then s.ctrl.withdraw else s.ctrl.withdraw ++ [p] } }

/-- A hardware fault: a parity code, ARITH_CHECK, ITEM_TIMEOUT or a code of 15 R482; the third within 10 s makes the tile SUSPECT (15 R480). -/
def hwFault (s : State) (p : PTile) : State :=
  let now := nowNs s
  let times := ((tile s p).hwTimes.filter fun x => now < x + 10000000000) ++ [now]
  let s := roAdd s (oTileHwFaults p.val) 1
  let s := modTile s p fun t => { t with hwTimes := times }
  if 3 ≤ times.length then suspectTile s p else s

/-- The codes that count as hardware faults (15 R480). -/
def isHwCode (c : Nat) : Bool :=
  c = cCoreParity || c = cVlaneParity || c = cOpbufParity || c = cArrayParity || c = cMeadowParity || c = cArithCheck || c = cItemTimeout
    || c = cRegionFabric || c = cRegionClock || c = cRegionSupply

/-- A fault of a region: the third within 1 s isolates it (15 R482). -/
def regionFault (s : State) (r : Nat) (long : Bool) : State :=
  let l := (s.ctrl.regionFaults.filter fun f => nowNs s < f.2 + 1000000000) ++ [(r, nowNs s)]
  let three := 3 ≤ (l.filter fun f => f.1 = r).length
  { s with ctrl := { s.ctrl with
      regionFaults := l
      isolating := if (three || long) && !s.ctrl.isolated.contains r then setInsert s.ctrl.isolating r else s.ctrl.isolating } }

/-- An ACTING spare whose attempt or replay has ended is a SPARE again; while a class-0 handler runs on it, it keeps its acting id to the next step boundary (15 R480; notes/assumptions/30.md). -/
def freeSpare (s : State) (p : PTile) : State :=
  modTile s p fun t => if t.role = 2 && t.run.isNone && t.c0run.isNone then { t with role := 1, logical := 255 } else t

/-- A patrol replay on a spare is abandoned (15 R480, R485). -/
def abandonReplay (s : State) (p : PTile) : State :=
  let s := roAdd s oPatrolAbandoned 1
  let s := freeSpare s p
  { s with ctrl := { s.ctrl with patrol := { s.ctrl.patrol with replays := s.ctrl.patrol.replays.filter fun r => r.tile != p } } }

/-- A job fault of the attempt that runs on a tile: it stops at once, is notified, and the item restarts or ends FAILED (15 R472, R473, R475, R478). With no attempt on the tile it is only notified. -/
def jobFault (s : State) (p : PTile) (code addr : Nat) (idx : Nat := 0) : State :=
  let t := tile s p
  let s := if isHwCode code then hwFault s p else s
  let s := lastCode (roAdd s oFaultJobFaults 1) code
  let s := if code = cScaleSkew || code = cScaleRange then roAdd s oQuantScaleFaults 1 else s
  match t.run with
  | none => notify s code 3 p.val (faultData t.ctxId.toNat t.jobId.toNat 0 t.logical 3 t.lastPc.toNat addr s.ctrl.step idx)
  | some r =>
    let i := itemOf s r.item
    let note (s : State) (outcome : Nat) : State :=
      notify s code 3 p.val (faultData i.ctx i.job r.attempt t.logical outcome t.lastPc.toNat addr s.ctrl.step idx)
    let s := stopAttempt s p true
    if r.replay then abandonReplay (note s 2) p
    else
      let s := freeSpare s p
      if i.linked then note s 3
      else
        let s := modItem s r.item fun i => { i with firstCode := if i.firstCode = 0 then code else i.firstCode, faultTile := some p }
        let s := if r.attempt = 1 then suspectTile s p else s
        if i.cls = 3 || r.attempt = 2 then endItemWith (note s 2) r.item cFailed code
        else modItem (note s 1) r.item fun i => { i with state := .restart }

/-- The record of a class-0 handler that ended without an emit that could carry its code (14 R458, 03 R114). -/
def postHandlerRecord (s : State) (p : PTile) (handler code : Nat) : State :=
  let t := tile s p
  let a : AlarmTx := { tile := t.logical, ptile := p, handler := handler, job := (Config.handlerJob t.logical handler).toNat, step := s.ctrl.step, tick := s.ctrl.tick, time := nowNs s, code := code }
  postMsg s { kind := 1, ended := some a, tick := s.ctrl.tick } (sysRecord t.ctxId.toNat a.job [])

end Sys2Proof.Machine
end

