-- ==== Sys2Proof/Machine/Operands.lean ====
section
/-! DEFINITION. The operand forms of the pixel core: register names, landing of results, and the addressing modes of the L slots (03 R78 to R94). -/

namespace Sys2Proof.Machine

/-- The bank in which the core runs: the job's, or the class-0 context's (03 R113). -/
def bankOf (t : Tile) : Bank := if t.inC0 then t.c0 else t.job

/-- The running bank changed. -/
def modBank (t : Tile) (f : Bank → Bank) : Tile := if t.inC0 then { t with c0 := f t.c0 } else { t with job := f t.job }

/-- One named bank changed. -/
def modBankOf (t : Tile) (c0 : Bool) (f : Bank → Bank) : Tile := if c0 then { t with c0 := f t.c0 } else { t with job := f t.job }

/-- The physical register that a name reaches: g32 to g63 rotate by ROT_OFS (03 R85). -/
def gPhys (t : Tile) (n : Fin 64) : Fin 64 :=
  if n.val < 32 then n else ⟨32 + (n.val - 32 + t.rot.toNat) % 32, by omega⟩

/-- A general register by name; g0 reads as 0 (03 R84). -/
def gVal (t : Tile) (n : Fin 64) : Word := if n.val = 0 then 0 else (bankOf t).g[gPhys t n]

/-- An address register. -/
def aVal (t : Tile) (n : Fin 8) : BitVec 32 := (bankOf t).a[n]

/-- A result put in flight: it lands in tile cycle due (03 R80). -/
def land (t : Tile) (now latency : Nat) (act : Act) (res : Option Nat := none) : Tile :=
  { t with sched := t.sched ++ [{ due := now + latency, issue := now, act := act, res := res }] }

/-- The residue that the check unit of an integer or DSP unit forms beside a result (15 R477). -/
def residue3 {w : Nat} (v : BitVec w) : Option Nat := some (v.toNat % 3)

/-- A result for a general register, named and resolved at issue; g0 is never written (03 R82, R84). -/
def landG (t : Tile) (now latency : Nat) (n : Fin 64) (v : Word) (res : Option Nat := none) : Tile :=
  if n.val = 0 then t else land t now latency (.gReg t.inC0 (gPhys t n) v) res

/-- A vector operation's result for a general register (04 R138, R161). -/
def landVG (t : Tile) (now latency : Nat) (n : Fin 64) (v : Word) : Tile :=
  if n.val = 0 then t else land t now latency (.vgReg (gPhys t n) v)

/-- The entries of a list in ascending cycle of issue; those of one cycle keep their order (03 R81). -/
def insertSched (e : Sched) : List Sched → List Sched
  | [] => [e]
  | x :: r => if e.issue < x.issue then e :: x :: r else x :: insertSched e r

/-- Results in the order in which they land (03 R81, 04 R154). -/
def byIssue (l : List Sched) : List Sched := l.foldl (fun acc e => insertSched e acc) []

/-- A destination register as a bundle names it (03 R81). -/
inductive Dest where
  | g (n : Fin 64)
  | a (n : Fin 8)
  | acc (n : Fin 4)
  | cb (n : Fin 8)
  | v (n : Fin 32)
  deriving DecidableEq, Repr

/-- A vector fault: cause, element and address (04 R156, R157). -/
structure VFault where
  /-- CAUSE -/
  cause : Nat
  /-- element -/
  elem : Nat
  /-- the vector operand buffer -/
  vob : Bool
  /-- computed byte address -/
  addr : Nat
  deriving DecidableEq, Repr

/-- One operation ready to issue in one slot: what it names, where it may run, what makes it fault and what it does. -/
structure TileOp where
  /-- names of general registers (03 R113) -/
  names : List (Fin 64) := []
  /-- destination registers (03 R81) -/
  dests : List Dest := []
  /-- barred in the class-0 context (03 R113) -/
  barC0 : Bool := false
  /-- barred outside the class-0 context (03 R116, R117) -/
  onlyC0 : Bool := false
  /-- an access of core memory through an L slot: 0 none, 1 L0, 2 L1 (03 R95, 04 R149) -/
  port : Nat := 0
  /-- ILLEGAL_BUNDLE for another reason (03 R77, R87, R101, R112) -/
  illegal : Tile → Bool := fun _ => false
  /-- it needs a port that an earlier vector operation holds (04 R149) -/
  conflict : State → Bool := fun _ => false
  /-- the vector fault it meets, with its V-slot word (04 R156) -/
  vfault : State → Option (BitVec 32 × VFault) := fun _ => none
  /-- the code and the address of its fault, code 0 none -/
  check : State → Nat × Nat := fun _ => (0, 0)
  /-- its effect -/
  act : State → State

/-- CORE_MEM_SIZE (08 R248). -/
def coreSize : Nat := 0x200000

/-- First byte of the descriptor area (08 R264). -/
def descArea : Nat := 0x1FF000

/-- The signed displacement or step of a mode. -/
def lStep (t : Tile) : LMode → Int
  | .offset o | .postImm o | .update o => o.toInt
  | .index g | .postReg g => (gVal t g).toInt

/-- Effective address by 03 R91 and R92: base + ((d + offset) mod LENGTH) in a circular buffer, an + offset otherwise, modulo 2^64. -/
def lEa (t : Tile) (a : Fin 8) (m : LMode) : Nat :=
  let an := (aVal t a).toNat
  let cb := (bankOf t).cb[a].toNat
  let len := field 53 32 cb
  let base := field 20 0 cb
  let off := match m with | .offset _ | .index _ => lStep t m | _ => 0
  if len = 0 then wrapTo 64 ((an : Int) + off)
  else base + (((an : Int) - base + off) % len).toNat

/-- The new value of an, for a mode that updates it (03 R91, R92). -/
def lNext (t : Tile) (a : Fin 8) (m : LMode) : Option (BitVec 32) :=
  let an := (aVal t a).toNat
  let cb := (bankOf t).cb[a].toNat
  let len := field 53 32 cb
  let base := field 20 0 cb
  match m with
  | .offset _ | .index _ => none
  | _ => some (if len = 0 then BitVec.ofInt 32 ((an : Int) + lStep t m)
               else BitVec.ofNat 32 (base + (((an : Int) - base + lStep t m) % len).toNat))

/-- The general registers that a mode names. -/
def lNames : LMode → List (Fin 64)
  | .index g | .postReg g => [g]
  | _ => []

/-- The address register that a mode updates. -/
def lDests (a : Fin 8) : LMode → List Dest
  | .offset _ | .index _ => []
  | _ => [.a a]

/-- The update of an lands with latency 1 (03 R91). -/
def lUpdate (t : Tile) (now : Nat) (a : Fin 8) (m : LMode) : Tile :=
  match lNext t a m with
  | some v => land t now 1 (.aReg t.inC0 a v)
  | none => t

/-- The first byte of bad parity among n bytes from a on. -/
def badByte (bad : List Nat) (a n : Nat) : Option Nat := bad.find? fun b => a ≤ b && b < a + n

/-- In linear mode an address register has a bit above [20] set (03 R93). -/
def aHigh (t : Tile) (a : Fin 8) : Bool :=
  field 53 32 (bankOf t).cb[a].toNat == 0 && 0x200000 ≤ (aVal t a).toNat

/-- The fault of a core-memory access of n bytes: CORE_RANGE, CORE_ALIGN, or CORE_PARITY on a load (03 R93, R95; 08 R264). -/
def coreFault (t : Tile) (high : Bool) (ea n : Nat) (store : Bool) : Nat × Nat :=
  if high || coreSize ≤ ea then (cCoreRange, coreGlobal t ea)
  else if store && !t.inC0 && descArea ≤ ea then (cCoreRange, coreGlobal t ea)
  else if ea % n != 0 then (cCoreAlign, coreGlobal t ea)
  else if store then (0, 0)
  else match badByte t.coreBad ea n with
    | some b => (cCoreParity, coreGlobal t b)
    | none => (0, 0)

/-- A store is inside the class-0 window (03 R114). -/
def inWindow (t : Tile) (ea n : Nat) : Bool :=
  let base := field 8 0 t.c0Window.toNat * 4096
  base ≤ ea && ea + n ≤ base + field 24 12 t.c0Window.toNat * 4096

end Sys2Proof.Machine
end

