-- ==== Sys2Proof/Machine/Flags.lean ====
section
/-! DEFINITION. The status of the DSP datapath and of the vector engine: rounding, saturation and sticky flags (03 R96 to R100, 04 R129, R139). -/

namespace Sys2Proof.Machine

/-- DSP_STATUS.OVF (03 R97). -/
def dspOvf : BitVec 32 := 1
/-- DSP_STATUS.SATF (03 R97). -/
def dspSatf : BitVec 32 := 2

/-- RND of a DSP_STATUS (03 R97). -/
def dspRnd (d : BitVec 32) : Nat := field 11 10 d.toNat
/-- SAT of a DSP_STATUS (03 R97). -/
def dspSat (d : BitVec 32) : Bool := bitAt 9 d.toNat
/-- SCALE of a DSP_STATUS, signed (03 R97). -/
def dspScale (d : BitVec 32) : Int := signedOf 4 (field 15 12 d.toNat)

/-- A right shift by k ≥ 1 rounded by RND: convergent, toward minus infinity, half away from zero, toward zero (03 R97, R98). -/
def roundShift (rnd : Nat) (x : Int) (k : Nat) : Int :=
  let p : Int := ((2 ^ k : Nat) : Int)
  if k = 0 then x
  else if rnd = 0 then roundConvergent x k
  else if rnd = 1 then x / p
  else if rnd = 2 then (if x < 0 then -((-x + p / 2) / p) else (x + p / 2) / p)
  else x.tdiv p

/-- A signed shift: left exactly for s ≥ 0, right and rounded for s < 0 (03 R98). -/
def shiftBy (rnd : Nat) (x : Int) (s : Int) : Int :=
  if 0 ≤ s then x * ((2 ^ s.toNat : Nat) : Int) else roundShift rnd x (-s).toNat

/-- A value fits the signed w-bit range. -/
def fitsSigned (w : Nat) (v : Int) : Bool := clipSigned w v == v

/-- A value brought into an accumulator: the low 72 bits, and whether the true value left the 72-bit range (03 R96, R99). -/
def toAcc (v : Int) : BitVec 72 × Bool := (BitVec.ofInt 72 v, !fitsSigned 72 v)

/-- A value fitted to w bits by SAT, sign-extended to 64, and whether it left the range (03 R98). -/
def fitMove (sat : Bool) (w : Nat) (v : Int) : Word × Bool :=
  let kept : Int := if sat then clipSigned w v else signedOf w (wrapTo w v)
  (BitVec.ofInt 64 kept, !fitsSigned w v)

/-- An mtc of DSP_STATUS: SCALE, RND and SAT taken, SATF and OVF cleared where a 1 is written (03 R97). -/
def dspWrite (old new : BitVec 32) : BitVec 32 :=
  (new &&& 0xFE00#32) ||| (old &&& 3#32 &&& ~~~new)

/-- The sticky flags raised in the bank's DSP_STATUS at the landing of the result. -/
def landDsp (t : Tile) (now latency : Nat) (bits : BitVec 32) : Tile :=
  if bits = 0 then t else land t now latency (.dspSticky t.inC0 bits)

/-- An accumulator result: mac-class operations see it after la tile cycles, every other read after lr (03 R96, R99, R100). -/
def landAcc (t : Tile) (now la lr : Nat) (n : Fin 4) (v : BitVec 72) : Tile :=
  land (land t now la (.accmReg t.inC0 n v) (residue3 v)) now lr (.accReg t.inC0 n v) (residue3 v)

end Sys2Proof.Machine
end

