-- ==== Sys2Proof/Machine/Faults.lean ====
section
/-! DEFINITION. What a fault of running code does: the end of a class-0 handler, step re-runs, and the issue of one operation (03 R106, R113 to R118; 08 R260, R261). -/

namespace Sys2Proof.Machine

/-- The code set in the alarm that a key names, where it still waits for its record (14 R458). -/
def setAlarmCode (s : State) (key code : Nat) : State :=
  { s with
    eth := { s.eth with alarms := s.eth.alarms.map fun a => if a.key = key then { a with code := code } else a }
    ctrl := { s.ctrl with msgs := s.ctrl.msgs.map fun m =>
      match m.2.alarm with
      | some a => if a.key = key then (m.1, { m.2 with alarm := some { a with code := code } }) else m
      | none => m } }

/-- The emit that a key names has no record sent yet. -/
def alarmOpen (s : State) (key : Nat) : Bool :=
  s.eth.alarms.any (fun a => a.key = key) || s.ctrl.msgs.any fun m => match m.2.alarm with | some a => a.key = key | none => false

/-- The records that the end of a handler run leaves beside its emits: its fault, or CLASS0_STORE (14 R458, 03 R114). Where the record of the run's last emit is already written, the spec does not say which record then carries a fault's code: a record of its own does (DESIGN CHOICE, notes/assumptions/22.md). -/
def handlerRecords (s : State) (p : PTile) (h : C0Run) (code : Nat) : State :=
  let carried := match h.lastEmit with | some k => alarmOpen s k | none => false
  let s := match code, h.lastEmit with
    | 0, _ => s
    | c, some k => if carried then setAlarmCode s k c else postHandlerRecord s p h.handler c
    | c, none => postHandlerRecord s p h.handler c
  if h.suppressed && !h.emitAfter && (code = 0 || carried) then postHandlerRecord s p h.handler cClass0Store else s

/-- A hold of the job as it resumes after a handler: what it had left at base is counted on from the resumption, took cycles later (03 R117). -/
def resumeHold (base took x : Nat) : Nat := if base < x then x + took else x

/-- The class-0 handler of a tile ends, on c0.end with code 0 or on a fault: the bank switches back in 20 tile cycles and the job's next bundle issues 8 later. A mark, a fetch redirect and a reissue that still held the job have from there on the cycles left that they had at the dispatch point; only waits run on (03 R117, R118; 02 R73). -/
def handlerEnd (s : State) (p : PTile) (code : Nat) : State :=
  match (tile s p).c0run with
  | none => modTile s p fun t => { t with inC0 := false }
  | some h =>
    let s := handlerRecords s p h code
    let took := s.cycle + 28 - h.base
    let on := resumeHold h.base took
    modTile s p fun t =>
      { t with inC0 := false, c0run := none, switchAt := s.cycle + 28, nintEnd := 0,
               job := { t.job with hold := (match t.job.hold with | .mark u => .mark (on u) | x => x), fetchAt := on t.job.fetchAt },
               reissueAt := t.reissueAt.map on, vReissueAt := t.vReissueAt.map on,
               run := t.run.map fun r => { r with c0cycles := r.c0cycles + took } }

/-- A handler fault: notified, DANGEROUS, and the handler ends (03 R118; 15 R478, R488). -/
def handlerFault (s : State) (p : PTile) (code addr : Nat) : State :=
  let t := tile s p
  let s := if isHwCode code then hwFault s p else s
  let s := notify (lastCode s code) code 3 p.val (faultData t.ctxId.toNat t.jobId.toNat 255 t.logical 4 t.c0.pc.toNat addr s.ctrl.step)
  handlerEnd (danger s code false) p code

/-- The counters of parity errors of a tile; a slot of an image region is refilled after a parity error in it (08 R260, R263, R269). -/
def countParity (s : State) (p : PTile) (code addr : Nat) : State :=
  if code = cCoreParity then roAdd s (oTileCoreParity p.val) 1
  else if code = cOpbufParity then roAdd s (oTileOpbufParity p.val) 1
  else if code = cMeadowParity then
    let s := roAdd s oMeadowParity 1
    if meadowBase ≤ addr && (imageRegion s (addr - meadowBase)).isSome then
      { s with meadow := { s.meadow with refills := setInsert s.meadow.refills ((addr - meadowBase) / 128) } }
    else s
  else s

/-- A step fault of the job: the step re-runs after an idempotent mark, at most twice in an attempt and never for a byte that raised one before; otherwise it acts as a job fault (08 R260, R261; 03 R106, R163). -/
def stepFault (s : State) (p : PTile) (code addr : Nat) : State :=
  let t := tile s p
  let s := countParity s p code addr
  match t.run with
  | none => jobFault s p code addr
  | some r =>
    let i := itemOf s r.item
    let seen := i.parityAt.contains addr
    let s := modItem s r.item fun i => { i with parityAt := setInsert i.parityAt addr }
    let idem := match t.shadow with | some sh => sh.idem | none => false
    if idem && !seen && r.reruns < 2 && !t.rerun then
      let s := lastCode (hwFault s p) code
      let s := notify s code 3 p.val (faultData i.ctx i.job r.attempt t.logical 0 t.lastPc.toNat addr s.ctrl.step)
      let s := modItem s r.item fun i => { i with reruns := i.reruns + 1 }
      let s := roAdd (dmaStop s p) (oTileStepReruns p.val) 1
      modTile s p fun t =>
        { coreStop (arrStop t) with
          rerun := true
          run := some { r with reruns := r.reruns + 1, rerunCycles := r.rerunCycles + (s.cycle - r.markAt) } }
    else jobFault s p code addr

/-- The step faults (15 R471). -/
def isStepCode (c : Nat) : Bool := c = cCoreParity || c = cVlaneParity || c = cOpbufParity || c = cMeadowParity

/-- A fault of code that runs on the tile: of the handler in the class-0 context, else of the job. -/
def opFault (s : State) (p : PTile) (code addr : Nat) : State :=
  if (tile s p).inC0 then handlerFault (countParity s p code addr) p code addr
  else if isStepCode code then stepFault s p code addr
  else jobFault s p code addr

/-- An operation that its context bars: a name above g31 or a barred operation in the class-0 context, emit or c0.end outside it, or its own reason (03 R77, R113, R116, R117). -/
def opBarred (t : Tile) (o : TileOp) : Bool :=
  (t.inC0 && (o.barC0 || o.names.any fun n => 32 ≤ n.val)) || (!t.inC0 && o.onlyC0) || o.illegal t

/-- An interrupt is being served: INT_CTRL.IA (03 R109). -/
def serving (t : Tile) : Bool := bitAt 0 t.intCtrl.toNat

/-- A vector fault takes effect after its bundle: source 15 with VFE set, no interrupt served when the bundle issued (ia), and a place where it may dispatch; no further bundle of the job issues before that entry. Else the job fault VECTOR_FAULT (04 R157, R158). A nint in the faulting bundle itself counts as a region that the bundle lies in (DESIGN CHOICE, notes/assumptions/44.md). -/
def vectorFault (s : State) (p : PTile) (w : BitVec 32) (f : VFault) (ia : Bool) : State :=
  let idx := f.cause * 4096 + f.elem
  let s := modTile s p fun t =>
    { t with vfaultIdx := BitVec.ofNat 32 idx, vfaultAddr := BitVec.ofNat 32 ((if f.vob then 2 ^ 31 else 0) + f.addr % 2 ^ 31) }
  let t := tile s p
  if !bitAt 62 t.vresume.toNat || ia || s.cycle < t.nintEnd || t.job.branch.any (fun b => 0 < b.left) then
    jobFault s p cVectorFault (coreGlobal t (if f.vob then 0x280000 + f.addr else f.addr)) idx
  else modTile s p fun t =>
    { t with
      vresume := BitVec.ofNat 64 (2 ^ 63 + 2 ^ 62 + f.elem * 2 ^ 32 + w.toNat)
      intPending := t.intPending ||| 0x8000
      vfEntry := true }

/-- Port 0 is held in the present cycle by a vector operation of the flow that a handler cut: an L0 access of the handler waits for it (04 R161). A class-0 handler has no vector operation of its own; one of an interrupt handler's own is a conflict (04 R149). -/
def portWait (s : State) (t : Tile) (o : TileOp) : Bool :=
  o.port = 1 && (if t.inC0 then t.port0.contains s.cycle else serving t && t.port0Old.contains s.cycle)

/-- One operation issues alone in the present tile cycle: ILLEGAL_BUNDLE, its own fault, or its effect and then its vector fault. An access of a handler through L0 waits while a vector operation of the flow it cut holds port 0 (04 R149, R157, R161). -/
def issueOne (p : PTile) (o : TileOp) (s : State) : State :=
  let t := tile s p
  if opBarred t o then opFault s p cIllegalBundle 0
  else if portWait s t o then s
  else if o.conflict s then opFault s p cIllegalBundle 0
  else
    let f := o.check s
    if f.1 ≠ 0 then opFault s p f.1 f.2
    else match o.vfault s with
      | some (w, v) => vectorFault (o.act s) p w v (serving t)
      | none => o.act s

end Sys2Proof.Machine
end

