-- ==== Sys2Proof/Machine/Keep.lean ====
section
/-! DEFINITION. The keep store: the journal, the counters that never repeat, wear, the model store, the verification of firmware images, and the life cycle (16 R496 to R522). -/

namespace Sys2Proof.Machine

open Sys2Proof

/-- Blocks of the journal (16 R498, R500). -/
def jBlocks (s : State) : Nat := if s.part.dense then 1536 else 768

/-- BODY of a record in clear, little-endian (00 R9; 16 R501, R503, R511). Of REPAIR the spec gives every field, of CHECKPOINT, POWER_FAIL and CARRY the bytes; of the others it names the contents, and the widths are a DESIGN CHOICE (notes/assumptions/23.md). -/
def bodyBytes : JBody → List Byte
  | .config seq target b => leBytes 8 seq ++ leBytes 8 target ++ b.flatMap fun x => leBytes 8 x.1 ++ leBytes 4 x.2.toNat
  | .reserve c b => leBytes 8 c ++ leBytes 8 b
  | .checkpoint _ _ slot => slice slot 0 4096
  | .cpCommit run layout d n => leBytes 8 run ++ leBytes 8 layout ++ slice d 0 48 ++ leBytes 8 n
  | .packageDir d dev off len => slice d 0 48 ++ leBytes 8 dev ++ leBytes 8 off ++ leBytes 8 len
  | .repair l => l.flatMap fun e => leBytes 1 e.1 ++ leBytes 1 e.2.1 ++ leBytes 1 e.2.2.1 ++ leBytes 1 0 ++ leBytes 4 e.2.2.2
  | .spares l => l.flatMap fun e => leBytes 1 e.1 ++ leBytes 1 e.2
  | .wear l => l.flatMap fun e => leBytes 4 e.1 ++ leBytes 4 e.2
  | .bootPort p m => leBytes 1 p ++ leBytes 1 m
  | .firmware d svn st => slice d 0 48 ++ leBytes 4 svn ++ leBytes 4 st
  | .powerFail b => b
  | .carry b => b

/-- Bytes of a record's body (16 R500). -/
def bodyLen (b : JBody) : Nat := (bodyBytes b).length

/-- Bytes that a record takes in the log: header, body and tag (16 R500). -/
def recLen (b : JBody) : Nat := 32 + bodyLen b

/-- TYPE of a record (16 R501). -/
def bodyType : JBody → Nat
  | .config _ _ _ => 1
  | .reserve _ _ => 2
  | .checkpoint _ _ _ => 3
  | .cpCommit _ _ _ _ => 4
  | .packageDir _ _ _ _ => 5
  | .repair _ => 6
  | .spares _ => 7
  | .wear _ => 8
  | .bootPort _ _ => 9
  | .firmware _ _ _ => 10
  | .powerFail _ => 11
  | .carry _ => 12

/-- CLASS: 1 owner, 0 device (16 R501). -/
def ownerRecord (b : JBody) : Bool := bodyType b = 1 || bodyType b = 3 || bodyType b = 4 || bodyType b = 5

/-- The 16-byte header of a record (16 R500). -/
def recHeader (r : JRec) : List Byte :=
  leBytes 8 r.jseq ++ leBytes 2 (bodyType r.body) ++ leBytes 1 (if ownerRecord r.body then 1 else 0) ++ leBytes 1 0 ++ leBytes 4 (bodyLen r.body)

/-- A record as its bytes lie in the log: the header, the body in clear for a device record and enciphered under the keep key for an owner record, and the tag over both (16 R500, R517). -/
def recBytes (r : JRec) : List Byte :=
  let n := bodyLen r.body
  let sealed_ := beBytes (n + 16) (Config.gcmSeal (Config.keepKey r.gen) (leBytes 8 r.jseq ++ [0, 0, 0, 0]) (recHeader r) (bodyBytes r.body))
  recHeader r ++ (if ownerRecord r.body then sealed_.take n else bodyBytes r.body) ++ sealed_.drop n

/-- A record reads as dead: an owner record of an earlier keep key (16 R517, R522). -/
def recDead (k : Keep) (r : JRec) : Bool := ownerRecord r.body && (r.gen ≠ k.otp.transitions || k.otp.secretGone)

/-- Two records have one type and key; the later one is the live value (16 R501). -/
def sameKey : JBody → JBody → Bool
  | .reserve c _, .reserve d _ => c = d
  | .packageDir c _ _ _, .packageDir d _ _ _ => c = d
  | .bootPort p _, .bootPort q _ => p = q
  | .repair _, .repair _ => true
  | .spares _, .spares _ => true
  | .wear _, .wear _ => true
  | .firmware _ _ _, .firmware _ _ _ => true
  | .powerFail _, .powerFail _ => true
  | .carry _, .carry _ => true
  | _, _ => false

/-- The checkpoints that count: JSEQ, run tick, layout, package digest and number of contexts of the CP_COMMIT records, newest first (16 R514). -/
def checkpoints (k : Keep) : List (Nat × Nat × Nat × List Byte × Nat) :=
  (k.recs.filterMap fun r =>
    match r.body with
    | .cpCommit t l d n => if recDead k r then none else some (r.jseq, t, l, d, n)
    | _ => none).reverse

/-- A record is live: its value still counts (16 R501, R514). A CONFIG record is live while it sets a byte that no later one sets. -/
def recLive (k : Keep) (r : JRec) : Bool :=
  !recDead k r &&
  match r.body with
  | .config _ _ bytes =>
    let later := k.recs.filter fun x => r.jseq < x.jseq
    bytes.any fun b => !later.any fun x => match x.body with | .config _ _ c => (smFind c b.1).isSome | _ => false
  | .checkpoint _ t _ => ((checkpoints k).take 2).any (fun c => c.2.1 = t) || ((checkpoints k).head?.map (·.1)).getD 0 ≤ r.jseq
  | .cpCommit _ _ _ _ => ((checkpoints k).take 2).any fun c => c.1 = r.jseq
  | .packageDir d _ _ _ => k.store.any (fun p => p.digest = d) && !k.recs.any fun x => r.jseq < x.jseq && sameKey r.body x.body
  | b => !k.recs.any fun x => r.jseq < x.jseq && sameKey b x.body

/-- keep.erase_max (16 R533). -/
def eraseMax (s : State) : Nat := s.keep.wear.foldl (fun m e => max m e.2) 0

/-- keep.projected_life in days (16 R503). -/
def projectedLife (s : State) : Nat :=
  let m := eraseMax s
  match s.keep.wear.find? fun e => e.2 = m with
  | none => 65535
  | some (b, _) =>
    let n := (s.keep.erases.filter fun e => e.2 = b && nowNs s < e.1 + 2592000000000000).length
    if n = 0 then 65535 else min 65535 ((cfgNat s oKeepEndurance - m) * 30 / n)

/-- The keep store wears out (16 R503). -/
def wearing (s : State) : Bool := projectedLife s < 730 || cfgNat s oKeepEndurance * 8 ≤ eraseMax s * 10

/-- A device of the keep store is refused or withdrawn: its code is raised, and the packages in its half are absent from the directory (16 R497, R499). -/
def withdrawDevice (s : State) (d code : Nat) : State :=
  notify { s with keep := { s.keep with gone := setInsert s.keep.gone d, store := s.keep.store.map fun p => if p.device = d then { p with listed := false } else p } } code 0 d

/-- A read, program or erase of a device fails; the third within 24 h withdraws it (16 R499). -/
def keepFail (s : State) (d code : Nat) : State :=
  if s.keep.gone.contains d then s else
  let l := (s.keep.fails.filter fun x => nowNs s < x.1 + 86400000000000) ++ [(nowNs s, d)]
  let s := { s with keep := { s.keep with fails := l } }
  if (l.filter fun x => x.2 = d).length < 3 then s else withdrawDevice s d code

/-- A program or an erase goes to both devices; those whose programs fail are counted (16 R499). -/
def programFails (s : State) : State := s.keep.programBad.foldl (fun s d => keepFail s d cKeepProgramError) s

/-- The devices that serve: fitted, and neither refused nor withdrawn (16 R497, R499). -/
def keepDevices (s : State) : List Nat := (List.range s.part.devices).filter fun d => !s.keep.gone.contains d

/-- keep.state: 0 OK, 1 ONE_DEVICE, 2 FAILED (16 R499, R533). -/
def keepState (s : State) : Nat := if s.keep.gone.isEmpty then 0 else if (keepDevices s).isEmpty then 2 else 1

/-- Records whose copies fail their tag on every device that serves: they are dead (16 R501). -/
def lostRecords (s : State) : List Nat :=
  (s.keep.recs.filter fun r => (keepDevices s).all fun d => s.keep.badCopies.contains (d, r.jseq)).map (·.jseq)

/-- The records read from device 0; where a copy fails its tag the part reads device 1, rewrites the copy of device 0 and counts the event (16 R499). -/
def rereadRecords (s : State) : State :=
  s.keep.recs.foldl (fun s r =>
    if s.keep.badCopies.contains (0, r.jseq) && (keepDevices s).contains 0 && (keepDevices s).contains 1 then
      keepFail { s with keep := { s.keep with badCopies := s.keep.badCopies.filter (· ≠ (0, r.jseq)), rereads := s.keep.rereads + 1 } } 0 cKeepReadError
    else s) s

/-- The copies of the firmware image on the devices that serve, device 0 first (16 R499, R520). -/
def imageCopies (s : State) : List (List Byte) := (keepDevices s).filterMap fun d => s.keep.image[d]?

/-- The block after the last prepared one is prepared: its live records are copied forward, the others go, it is erased, and a WEAR record gives the erase count of each block (16 R501, R502; that one is journaled with each erase is a DESIGN CHOICE, notes/assumptions/23.md). -/
def prepareBlock (s : State) : State :=
  let k := s.keep
  let b := k.ready + 1
  let n := jBlocks s
  let inBlock (r : JRec) : Bool := r.at_ / 65536 + n = b || (r.at_ + recLen r.body - 1) / 65536 + n = b
  let step (a : List JRec × Nat) (r : JRec) : List JRec × Nat :=
    if !inBlock r then (a.1 ++ [r], a.2)
    else if recLive k r then (a.1 ++ [{ r with at_ := a.2 }], a.2 + recLen r.body)
    else a
  let kept := k.recs.foldl step ([], k.pos)
  let wear := smMod 0 k.wear (b % n) (· + 1)
  let before := wearing s
  let s := programFails { s with keep := { k with
      recs := kept.1 ++ [{ jseq := k.next, gen := k.otp.transitions, at_ := kept.2, body := .wear wear }]
      next := k.next + 1
      pos := kept.2 + recLen (.wear wear)
      ready := b
      wear := wear
      erases := (k.erases.filter fun e => nowNs s < e.1 + 2592000000000000) ++ [(nowNs s, b % n)] } }
  if !before && wearing s then notify s cKeepWearWarning 0 0 (leBytes 4 (eraseMax s)) else s

/-- Blocks prepared until two erased ones lie ahead of the head (16 R502). -/
def prepareAhead : Nat → State → State
  | 0, s => s
  | n + 1, s => if s.keep.pos / 65536 + 2 ≤ s.keep.ready then s else prepareAhead n (prepareBlock s)

/-- A record journaled (16 R500, R502). -/
def journal (s : State) (b : JBody) : State :=
  let k := s.keep
  let r : JRec := { jseq := k.next, gen := k.otp.transitions, at_ := k.pos, body := b }
  prepareAhead 4096 (programFails { s with keep := { k with recs := k.recs ++ [r], next := k.next + 1, pos := k.pos + recLen b } })

/-- The highest reserved block of a counter: 0 event, 1 SEQ, 2 NSEQ, 3 tick numbers (16 R501, R504). -/
def reserved (k : Keep) (c : Nat) : Option Nat :=
  k.recs.foldl (fun a r => match r.body with | .reserve d b => if d = c then some b else a | _ => a) none

/-- Numbers in a reservation block (16 R504, R506). -/
def reserveSize (c : Nat) : Nat := if c = 3 then 65536 else 4096

/-- A counter has reached a value: the reservation of the block after its own is journaled when it is not yet (16 R504, R506). -/
def reserve (s : State) (c v : Nat) : State :=
  let want := v / reserveSize c + 1
  match reserved s.keep c with
  | some b => if want ≤ b then s else journal s (.reserve c want)
  | none => journal s (.reserve c want)

/-- The next event number taken (11 R367, 16 R504). -/
def takeEvent (s : State) : Nat × State :=
  let v := s.ctrl.event
  (v, reserve { s with ctrl := { s.ctrl with event := v + 1 } } 0 (v + 1))

/-- n stream sequence numbers taken (11 R371, 16 R504). -/
def takeSeq (s : State) (n : Nat) : Nat × State :=
  let v := s.ctrl.seq
  (v, reserve { s with ctrl := { s.ctrl with seq := v + n } } 1 (v + n))

/-- The next notification number taken (12 R401, 16 R504). -/
def takeNseq (s : State) : Nat × State :=
  let v := s.ctrl.nseq
  (v, reserve { s with ctrl := { s.ctrl with nseq := v + 1 } } 2 (v + 1))

/-- Where a counter resumes without a power-fail record: the first number of the second block above the highest reserved one; 0 on a part that has reserved nothing (16 R505, R506). -/
def resumeAt (k : Keep) (c : Nat) : Nat :=
  match reserved k c with
  | some b => (b + 2) * reserveSize c
  | none => 0

/-- The REPAIR record of the repair map in force (16 R501): kind 0 soft remap, 1 fused row, 2 lane. -/
def journalRepair (s : State) : State :=
  journal s (.repair (
    (s.hbm.remaps.map fun m => (m.row / 786432, 0, m.spare, m.row % 786432))
    ++ (s.hbm.fused.map fun r => (r / 786432, 1, 0, r % 786432))
    ++ (s.hbm.lanes.map fun l => (l / 64, 2, 0, l % 64))))

/-- The SPARES record: role and logical id of each physical tile (16 R501). -/
def journalSpares (s : State) : State := journal s (.spares (s.tiles.toList.map fun t => (t.role, t.logical)))

/-! Model store. -/

/-- Bytes of one device's half of the model store (16 R498). -/
def storeBytes (s : State) : Nat := if s.part.dense then 0x8000000 else 0x3000000

/-- Bytes of a length in whole 64 KiB blocks (16 R523). -/
def blockLen (n : Nat) : Nat := ceilDiv n 65536 * 65536

/-- Packages of the store that the keep key in force reads (16 R522). -/
def storedNow (s : State) : List Stored := s.keep.store.filter fun p => p.gen = s.keep.otp.transitions && !s.keep.otp.secretGone

/-- keep.model_free (16 R533). -/
def modelFree (s : State) : Nat := (keepDevices s).length * storeBytes s - ((storedNow s).filter fun p => !s.keep.gone.contains p.device).foldl (fun n p => n + blockLen p.bytes.length) 0

/-- A place for n bytes: the lowest block of the lowest device at which they fit (notes/assumptions/23.md). -/
def storePlace (s : State) (n : Nat) : Option (Nat × Nat) :=
  (keepDevices s).findSome? fun d =>
    let here := (storedNow s).filter fun p => p.device = d
    let starts := 0 :: here.map fun p => p.offset + blockLen p.bytes.length
    let ok := starts.filter fun a => a + blockLen n ≤ storeBytes s && here.all fun p => a + blockLen n ≤ p.offset || p.offset + blockLen p.bytes.length ≤ a
    match ok with
    | [] => none
    | a :: r => some (d, r.foldl min a)

/-- A package found in the store (16 R531). -/
def storeFind (s : State) (digest : List Byte) : Option Stored := (storedNow s).find? fun p => p.listed && p.digest = digest

/-- PACKAGE_DIR_JOURNAL: the last block of a package verifies in the model store and its PACKAGE_DIR record is journaled (16 R523). -/
def execPackageDirJournal (digest : List Byte) (s : State) : Host.Outcome State Fault Refusal :=
  match s.saving.find? fun p => p.digest = digest with
  | none => .next s
  | some p =>
    let s := { s with saving := s.saving.filter fun x => x.digest ≠ digest }
    match storePlace s p.bytes.length with
    | none => .next (notify s cStoreFull 0 0 (digest.take 32))
    | some (d, o) =>
      let s := { s with keep := { s.keep with store := (s.keep.store.filter fun x => x.digest ≠ digest) ++ [{ digest := digest, device := d, offset := o, bytes := p.bytes, listed := true, gen := s.keep.otp.transitions }] } }
      .next (journal s (.packageDir digest d o p.bytes.length))

/-- plan.package of the configuration in force. -/
def planPackage (s : State) : List Byte := cfgBytes s oPlanPackage

/-- plan.package as a commit group stages it, if it does. -/
def groupPackage (bytes : SMap Byte) : Option (List Byte) :=
  if (smFind bytes (oPlanPackage * 65536)).isSome then some ((List.range 48).map fun i => smGet 0 bytes (oPlanPackage * 65536 + i)) else none

/-- A package is that of the active plan or of a pending commit (16 R523, 12 R399). -/
def packageBusy (s : State) (digest : List Byte) : Bool :=
  (match s.ctrl.plan with | some p => p.digest = digest | none => false)
    || s.alaust.accepted.any fun g => groupPackage g.bytes = some digest

/-- A write of keep.model_delete: its code, and the state after it (16 R523). -/
def modelDelete (s : State) (digest : List Byte) : Nat × State :=
  if packageBusy s digest then (cAccessDenied, s)
  else (cDone, { s with keep := { s.keep with store := s.keep.store.filter fun p => p.digest ≠ digest } })

/-- A command write answered with a code. -/
def answered (r : Nat × State) : Host.Outcome State Fault Refusal :=
  .next { r.2 with alaust := { r.2.alaust with answer := r.1 } }

/-- KEEP_MODEL_DELETE (16 R523). -/
def execKeepModelDelete (digest : List Byte) (s : State) : Host.Outcome State Fault Refusal := answered (modelDelete s digest)

/-- A write of lc.pkg_svn_raise (16 R533). -/
def pkgSvnRaise (s : State) (v : Nat) : Nat × State :=
  let svn := match s.ctrl.plan with | some p => p.svn | none => 0
  if v < s.keep.otp.pkgSvn || 64 < v || svn < v then (cRollbackRefused, s)
  else (cDone, { s with keep := { s.keep with otp := { s.keep.otp with pkgSvn := v } } })

/-- LC_PKG_SVN_RAISE (16 R533). -/
def execLcPkgSvnRaise (v : BitVec 8) (s : State) : Host.Outcome State Fault Refusal := answered (pkgSvnRaise s v.toNat)

/-! Firmware images. -/

/-- Every byte is 0. -/
def allZero (l : List Byte) : Bool := l.all (· == 0)

/-- A firmware key slot of the OTP; all 0 unprogrammed (16 R516). -/
def keySlot (o : Otp) (i : Nat) : List Byte := (o.slots[i]?).getD (List.replicate 48 0)

/-- A programmed slot (16 R516). -/
def slotSet (o : Otp) (i : Nat) : Bool := !allZero (keySlot o i)

/-- The first check of a firmware image (16 R519 step 1). -/
def imageForm (o : Otp) (b : List Byte) : Bool :=
  let slot := leAt b 6 1
  let flags := leAt b 7 1
  let mask := leAt b 9 1
  let others := (List.range 4).filter fun i => i ≠ slot && slotSet o i
  slice b 0 4 = textBytes [0x4D, 0x45, 0x46, 0x57] && leAt b 4 2 = 1 && slot < 4 && flags < 4 && leAt b 8 1 ≤ 64 && mask < 16
    && leAt b 10 2 = 0 && allZero (slice b 121 23) && allZero (slice b 288 224)
    && 0 < leAt b 16 8 && 512 + leAt b 16 8 = b.length && b.length ≤ 24 * 1048576
    && slotSet o slot && sha384 (slice b 24 97) = keySlot o slot
    && (flags / 2 = 0 || (!bitAt slot mask && (others.isEmpty || others.any fun i => !bitAt i mask)))

/-- Verification of a firmware image: DONE, or the code of the first failure (16 R519). -/
def verifyImage (o : Otp) (b : List Byte) : Nat :=
  if !imageForm o b then cFirmwareInvalid
  else if o.revoked.contains (leAt b 6 1) then cKeyRevoked
  else if leAt b 8 1 < o.fwSvn then cRollbackRefused
  else if sha384 (b.drop 512) = slice b 144 48 && Config.ecdsaVerify (slice b 24 97) (sha384 (b.take 192)) (slice b 192 96) then cDone
  else cFirmwareInvalid

/-- The first boundary at which something requested at time at and targeted at T (0: the next that it can) acts, judged at the boundary of tick k: 1 ms apart (12 R380). -/
def dueAt (s : State) (target at_ k : Nat) : Bool :=
  if target = 0 then at_ + 1000000 ≤ nowNs s else target ≤ k

/-- The time at which the boundary of a later tick is expected: t(k) with source 1, else whole periods after the present boundary (02 R47, R48, R50). -/
def boundaryAt (s : State) (k : Nat) : Nat :=
  if cfgNat s oTickSource = 1 then tickTime s k else s.ctrl.time + (k - s.ctrl.tick) * periodN s * 1000000000 / max 1 (periodD s)

/-- A target tick whose boundary lies less than 1 ms ahead (12 R380). -/
def tooLate (s : State) (target : Nat) : Bool := target ≠ 0 && (target ≤ s.ctrl.tick || boundaryAt s target < nowNs s + 1000000)

/-- A write of firmware.switch: placed as commit.request places a group (16 R529, 12 R380). With no staged image there is nothing to switch to. -/
def firmwareSwitch (s : State) (target : Nat) : Nat × State :=
  if s.fw.state ≠ 1 then (cAccessDenied, s)
  else if tooLate s target then (cCommitTooLate, s)
  else (cDone, { s with fw := { s.fw with switch := some target, switchAt := nowNs s } })

/-- FIRMWARE_SWITCH (16 R529). -/
def execFirmwareSwitch (target : Word) (s : State) : Host.Outcome State Fault Refusal := answered (firmwareSwitch s target.toNat)

/-- At a boundary the staged image takes over when its target has come (16 R529). -/
def switchAtBoundary (s : State) : State :=
  match s.fw.switch, s.fw.staged with
  | some t, some b =>
    if dueAt s t s.fw.switchAt s.ctrl.tick then { s with fw := { s.fw with switch := none, staged := none, old := s.fw.image, image := b, state := 2 } } else s
  | _, _ => s

/-- The old image resumes after a failed switch (16 R529). -/
def switchFailed (s : State) : State :=
  notify { s with fw := { s.fw with image := s.fw.old, old := [], state := 0 } } cFirmwareInvalid 0 0

/-- FIRMWARE_REWRITE_DONE: the image areas hold the running image, the FIRMWARE record is journaled, and then the SVN and revocation fuses are blown (16 R529 steps 3 and 4, R520, R530). -/
def execFirmwareRewriteDone (s : State) : Host.Outcome State Fault Refusal :=
  if s.fw.state ≠ 3 then .next s
  else
    let b := s.fw.image
    let s := { s with keep := { s.keep with image := List.replicate s.part.devices b } }
    let s := journal s (.firmware (sha384 b) (leAt b 8 1) 0)
    let flags := leAt b 7 1
    let o := s.keep.otp
    let o := if bitAt 0 flags then { o with fwSvn := max o.fwSvn (leAt b 8 1) } else o
    let o := if bitAt 1 flags then { o with revoked := (List.range 4).filter fun i => o.revoked.contains i || bitAt i (leAt b 9 1) } else o
    let s := { s with keep := { s.keep with otp := o }, fw := { s.fw with state := 0, old := [] } }
    if s.fw.recovered then .next (notify { s with fw := { s.fw with recovered := false } } cFirmwareRecovery 0 0) else .next s

/-! Life cycle. -/

/-- A requested transition is allowed (16 R521). -/
def lcAllowed (old new : Nat) : Bool :=
  (old = 1 && new = 2) || ((old = 1 || old = 2) && (new = 3 || new = 4))

/-- A write of lc.transition (16 R521, R522): the transition is carried out at the next boundary. -/
def lcTransition (s : State) (new : Nat) : Nat × State :=
  if lcAllowed s.keep.otp.lc new then (cDone, { s with alaust := { s.alaust with lcTo := some new } }) else (cLifecycleDenied, s)

/-- LC_TRANSITION: a request of lc.transition from an Expert session, or by JTAG debug for RETURNED to ENDED (16 R521, R522). -/
def execLcTransition (state : BitVec 8) (debug : Bool) (s : State) : Host.Outcome State Fault Refusal :=
  if debug then
    if s.keep.otp.lc = 3 && state = 4 then answered (cDone, { s with alaust := { s.alaust with lcTo := some 4 } }) else answered (cLifecycleDenied, s)
  else answered (lcTransition s state.toNat)

/-- The keys of lc.owner_keys are carried over a transition into DEVELOPMENT or DEPLOYED (16 R521). -/
def lcCarries (new : Nat) : Bool := new = 1 || new = 2

/-- Steps 3 and 4 of a transition: the carried keys are journaled and the fuse is blown; ENDED blows the device secret too (16 R522). -/
def lcBlow (s : State) (new : Nat) : State :=
  let s := if lcCarries new then journal s (.carry (cfgBytes s oLcOwnerKeys)) else s
  let o := s.keep.otp
  { s with
    keep := { s.keep with otp := { o with lc := new, transitions := o.transitions + 1, secretGone := o.secretGone || new = 4 } }
    alaust := { s.alaust with lcTo := none } }

end Sys2Proof.Machine
end

