-- ==== Sys2Proof/Machine/Memory.lean ====
section
/-! DEFINITION. Meadow memory and the HBM controller: slots, ECC, partial writes, refresh, patrol, repair, refill and scrub (08). -/

namespace Sys2Proof.Machine

open Sys2Proof

/-- Tile cycles since the tick boundary. -/
def sinceBoundary (s : State) : Nat := s.cycle - s.ctrl.boundary

/-- Bytes of the HBM plan region (08 R250). -/
def hbmPlanSize : Nat := 0x0005C0000000

/-- Bytes of the Meadow plan region (08 R250). -/
def meadowPlanSize : Nat := 0x0F800000

/-- Bank of a Meadow slot (08 R255). -/
def meadowBank (slot : Nat) : Nat := if slot < 2031616 then slot % 496 else 496 + slot % 16

/-- A bank has served a slot in the present cycle (08 R256). -/
def bankBusy (s : State) (bank : Nat) : Bool := s.meadow.busyAt = s.cycle + 1 && s.meadow.busy.contains bank

/-- A slot granted at a bank in the present cycle. -/
def bankTake (s : State) (bank : Nat) : State :=
  let old := if s.meadow.busyAt = s.cycle + 1 then s.meadow.busy else []
  { s with meadow := { s.meadow with busyAt := s.cycle + 1, busy := bank :: old } }

/-- Bytes of Meadow memory written in the present cycle; they take effect at its end, a later grant over an earlier one (08 R255, R256). -/
def meadowWrite (s : State) (off : Nat) (bytes : List Byte) : State :=
  { s with meadow := { s.meadow with commits := s.meadow.commits ++ bytes.zipIdx.map fun b => (off + b.2, b.1) } }

/-- Bytes of Meadow memory set with good parity at once: what the system controller and the queue engine write in rows that stand for the end of their access (notes/assumptions/50.md). -/
def meadowSet (s : State) (off : Nat) (bytes : List Byte) : State :=
  { s with meadow := { s.meadow with
      mem := memWrite s.meadow.mem off bytes
      bad := s.meadow.bad.filter fun b => b < off || off + bytes.length ≤ b } }

/-- Refresh is doubled in the present tick (08 R272). -/
def refreshDoubled (s : State) : Bool := s.hbm.doubled

/-- A pseudo-channel is in a refresh slot in the present cycle (08 R271, R272). -/
def refreshing (s : State) (c : Nat) : Bool :=
  let o := sinceBoundary s
  (c * 60 ≤ o && (o - c * 60) % 1950 < 140) || (refreshDoubled s && c * 60 + 975 ≤ o && (o - c * 60 - 975) % 1950 < 140)

/-- A refresh slot of a pseudo-channel starts in the present cycle. -/
def refreshStarts (s : State) (c : Nat) : Bool :=
  let o := sinceBoundary s
  (c * 60 ≤ o && (o - c * 60) % 1950 = 0) || (refreshDoubled s && c * 60 + 975 ≤ o && (o - c * 60 - 975) % 1950 = 0)

/-- The tile-DMA cycle k of a frame cycle (09 R291). -/
def tileDmaCycle (f : Nat) : Option Nat :=
  if 4 ≤ f && f < 24 then some (f - 4) else if 36 ≤ f && f < 56 then some (f - 16) else none

/-- The logical tile that owns pseudo-channel c in the present cycle (09 R292). -/
def hbmOwner (s : State) (c : Nat) : Option Nat :=
  let o := sinceBoundary s
  match tileDmaCycle (o % 64) with
  | none => none
  | some k => some ((40 * ((c + o / 64) % 32) + k) % gradeTiles s)

/-- The cycle is one of the 4 system cycles of its frame: cycles 60 to 63; cycles 24 to 31 and 56 to 59 are those of decode and intake (08 R270; which cycles of the frame they are is a DESIGN CHOICE, notes/assumptions/21.md). -/
def systemCycle (s : State) : Bool := 60 ≤ sinceBoundary s % 64

/-- A system cycle of a pseudo-channel has served an access in the present cycle. -/
def sysTaken (s : State) (c : Nat) : Bool := s.hbm.sysAt = s.cycle + 1 && s.hbm.sysUsed.contains c

/-- The system cycle of a pseudo-channel is used. -/
def sysTake (s : State) (c : Nat) : State :=
  let old := if s.hbm.sysAt = s.cycle + 1 then s.hbm.sysUsed else []
  { s with hbm := { s.hbm with sysAt := s.cycle + 1, sysUsed := c :: old } }

/-- A system user may use pseudo-channel c in the present cycle (08 R270, R271). -/
def sysUsable (s : State) (c : Nat) : Bool := !refreshing s c && systemCycle s && !sysTaken s c

/-- A tile may use pseudo-channel c in the present cycle: an in-service tile in a slot it owns, an acting spare in a system cycle (08 R270, 09 R292, 15 R480). -/
def hbmUsable (s : State) (p : PTile) (c : Nat) : Bool :=
  let t := tile s p
  if t.role = 2 then sysUsable s c else !refreshing s c && hbmOwner s c = some t.logical

/-- Granule of an HBM address, its pseudo-channel and its row (08 R270, R276). -/
def granuleOf (a : Nat) : Nat := a / 64
/-- Pseudo-channel of a granule (08 R270). -/
def pseudoOf (g : Nat) : Nat := g % 32
/-- Row number of a granule: pseudo-channel × 786,432 + row of it. -/
def rowOf (g : Nat) : Nat := (g % 32) * 786432 + g / 32 / 16

/-- The 16-bit symbols of a granule that hold flipped bits (08 R274). -/
def badSymbols (s : State) (g : Nat) : List Nat :=
  (s.hbm.flips.filter fun f => f.1 / 64 = g).foldl (fun l f => setInsert l (f.1 % 64 / 2)) []

/-- The granule's ECC formed anew: nothing of it differs any more. -/
def clearFlips (s : State) (g : Nat) : State :=
  { s with hbm := { s.hbm with flips := s.hbm.flips.filter fun f => f.1 / 64 ≠ g } }

/-- Rows queued for repair: one with an uncorrectable error, or with corrections in hbm.repair_threshold of the last 16 patrol passes (08 R276). -/
def noteRow (s : State) (g : Nat) (uncorrectable : Bool) : State :=
  let row := rowOf g
  let r := smGet {} s.hbm.rows row
  let r := if uncorrectable then { r with uncorrectable := true }
    else { r with corrected := ((setInsert r.corrected s.hbm.pass).filter fun x => s.hbm.pass < x + 16) }
  let due := r.uncorrectable || cfgNat s oHbmRepairThreshold ≤ r.corrected.length
  let known := s.hbm.repairs.contains row || s.hbm.fused.contains row || s.hbm.remaps.any fun m => m.row = row
  { s with hbm := { s.hbm with
      rows := smPut s.hbm.rows row r
      repairs := if due && !known then s.hbm.repairs ++ [row] else s.hbm.repairs
      lost := if uncorrectable then setInsert s.hbm.lost g else s.hbm.lost } }

/-- The interface parity of a transfer on a pseudo-channel: each failing lane counts an error; with 4 in one patrol pass it moves at the next boundary (08 R278). -/
def laneCheck (s : State) (pc : Nat) : State :=
  (s.hbm.badLanes.filter fun l => l / 64 = pc && !s.hbm.lanes.contains l).foldl (fun s l =>
    let n := smGet 0 s.hbm.laneErrors l + 1
    { s with hbm := { s.hbm with
        laneErrors := smPut s.hbm.laneErrors l n
        laneDue := if n = 4 then setInsert s.hbm.laneDue l else s.hbm.laneDue } }) s

/-- The bytes of a granule as ECC corrects them: every flipped bit inverted back. -/
def correctedGranule (s : State) (g : Nat) : List Byte :=
  (List.range 64).map fun i =>
    let a := g * 64 + i
    (s.hbm.flips.filter fun f => f.1 = a).foldl (fun b f => b ^^^ BitVec.ofNat 8 (2 ^ f.2)) (memGet s.hbm.mem a)

/-- A granule read through ECC: its 64 bytes, or none when uncorrectable. An error of three or more symbols is detected, delivers free bytes as if corrected, or delivers them with no report, as a free value decides (08 R274; notes/assumptions/11.md). -/
def granuleRead (s : State) (g : Nat) : Option (List Byte) × State :=
  let n := (badSymbols s g).length
  let s := laneCheck s (pseudoOf g)
  if n = 0 then (some (memRead s.hbm.mem (g * 64) 64), s)
  else if n = 1 then (some (correctedGranule s g), noteRow (roAdd s oHbmCorrected 1) g false)
  else
    let d := drawFree s
    if n = 2 || d.1.getLsbD 0 then (none, noteRow (roAdd d.2 oHbmUncorrectable 1) g true)
    else
      let r := drawBytes 64 d.2
      (some r.1, if d.1.getLsbD 1 then noteRow (roAdd r.2 oHbmCorrected 1) g false else r.2)

/-- n bytes from address a on, within one granule. -/
def hbmRead (s : State) (a n : Nat) : Option (List Byte) × State :=
  let r := granuleRead s (granuleOf a)
  (r.1.map fun b => slice b (a % 64) n, r.2)

/-- n bytes from address a on, over any granules, read by decode or the system controller in a row that stands for the end of the transfer (notes/assumptions/50.md). -/
def hbmReadMany : Nat → State → Nat → Nat → Option (List Byte) × State
  | 0, s, _, _ => (some [], s)
  | k + 1, s, a, n =>
    if n = 0 then (some [], s)
    else
      let m := min n (64 - a % 64)
      let r := hbmRead s a m
      let q := hbmReadMany k r.2 (a + m) (n - m)
      (match r.1, q.1 with | some x, some y => some (x ++ y) | _, _ => none, q.2)

/-- Bytes of HBM set with good ECC at once, by the system controller or decode in a row that stands for the end of the transfer (notes/assumptions/50.md). Of a granule written in part the rest keeps its flipped bits. -/
def hbmSet (s : State) (a : Nat) (bytes : List Byte) : State :=
  { s with hbm := { s.hbm with
      mem := memWrite s.hbm.mem a bytes
      flips := s.hbm.flips.filter fun f => f.1 < a || a + bytes.length ≤ f.1 } }

/-- Bytes of HBM written in a granted slot; they take effect at the end of the cycle (08 R254). -/
def hbmWrite (s : State) (a : Nat) (bytes : List Byte) : State :=
  { s with hbm := { s.hbm with commits := s.hbm.commits ++ bytes.zipIdx.map fun b => (a + b.2, b.1) } }

/-- A write of bytes of one granule in a granted slot: a whole granule at once; a part is read and merged, and its write-back follows (08 R254). None: the granule cannot be corrected, and nothing is written. -/
def granuleWrite (s : State) (a : Nat) (bytes : List Byte) (tile : Option PTile) (ch : Fin 8) : Option State × State :=
  let g := granuleOf a
  if bytes.length = 64 then (some (hbmWrite (clearFlips (laneCheck s (pseudoOf g)) g) a bytes), s)
  else
    let r := granuleRead s g
    match r.1 with
    | none => (none, r.2)
    | some old =>
      let merged := (putBytes old (a % 64) bytes).zipIdx.map fun b => (g * 64 + b.2, b.1)
      (some { r.2 with hbm := { r.2.hbm with partials := r.2.hbm.partials ++ [{ granule := g, bytes := merged, at_ := s.cycle, tile := tile, ch := ch }] } }, r.2)

/-- A granule whose partial write waits for its write-back is held (08 R254). -/
def granuleHeld (s : State) (g : Nat) : Bool := s.hbm.partials.any fun x => x.granule = g

/-- The system user or the tile of a write-back. -/
def sameClient (s : State) (a b : Option PTile) : Bool :=
  let sys (x : Option PTile) : Bool := match x with | none => true | some p => (tile s p).role = 2
  a = b || (sys a && sys b)

/-- A write-back of the same requester, or of another system user, waits for a slot of pseudo-channel c: it goes before any new access (08 R254). -/
def writebackDue (s : State) (who : Option PTile) (c : Nat) : Bool :=
  s.hbm.partials.any fun x => pseudoOf x.granule = c && x.at_ + 40 ≤ s.cycle && sameClient s x.tile who

/-- The port of a tile's engine toward a pseudo-channel. -/
def hbmPort (c : Nat) : Nat := 8 + c

/-- Ports of the engine used in the present cycle (09 R288). -/
def portsUsed (s : State) (p : PTile) : List Nat :=
  let d := (tile s p).dma
  if d.portAt = s.cycle + 1 then d.portUsed else []

/-- A port of the engine taken in the present cycle; an acting spare's HBM access uses a system cycle (15 R480). -/
def takePort (s : State) (p : PTile) (port : Nat) : State :=
  let old := portsUsed s p
  let s := if 8 ≤ port && (tile s p).role = 2 then sysTake s (port - 8) else s
  modTile s p fun t => { t with dma := { t.dma with portAt := s.cycle + 1, portUsed := port :: old } }

/-- The slot of pseudo-channel c is free to a tile, or to another system user, in the present cycle. -/
def slotFree (s : State) (who : Option PTile) (c : Nat) : Bool :=
  match who with
  | some p => hbmUsable s p c && !(portsUsed s p).contains (hbmPort c)
  | none => sysUsable s c

/-- The slot taken. -/
def slotTake (s : State) (who : Option PTile) (c : Nat) : State :=
  match who with
  | some p => takePort s p (hbmPort c)
  | none => sysTake s c

/-- HBM_PARTIAL_WRITEBACK: the merged granule is written back in the first slot, at least 40 cycles after its read, that its requester may use, and uses that slot up (08 R254). -/
def execHbmPartialWriteback (granule : Nat) (s : State) : Host.Outcome State Fault Refusal :=
  match s.hbm.partials.find? fun x => x.granule = granule with
  | none => .next s
  | some x =>
    if s.cycle < x.at_ + 40 || !slotFree s x.tile (pseudoOf granule) then .next s
    else
      let s0 := slotTake (laneCheck s (pseudoOf granule)) x.tile (pseudoOf granule)
      let s1 := x.bytes.foldl (fun s b => hbmWrite s b.1 [b.2]) (clearFlips s0 granule)
      let s2 := { s1 with hbm := { s1.hbm with partials := s1.hbm.partials.filter fun y => y.granule ≠ granule } }
      match x.tile with
      | none => .next s2
      | some p => .next <| modTile (roAdd s2 (oDmaHbmSlots p.val) 1) p fun t =>
          { t with dma := { t.dma with ch := t.dma.ch.set x.ch ({ t.dma.ch[x.ch] with active := (t.dma.ch[x.ch]).active.map fun r => { r with effect := s.cycle } }) } }

/-- HBM_REFRESH_SLOT: a refresh slot of a pseudo-channel starts, and its patrol reads one granule and writes it back corrected (08 R271, R273). -/
def execHbmRefreshSlot (c : Fin 32) (s : State) : Host.Outcome State Fault Refusal :=
  if !refreshStarts s c.val then .next s
  else
    let idx := s.hbm.patrolPos[c]
    let g := idx * 32 + c.val
    let r := granuleRead s g
    let s1 := match r.1 with
      | some b => if (badSymbols s g).length = 1 then clearFlips (hbmSet r.2 (g * 64) b) g else r.2
      | none => r.2
    let next := if idx + 1 = 12582912 then 0 else idx + 1
    let s2 := { s1 with hbm := { s1.hbm with patrolPos := s1.hbm.patrolPos.set c next } }
    if next = 0 && c.val = 31 then
      .next { roAdd s2 oHbmPatrolPasses 1 with hbm := { s2.hbm with pass := s2.hbm.pass + 1, laneErrors := [] } }
    else .next s2

/-- HBM_TEMP_CHANGE: the stack reports its temperature; doubling follows it at the next boundary (08 R272). -/
def execHbmTempChange (degrees : Int) (s : State) : Host.Outcome State Fault Refusal :=
  .next { s with hbm := { s.hbm with temp := degrees } }

/-- The lowest free spare row of a pseudo-channel in the repair area (08 R276). -/
def spareRow (s : State) (pc : Nat) : Option Nat :=
  lowestFree ((s.hbm.remaps.filter fun m => m.row / 786432 = pc).map fun m => m.spare) 8

/-- HBM_SOFT_REMAP: a row due for repair is copied to a spare row of its pseudo-channel; the remap enters the repair map and acts from the next boundary. With every entry used it is not repaired, and HBM_REPAIR_EXHAUSTED is reported (08 R276, R277). -/
def execHbmSoftRemap (row : Nat) (s : State) : Host.Outcome State Fault Refusal :=
  if !s.hbm.repairs.contains row then .next s
  else
    let s := { s with hbm := { s.hbm with repairs := setErase s.hbm.repairs row } }
    match spareRow s (row / 786432) with
    | none => .next (degrade (notify s cHbmRepairExhausted 0 0 (leBytes 4 row)) cHbmRepairExhausted)
    | some sp => .next (journalRepair { s with hbm := { s.hbm with remaps := s.hbm.remaps ++ [{ row := row, spare := sp }] } })

/-- The lanes with 4 errors in a patrol pass move to redundant lanes at a boundary and enter the repair map; where the stack has none left, HBM_LANE_EXHAUSTED is reported (08 R278; notes/assumptions/45.md). -/
def moveLanes (s : State) : State :=
  if s.hbm.laneDue.isEmpty then s
  else
    let a := s.hbm.laneDue.foldl (fun s l =>
      if Config.spareLane s.hbm.lanes l then { s with hbm := { s.hbm with lanes := setInsert s.hbm.lanes l } }
      else degrade (notify s cHbmLaneExhausted 0 (l / 64) (leBytes 2 l)) cHbmLaneExhausted) s
    let s' := { a with hbm := { a.hbm with laneDue := [] } }
    if s'.hbm.lanes = s.hbm.lanes then s' else journalRepair s'

/-- Soft remaps take effect at a boundary: the spare row holds what ECC makes of the old one (08 R276). -/
def remapsActive (s : State) : State :=
  let rows := (s.hbm.remaps.filter fun m => !m.active).map fun m => m.row
  { s with hbm := { s.hbm with
      remaps := s.hbm.remaps.map fun m => { m with active := true }
      rows := s.hbm.rows.filter fun r => !rows.contains r.1
      mem := (s.hbm.flips.filter fun f => rows.contains (rowOf (f.1 / 64)) && (badSymbols s (f.1 / 64)).length = 1).foldl
        (fun m f => memPut m f.1 (memGet m f.1 ^^^ BitVec.ofNat 8 (2 ^ f.2))) s.hbm.mem
      flips := s.hbm.flips.filter fun f => !(rows.contains (rowOf (f.1 / 64)) && (badSymbols s (f.1 / 64)).length = 1) } }

/-- The tile runs a patrol replay (15 R486). -/
def replaying (s : State) (p : PTile) : Bool := match (tile s p).run with | some r => r.replay | none => false

/-- The offset of an address within a write set: the ranges one after another (15 R486). -/
def inRanges : List (Nat × Nat) → Nat → Nat → Option Nat
  | [], _, _ => none
  | (b, n) :: rest, pos, a => if b ≤ a && a < b + n then some (pos + (a - b)) else inRanges rest (pos + n) a

/-- The write set of an entry (16 R526). -/
def writeSet (plan : Plan) (e : Nat) : List (Nat × Nat) :=
  match plan.entries[e]? with
  | some x => (plan.ranges.drop x.rangeFirst).take x.rangeCount
  | none => []

/-- In a patrol replay, where an address of the write set lies in the spare's replay area: an offset of Meadow memory (15 R486, 16 R527). -/
def replayMap (s : State) (p : PTile) (a : Nat) : Option Nat :=
  match s.ctrl.plan, (tile s p).run with
  | some plan, some r =>
    if !r.replay then none
    else match inRanges (writeSet plan (itemOf s r.item).entry) 0 a, plan.regions.find? fun x => x.kind = 5 && s.ctrl.replaySpares[x.arg]? = some p with
      | some o, some x => some (x.base + o - meadowBase)
      | _, _ => none
  | _, _ => none

/-- A slot whose bytes all have bad parity (08 R263). -/
def slotBad (s : State) (slot : Nat) : State :=
  { s with meadow := { s.meadow with bad := (List.range 128).foldl (fun l i => setInsert l (slot * 128 + i)) s.meadow.bad } }

/-- The part of an image region that lies in a 128-byte slot written from its source in the package at base: good bytes, zeros for SOURCE 0, or bad parity throughout the slot when the source is uncorrectable (08 R262, R263; 16 R527). -/
def loadSlot (s : State) (base slot : Nat) (r : PlanRegion) : State :=
  let lo := max r.base (meadowBase + slot * 128)
  let hi := min (r.base + r.length) (meadowBase + slot * 128 + 128)
  if hi ≤ lo then s
  else if r.source = 0 then meadowSet s (lo - meadowBase) (List.replicate (hi - lo) 0)
  else
    let q := hbmReadMany 4 s (base + r.source + (lo - r.base)) (hi - lo)
    match q.1 with
    | some b => meadowSet q.2 (lo - meadowBase) b
    | none => slotBad q.2 slot

/-- A slot of the image regions of the plan rewritten (08 R263). -/
def refillSlot (s : State) (slot : Nat) : State :=
  match s.ctrl.plan with
  | none => s
  | some pl => (pl.regions.filter fun r => r.kind = 1).foldl (fun s r => loadSlot s pl.base slot r) (roAdd s oMeadowRefills 1)

/-- A byte repeated over a range of a memory. -/
def memFill (m : Mem) (a n : Nat) (b : Byte) : Mem :=
  (m.filter fun c => c.1 < a) ++ (if b = 0 then [] else (List.range n).map fun i => (a + i, b)) ++ m.filter fun c => a + n ≤ c.1

/-- One tile cycle of a scrub fill, the k-th from its start: 128 bytes of core memory below the descriptor area through its two ports, 128 bytes of each operand buffer through its DMA port, both in ascending addresses, and accumulator k of each set, all with good parity (08 R268, R269). A byte that a class-0 handler stores in the same cycle is kept (DESIGN CHOICE, notes/assumptions/45.md). -/
def scrubCycle (t : Tile) (b : Byte) (k : Nat) : Tile :=
  let len (size : Nat) : Nat := min 128 (size - 128 * k)
  let rest (l : List Nat) (size : Nat) : List Nat := l.filter fun x => x < 128 * k || 128 * k + len size ≤ x
  let v : BitVec 96 := BitVec.ofNat 96 (b.toNat * ((2 ^ 96 - 1) / 255))
  let put (m : SMap Accum) : SMap Accum := if v = 0 then smDel m k else smPut m k { val := v, res := v.toNat % 3 }
  { t with
    core := memFill t.core (128 * k) (len descArea) b
    wbuf := memFill t.wbuf (128 * k) (len 0x40000) b
    abuf := memFill t.abuf (128 * k) (len 0x40000) b
    vob := memFill t.vob (128 * k) (len 0x10000) b
    coreBad := rest t.coreBad descArea
    wbufBad := rest t.wbufBad 0x40000
    abufBad := rest t.abufBad 0x40000
    vobBad := rest t.vobBad 0x10000
    arr := { t.arr with acc := t.arr.acc.map put } }

/-- The scrub fill of a tile goes on in the present cycle (08 R268). -/
def scrubTick (s : State) (p : PTile) : State :=
  match (tile s p).scrubUntil with
  | none => s
  | some e =>
    if s.cycle < e && e ≤ s.cycle + 16384 then modTile s p fun t => scrubCycle t (BitVec.ofNat 8 (cfgNat s oMemScrubValue)) (s.cycle + 16384 - e) else s

/-- SCRUB_END: the scrub fill of a tile ends 16,384 tile cycles after it began, is counted, and holds the tile no longer (08 R257, R268). -/
def execScrubEnd (p : PTile) (s : State) : Host.Outcome State Fault Refusal :=
  match (tile s p).scrubUntil with
  | some e => if e ≠ 0 && e ≤ s.cycle then .next (modTile (roAdd s (oTileScrubs p.val) 1) p fun t => { t with scrubUntil := none }) else .next s
  | none => .next s

end Sys2Proof.Machine
end

