-- ==== Sys2Proof/Machine/Float.lean ====
section
/-! DEFINITION. IEEE 754-2019 arithmetic of the vector engine in BF16, binary32 and binary64 (04 R143). -/

namespace Sys2Proof.Machine

/-- A binary format: width of the exponent field and of the fraction field. -/
structure FloatFmt where
  ebits : Nat
  mbits : Nat
  deriving DecidableEq, Repr

/-- BF16: the sign, the 8-bit exponent and the top 7 fraction bits of binary32 (04 R143). -/
def bf16 : FloatFmt := { ebits := 8, mbits := 7 }
/-- binary32 (04 R143). -/
def binary32 : FloatFmt := { ebits := 8, mbits := 23 }
/-- binary64 (04 R143). -/
def binary64 : FloatFmt := { ebits := 11, mbits := 52 }

/-- The format of an element width; EW 8 has none (04 R139, R143). -/
def fmtOfWidth (ew : Nat) : FloatFmt :=
  if ew = 16 then bf16 else if ew = 64 then binary64 else binary32

/-- A value that a format's bits stand for: a finite value is ± m × 2^e. -/
inductive FVal where
  | nan (signaling : Bool)
  | inf (neg : Bool)
  | fin (neg : Bool) (m : Nat) (e : Int)
  deriving DecidableEq, Repr

/-- Sticky flags of VEW as a mask in VEW's bit positions (04 R129): IX [8], ZD [9], UN [10], OV [11], IV [12]. -/
def flagIX : BitVec 32 := 0x100
/-- Division by zero (04 R129). -/
def flagZD : BitVec 32 := 0x200
/-- Underflow (04 R129). -/
def flagUN : BitVec 32 := 0x400
/-- Overflow (04 R129). -/
def flagOV : BitVec 32 := 0x800
/-- Invalid operation (04 R129). -/
def flagIV : BitVec 32 := 0x1000

/-- A result: its bits and the flags it sets. -/
abbrev FRes := Nat × BitVec 32

/-- Number of bits of m, 0 for 0. -/
def bitLen (m : Nat) : Nat := if m = 0 then 0 else m.log2 + 1

/-- The bias of a format. -/
def fBias (f : FloatFmt) : Nat := 2 ^ (f.ebits - 1) - 1

/-- The exponent of the last place of a subnormal. -/
def fQmin (f : FloatFmt) : Int := 1 - (fBias f : Int) - (f.mbits : Int)

/-- The value of a bit pattern. -/
def fUnpack (f : FloatFmt) (x : Nat) : FVal :=
  let frac := x % 2 ^ f.mbits
  let ex := (x / 2 ^ f.mbits) % 2 ^ f.ebits
  let neg := (x / 2 ^ (f.mbits + f.ebits)) % 2 = 1
  if ex = 2 ^ f.ebits - 1 then
    if frac = 0 then .inf neg else .nan (frac / 2 ^ (f.mbits - 1) = 0)
  else if ex = 0 then .fin neg frac (fQmin f)
  else .fin neg (frac + 2 ^ f.mbits) (fQmin f + (ex : Int) - 1)

/-- The sign bit of a format, as a number. -/
def fSign (f : FloatFmt) (neg : Bool) : Nat := if neg then 2 ^ (f.mbits + f.ebits) else 0

/-- The one NaN that is ever a result: positive, quiet, zero payload (04 R143). -/
def fNaN (f : FloatFmt) : Nat := (2 ^ f.ebits - 1) * 2 ^ f.mbits + 2 ^ (f.mbits - 1)

/-- An infinity. -/
def fInf (f : FloatFmt) (neg : Bool) : Nat := fSign f neg + (2 ^ f.ebits - 1) * 2 ^ f.mbits

/-- A zero. -/
def fZero (f : FloatFmt) (neg : Bool) : Nat := fSign f neg

/-- The finite value of greatest magnitude. -/
def fMaxFin (f : FloatFmt) (neg : Bool) : Nat := fSign f neg + (2 ^ f.ebits - 1) * 2 ^ f.mbits - 1

/-- Whether a rounding of magnitude q, with remainder r of 2^k and further nonzero bits iff sticky, steps away from zero.
Rounding modes follow FRM (04 R129): 0 nearest even, 1 toward −∞, 2 toward +∞, 3 toward zero. -/
def roundUp (frm : Nat) (neg : Bool) (q r k : Nat) (sticky : Bool) : Bool :=
  let exact := r = 0 && !sticky
  if exact then false
  else if frm = 0 then
    if k = 0 then false
    else 2 * r > 2 ^ k || (2 * r = 2 ^ k && (sticky || q % 2 = 1))
  else if frm = 1 then neg
  else if frm = 2 then !neg
  else false

/-- m × 2^e, with a further nonzero part below the last bit of m iff sticky, rounded once with an unbounded exponent range to mbits + 1 bits: the exponent of its leading bit.
It serves the detection of tininess after rounding. -/
def roundedTop (f : FloatFmt) (frm : Nat) (neg : Bool) (m : Nat) (e : Int) (sticky : Bool) : Int :=
  let len := bitLen m
  if len ≤ f.mbits + 1 then e + (len : Int) - 1
  else
    let k := len - (f.mbits + 1)
    let q := m / 2 ^ k
    let q' := if roundUp frm neg q (m % 2 ^ k) k sticky then q + 1 else q
    e + (k : Int) + (bitLen q' : Int) - 1

/-- Rounds ± m × 2^e to the format, with a nonzero part below the last bit of m iff sticky; m is nonzero, and has at least mbits + 3 bits when sticky. -/
def fRound (f : FloatFmt) (frm : Nat) (neg : Bool) (m : Nat) (e : Int) (sticky : Bool) : FRes :=
  if m = 0 && !sticky then (fZero f neg, 0) else
  let len := bitLen m
  let qmin := fQmin f
  let qn := e + (len : Int) - ((f.mbits : Int) + 1)
  let q := if qn < qmin then qmin else qn
  let k := (q - e).toNat
  let lift := (e - q).toNat
  let mant := if q ≤ e then m * 2 ^ lift else m / 2 ^ k
  let rem := if q ≤ e then 0 else m % 2 ^ k
  let k' := if q ≤ e then 0 else k
  let up := roundUp frm neg mant rem k' sticky
  let inexact := rem ≠ 0 || sticky
  let mant1 := if up then mant + 1 else mant
  let carry := mant1 = 2 ^ (f.mbits + 1)
  let mant2 := if carry then 2 ^ f.mbits else mant1
  let q2 := if carry then q + 1 else q
  let ex : Nat := if mant2 < 2 ^ f.mbits then 0 else (q2 - qmin + 1).toNat
  let emin : Int := 1 - (fBias f : Int)
  let tinyBefore := e + (len : Int) - 1 < emin
  let tinyAfter := roundedTop f frm neg m e sticky < emin
  let tiny := if !tinyBefore then false else if tinyAfter then true else Config.tinyBeforeRounding
  if ex ≥ 2 ^ f.ebits - 1 then
    let toInf := frm = 0 || (frm = 1 && neg) || (frm = 2 && !neg)
    (if toInf then fInf f neg else fMaxFin f neg, flagOV ||| flagIX)
  else
    (fSign f neg + ex * 2 ^ f.mbits + (mant2 % 2 ^ f.mbits),
      if inexact then (if tiny then flagUN ||| flagIX else flagIX) else 0)

/-- The flag a NaN operand sets: IV for a signaling NaN. -/
def nanFlag : FVal → BitVec 32
  | .nan true => flagIV
  | _ => 0

/-- Whether a value is a NaN. -/
def isNan : FVal → Bool
  | .nan _ => true
  | _ => false

/-- The exact sum of two finite values, as a signed integer multiple of a power of two. -/
def exactSum (n1 : Bool) (m1 : Nat) (e1 : Int) (n2 : Bool) (m2 : Nat) (e2 : Int) : Int × Int :=
  let e := if e1 ≤ e2 then e1 else e2
  let v1 : Int := (m1 * 2 ^ (e1 - e).toNat : Nat)
  let v2 : Int := (m2 * 2 ^ (e2 - e).toNat : Nat)
  ((if n1 then -v1 else v1) + (if n2 then -v2 else v2), e)

/-- The sum of two finite values, rounded once; an exact zero is −0 when rounding is toward −∞ and +0 otherwise, and two zeros of one sign keep it. -/
def finSum (f : FloatFmt) (frm : Nat) (n1 : Bool) (m1 : Nat) (e1 : Int) (n2 : Bool) (m2 : Nat) (e2 : Int) : FRes :=
  let s := exactSum n1 m1 e1 n2 m2 e2
  if s.1 = 0 then
    (fZero f (if n1 = n2 && m1 = 0 && m2 = 0 then n1 else frm = 1), 0)
  else fRound f frm (s.1 < 0) s.1.natAbs s.2 false

/-- a + b on unpacked values. -/
def vAdd (f : FloatFmt) (frm : Nat) (a b : FVal) : FRes :=
  match a, b with
  | .nan _, _ => (fNaN f, nanFlag a ||| nanFlag b)
  | _, .nan _ => (fNaN f, nanFlag b)
  | .inf x, .inf y => if x = y then (fInf f x, 0) else (fNaN f, flagIV)
  | .inf x, .fin .. => (fInf f x, 0)
  | .fin .., .inf y => (fInf f y, 0)
  | .fin n1 m1 e1, .fin n2 m2 e2 => finSum f frm n1 m1 e1 n2 m2 e2

/-- The value with its sign inverted; a NaN stays. -/
def vNeg : FVal → FVal
  | .nan b => .nan b
  | .inf n => .inf (!n)
  | .fin n m e => .fin (!n) m e

/-- Rounded addition (04 R143). -/
def fAdd (f : FloatFmt) (frm : Nat) (x y : Nat) : FRes := vAdd f frm (fUnpack f x) (fUnpack f y)
/-- Rounded subtraction x − y (04 R143). -/
def fSub (f : FloatFmt) (frm : Nat) (x y : Nat) : FRes := vAdd f frm (fUnpack f x) (vNeg (fUnpack f y))

/-- Rounded multiplication (04 R143). -/
def fMul (f : FloatFmt) (frm : Nat) (x y : Nat) : FRes :=
  let a := fUnpack f x
  let b := fUnpack f y
  match a, b with
  | .nan _, _ => (fNaN f, nanFlag a ||| nanFlag b)
  | _, .nan _ => (fNaN f, nanFlag b)
  | .inf p, .inf q => (fInf f (p != q), 0)
  | .inf p, .fin q m _ => if m = 0 then (fNaN f, flagIV) else (fInf f (p != q), 0)
  | .fin p m _, .inf q => if m = 0 then (fNaN f, flagIV) else (fInf f (p != q), 0)
  | .fin p m1 e1, .fin q m2 e2 =>
    if m1 = 0 || m2 = 0 then (fZero f (p != q), 0)
    else fRound f frm (p != q) (m1 * m2) (e1 + e2) false

/-- a × b + c on unpacked values, the product exact, rounded once to f (04 R143). -/
def vFma (f : FloatFmt) (frm : Nat) (a b c : FVal) : FRes :=
  let nf := nanFlag a ||| nanFlag b ||| nanFlag c
  let zeroInf : Bool := match a, b with
    | .inf _, .fin _ 0 _ => true
    | .fin _ 0 _, .inf _ => true
    | _, _ => false
  if isNan a || isNan b then (fNaN f, nf)
  else if zeroInf then
    (fNaN f, match c with
      | .nan true => flagIV
      | .nan false => if Config.fmaNanInvalid then flagIV else 0
      | _ => flagIV)
  else if isNan c then (fNaN f, nf)
  else match a, b, c with
  | .fin p m1 e1, .fin q m2 e2, .fin r m3 e3 => finSum f frm (p != q) (m1 * m2) (e1 + e2) r m3 e3
  | .fin .., .fin .., .inf r => (fInf f r, 0)
  | .inf p, .fin q _ _, .inf r => if (p != q) = r then (fInf f r, 0) else (fNaN f, flagIV)
  | .fin p _ _, .inf q, .inf r => if (p != q) = r then (fInf f r, 0) else (fNaN f, flagIV)
  | .inf p, .inf q, .inf r => if (p != q) = r then (fInf f r, 0) else (fNaN f, flagIV)
  | .inf p, .fin q _ _, _ => (fInf f (p != q), 0)
  | .fin p _ _, .inf q, _ => (fInf f (p != q), 0)
  | .inf p, .inf q, _ => (fInf f (p != q), 0)
  | _, _, _ => (fNaN f, nf)

/-- Fused multiply-add x × y + z (04 R143). -/
def fFma (f : FloatFmt) (frm : Nat) (x y z : Nat) : FRes := vFma f frm (fUnpack f x) (fUnpack f y) (fUnpack f z)
/-- − x × y − z, rounded once: the ef.nmla of 04 R164 with z = vd. -/
def fNegFma (f : FloatFmt) (frm : Nat) (x y z : Nat) : FRes :=
  vFma f frm (vNeg (fUnpack f x)) (fUnpack f y) (vNeg (fUnpack f z))
/-- z − x × y, rounded once: the ef.mls of 04 R164 with z = vd. -/
def fMls (f : FloatFmt) (frm : Nat) (x y z : Nat) : FRes :=
  vFma f frm (vNeg (fUnpack f x)) (fUnpack f y) (fUnpack f z)

/-- Rounded division x ÷ y (04 R143). -/
def fDiv (f : FloatFmt) (frm : Nat) (x y : Nat) : FRes :=
  let a := fUnpack f x
  let b := fUnpack f y
  match a, b with
  | .nan _, _ => (fNaN f, nanFlag a ||| nanFlag b)
  | _, .nan _ => (fNaN f, nanFlag b)
  | .inf _, .inf _ => (fNaN f, flagIV)
  | .inf p, .fin q _ _ => (fInf f (p != q), 0)
  | .fin p _ _, .inf q => (fZero f (p != q), 0)
  | .fin p m1 e1, .fin q m2 e2 =>
    if m2 = 0 then (if m1 = 0 then (fNaN f, flagIV) else (fInf f (p != q), flagZD))
    else if m1 = 0 then (fZero f (p != q), 0)
    else
      let k := f.mbits + 4 + bitLen m2
      let n := m1 * 2 ^ k
      fRound f frm (p != q) (n / m2) (e1 - e2 - (k : Int)) (n % m2 ≠ 0)

/-- floor of the square root of m, one result bit for each unit of fuel. -/
def isqrtAux (m : Nat) : Nat → Nat → Nat
  | 0, r => r
  | b + 1, r =>
    let r' := r + 2 ^ b
    isqrtAux m b (if r' * r' ≤ m then r' else r)

/-- floor of the square root of m. -/
def isqrt (m : Nat) : Nat := isqrtAux m ((bitLen m + 1) / 2) 0

/-- Rounded square root (04 R143). -/
def fSqrt (f : FloatFmt) (frm : Nat) (x : Nat) : FRes :=
  match fUnpack f x with
  | .nan b => (fNaN f, nanFlag (.nan b))
  | .inf neg => if neg then (fNaN f, flagIV) else (fInf f false, 0)
  | .fin neg m e =>
    if m = 0 then (fZero f neg, 0)
    else if neg then (fNaN f, flagIV)
    else
      let k := 2 * (f.mbits + 4) + (if e % 2 = 0 then 0 else 1)
      let n := m * 2 ^ k
      let r := isqrt n
      fRound f frm false r ((e - (k : Int)) / 2) (r * r ≠ n)

/-- Order of two unpacked values that are not NaN: a < b. With zeroSigned, −0 is below +0 (04 R143, ef.min and ef.max). -/
def vLt (zeroSigned : Bool) (a b : FVal) : Bool :=
  match a, b with
  | .inf n, .inf k => n && !k
  | .inf n, .fin .. => n
  | .fin .., .inf k => !k
  | .fin n1 m1 e1, .fin n2 m2 e2 =>
    if m1 = 0 && m2 = 0 then zeroSigned && n1 && !n2
    else (exactSum n1 m1 e1 (!n2) m2 e2).1 < 0
  | _, _ => false

/-- Minimum: the other operand when one is NaN, −0 below +0 (04 R143). -/
def fMin (f : FloatFmt) (x y : Nat) : FRes :=
  let a := fUnpack f x
  let b := fUnpack f y
  let fl := nanFlag a ||| nanFlag b
  if isNan a && isNan b then (fNaN f, fl) else if isNan a then (y, fl) else if isNan b then (x, fl)
  else (if vLt true b a then y else x, fl)

/-- Maximum: the other operand when one is NaN, −0 below +0 (04 R143). -/
def fMax (f : FloatFmt) (x y : Nat) : FRes :=
  let a := fUnpack f x
  let b := fUnpack f y
  let fl := nanFlag a ||| nanFlag b
  if isNan a && isNan b then (fNaN f, fl) else if isNan a then (y, fl) else if isNan b then (x, fl)
  else (if vLt true a b then y else x, fl)

/-- Equality, quiet: only a signaling NaN sets IV. -/
def fEq (f : FloatFmt) (x y : Nat) : Bool × BitVec 32 :=
  let a := fUnpack f x
  let b := fUnpack f y
  (!(isNan a || isNan b) && !vLt false a b && !vLt false b a, nanFlag a ||| nanFlag b)

/-- Less-than, signaling: a NaN sets IV (the compare that IEEE 754-2019 binds to <). -/
def fLt (f : FloatFmt) (x y : Nat) : Bool × BitVec 32 :=
  let a := fUnpack f x
  let b := fUnpack f y
  if isNan a || isNan b then (false, flagIV) else (vLt false a b, 0)

/-- Less-or-equal, signaling: a NaN sets IV. -/
def fLe (f : FloatFmt) (x y : Nat) : Bool × BitVec 32 :=
  let a := fUnpack f x
  let b := fUnpack f y
  if isNan a || isNan b then (false, flagIV) else (!vLt false b a, 0)

/-- The magnitude of x with the given sign; a NaN result is the canonical one (04 R143, R164). -/
def fWithSign (f : FloatFmt) (x : Nat) (neg : Bool) : Nat :=
  if isNan (fUnpack f x) then fNaN f else fSign f neg + x % 2 ^ (f.mbits + f.ebits)

/-- The sign bit of a bit pattern. -/
def fNegBit (f : FloatFmt) (x : Nat) : Bool := (x / 2 ^ (f.mbits + f.ebits)) % 2 = 1

/-- An integer rounded to the format (04 R164). -/
def fOfInt (f : FloatFmt) (frm : Nat) (v : Int) : FRes :=
  if v = 0 then (0, 0) else fRound f frm (v < 0) v.natAbs 0 false

/-- A value rounded by FRM to an integer, exact or not; none for NaN and infinities. -/
def vToInt (frm : Nat) (neg : Bool) (m : Nat) (e : Int) : Int × Bool :=
  if 0 ≤ e then
    let v : Int := (m * 2 ^ e.toNat : Nat)
    (if neg then -v else v, false)
  else
    let k := (-e).toNat
    let q := m / 2 ^ k
    let r := m % 2 ^ k
    let q' : Int := ((if roundUp frm neg q r k false then q + 1 else q : Nat) : Int)
    (if neg then -q' else q', r ≠ 0)

/-- Conversion to an integer in lo..hi: rounds by FRM and saturates, a NaN gives 0, and both set IV (04 R143). -/
def fToInt (f : FloatFmt) (frm : Nat) (lo hi : Int) (x : Nat) : Int × BitVec 32 :=
  match fUnpack f x with
  | .nan _ => (0, flagIV)
  | .inf neg => (if neg then lo else hi, flagIV)
  | .fin neg m e =>
    let r := vToInt frm neg m e
    if r.1 < lo then (lo, flagIV) else if hi < r.1 then (hi, flagIV)
    else (r.1, if r.2 then flagIX else 0)

/-- Conversion between formats, rounded once (04 R164, wf.cvt and nf.cvt). -/
def fConvert (src dst : FloatFmt) (frm : Nat) (x : Nat) : FRes :=
  match fUnpack src x with
  | .nan b => (fNaN dst, nanFlag (.nan b))
  | .inf n => (fInf dst n, 0)
  | .fin n m e => if m = 0 then (fZero dst n, 0) else fRound dst frm n m e false

end Sys2Proof.Machine
end

