-- ==== Sys2Proof/Machine/ArrayMath.lean ====
section
/-! DEFINITION. The arithmetic of the Sward array: descriptor fields, formats, products, scale blocks, window coordinates, drain, layer digest, range monitors and crop-and-resize (05, 06, 07). -/

namespace Sys2Proof.Machine

/-- Bits [hi:lo] of an array descriptor (05 R179). -/
def dField (d : BitVec 1024) (hi lo : Nat) : Nat := field hi lo d.toNat

/-- W_FMT (05 R179): 0 INT8, 1 E4M3, 2 E5M2, 3 CODE4, 4 CODE3. -/
def dWFmt (d : BitVec 1024) : Nat := dField d 59 57
/-- A_FMT (05 R179): 0 INT8, 1 UINT8, 2 E4M3, 3 E5M2, 4 INT16. -/
def dAFmt (d : BitVec 1024) : Nat := dField d 56 54
/-- KIND (05 R179). -/
def dKind (d : BitVec 1024) : Nat := dField d 63 60
/-- Whether the weights are codes. -/
def dCode (d : BitVec 1024) : Bool := dWFmt d = 3 || dWFmt d = 4
/-- K_TOTAL (05 R179). -/
def dKTotal (d : BitVec 1024) : Nat := dField d 127 112
/-- M_COUNT (05 R179). -/
def dMCount (d : BitVec 1024) : Nat := dField d 111 104
/-- N_COLS (05 R179). -/
def dNCols (d : BitVec 1024) : Nat := dField d 103 95
/-- KH (05 R179). -/
def dKH (d : BitVec 1024) : Nat := dField d 191 188
/-- KW (05 R179). -/
def dKW (d : BitVec 1024) : Nat := dField d 187 184
/-- ACC_SET (05 R179). -/
def dAccSet (d : BitVec 1024) : Fin 2 := if bitAt 44 d.toNat then 1 else 0
/-- DRAIN (05 R179). -/
def dDrain (d : BitVec 1024) : Bool := bitAt 42 d.toNat
/-- OUT_FMT (05 R179). -/
def dOutFmt (d : BitVec 1024) : Nat := dField d 41 39
/-- OUT_DEST (05 R179): true is the vector operand buffer. -/
def dOutVob (d : BitVec 1024) : Bool := bitAt 38 d.toNat
/-- IRQ (05 R179). -/
def dIrq (d : BitVec 1024) : Bool := bitAt 33 d.toNat
/-- DIGEST_EN (05 R179). -/
def dDigestEn (d : BitVec 1024) : Bool := bitAt 32 d.toNat
/-- GROUP_SIZE (05 R179). -/
def dGroup (d : BitVec 1024) : Nat := dField d 52 45
/-- X_BASE, signed (05 R170). -/
def dXBase (d : BitVec 1024) : Int := signedOf 8 (dField d 31 24)
/-- W_ADDR (05 R179). -/
def dWAddr (d : BitVec 1024) : Nat := dField d 383 366
/-- S_ADDR (05 R179). -/
def dSAddr (d : BitVec 1024) : Nat := dField d 365 348
/-- GRID_ADDR (05 R179). -/
def dGridAddr (d : BitVec 1024) : Nat := dField d 347 330
/-- IN_W (05 R179). -/
def dInW (d : BitVec 1024) : Nat := dField d 255 240
/-- IN_H (05 R179). -/
def dInH (d : BitVec 1024) : Nat := dField d 239 224

/-- The pair of formats is one of 05 R166. -/
def dPairOk (d : BitVec 1024) : Bool :=
  let w := dWFmt d
  let a := dAFmt d
  if w = 0 then a = 0 || a = 1 || a = 4
  else if w = 1 || w = 2 then a = 2 || a = 3
  else if w = 3 || w = 4 then a ≤ 4
  else false

/-- The columns of the pair (05 R166). -/
def dColumns (d : BitVec 1024) : Nat := if dCode d then 256 else 128
/-- c, the tile cycles per entry (05 R166). -/
def dC (d : BitVec 1024) : Nat := if dWFmt d = 1 || dWFmt d = 2 then 2 else 1
/-- s, the slices per reduction block (05 R166). -/
def dS (d : BitVec 1024) : Nat := if dAFmt d = 4 then 2 else 1
/-- The exponent of a format's unit (05 R167). -/
def unitExp (e4 e5 : Bool) : Int := if e4 then -9 else if e5 then -16 else 0
/-- P, the exponent of one product unit (05 R166). -/
def dP (d : BitVec 1024) : Int :=
  unitExp (dWFmt d = 1) (dWFmt d = 2) + unitExp (dAFmt d = 2) (dAFmt d = 3)
/-- Bytes of a weight block (05 R174). -/
def dBlockBytes (d : BitVec 1024) : Nat := if dWFmt d = 4 then 12288 else 16384
/-- Lw, the tile cycles of a weight load (05 R174). -/
def dLw (d : BitVec 1024) : Nat := dBlockBytes d / 256
/-- Bytes of a scale block (06 R203). -/
def dScaleBytes (d : BitVec 1024) : Nat := if dCode d then 16 + 512 * (128 / dGroup d) else 0
/-- Bytes of one activation sample: 1, or 2 for INT16 (05 R180). -/
def dASize (d : BitVec 1024) : Nat := if dAFmt d = 4 then 2 else 1
/-- Bytes of one output (05 R187). -/
def dOutSize (d : BitVec 1024) : Nat := if dOutFmt d = 0 then 4 else if dOutFmt d = 1 || dOutFmt d = 6 then 2 else 1
/-- e, the entry cycles per span (05 R182). -/
def dE (d : BitVec 1024) : Nat := dS d * dMCount d * dC d
/-- span (05 R182). -/
def dSpan (d : BitVec 1024) : Nat := max (dE d) (dLw d)
/-- n_sp (05 R182). -/
def dNSpans (d : BitVec 1024) : Nat := ceilDiv (dKTotal d) 128 * dKH d * dKW d
/-- nd, the drain read cycles (05 R182). -/
def dNd (d : BitVec 1024) : Nat := dMCount d * ceilDiv (dNCols d) 128

/-- N_BOXES of a KIND 1 descriptor (07 R234). -/
def dBoxes (d : BitVec 1024) : Nat := dField d 205 193
/-- OW (07 R234). -/
def dOW (d : BitVec 1024) : Nat := dField d 192 185
/-- OH (07 R234). -/
def dOH (d : BitVec 1024) : Nat := dField d 184 177
/-- BOX_ADDR (07 R234). -/
def dBoxAddr (d : BitVec 1024) : Nat := dField d 223 206
/-- c1: four neighbours read one byte per tile cycle (07 R241). -/
def dC1 (d : BitVec 1024) : Nat := 4 * dASize d
/-- len, the cycles of one box without SKIP (07 R241). -/
def dBoxLen (d : BitVec 1024) : Nat := ceilDiv (dKTotal d) 128 * dOW d * dOH d * dC1 d

/-- Whether a valid descriptor is empty (05 R198, 07 R247). -/
def dEmpty (d : BitVec 1024) : Bool :=
  if dKind d = 0 then
    dKTotal d = 0 || dMCount d = 0 || dNCols d = 0 || dKH d = 0 || dKW d = 0 || dInW d = 0 || dInH d = 0
  else dKTotal d = 0 || dBoxes d = 0 || dOW d = 0 || dOH d = 0 || dInW d = 0 || dInH d = 0

/-- An E4M3 byte as an integer in units of 2^−9; none when NaN (05 R167). -/
def e4m3Int (b : Nat) : Option Int :=
  let e := field 6 3 b
  let m := field 2 0 b
  if e = 15 && m = 7 then none
  else
    let v : Int := if e = 0 then (m : Int) else ((8 + m) * 2 ^ (e - 1) : Nat)
    some (if bitAt 7 b then -v else v)

/-- An E5M2 byte as an integer in units of 2^−16; none when infinite or NaN (05 R167). -/
def e5m2Int (b : Nat) : Option Int :=
  let e := field 6 2 b
  let m := field 1 0 b
  if e = 31 then none
  else
    let v : Int := if e = 0 then (m : Int) else ((4 + m) * 2 ^ (e - 1) : Nat)
    some (if bitAt 7 b then -v else v)

/-- An activation byte as its row enters it, with the slice of an INT16 sample (05 R167, R169). -/
def actInt (afmt slice : Nat) (bytes : List Byte) : Option Int :=
  let b0 := (bytes.getD 0 0).toNat
  let b1 := (bytes.getD 1 0).toNat
  if afmt = 0 then some (signedOf 8 b0)
  else if afmt = 1 then some (b0 : Int)
  else if afmt = 2 then e4m3Int b0
  else if afmt = 3 then e5m2Int b0
  else if slice = 0 then some (b0 : Int)
  else some (signedOf 8 b1)

/-- The bytes that PAD_VALUE or BORDER_VALUE stand for (07 R230). -/
def padBytes (afmt v : Nat) : List Byte :=
  if afmt = 4 then leBytes 2 (wrapTo 16 (signedOf 8 v)) else leBytes 1 v

/-- The entries of a row's grid: the loaded grid, or the uniform values (05 R168, 06 R200). -/
def gridValue (d : BitVec 1024) (grid : List Byte) (code : Nat) : Int :=
  if bitAt 53 d.toNat then signedOf 8 (grid.getD code 0).toNat
  else signedOf (if dWFmt d = 3 then 4 else 3) code

/-- The code of logical column j in the bytes of a row (06 R199). -/
def rowCode (d : BitVec 1024) (row : List Byte) (j : Nat) : Nat :=
  let w := if dWFmt d = 3 then 4 else 3
  let bit := w * j
  (leNat ((row.drop (bit / 8)).take 2)) / 2 ^ (bit % 8) % 2 ^ w

/-- Bytes of one row of a weight block (06 R199; for the formats without codes DEDUCED: notes/assumptions/16.md). -/
def dRowBytes (d : BitVec 1024) : Nat := if dWFmt d = 4 then 96 else 128

/-- The weight of column n in the bytes of a row; none when invalid (05 R167, R168). -/
def rowWeight (d : BitVec 1024) (grid row : List Byte) (n : Nat) : Option Int :=
  if dCode d then some (gridValue d grid (rowCode d row n))
  else
    let b := (row.getD n 0).toNat
    if dWFmt d = 0 then some (signedOf 8 b) else if dWFmt d = 1 then e4m3Int b else e5m2Int b

/-- The rows of a weight block. -/
def blockRows (rb : Nat) : Nat → List Byte → List (List Byte)
  | 0, _ => []
  | n + 1, bs => bs.take rb :: blockRows rb n (bs.drop rb)

/-- The entry (g, n) of a scale block: q and d (06 R203). -/
def scaleEntry (scales : List Byte) (g n : Nat) : Nat × Nat :=
  let e := leAt scales (16 + 2 * (256 * g + n)) 2
  (e % 256, e / 256)

/-- A column's sum over rows: the products that are valid, and whether one was invalid (05 R167, R171). -/
def groupSum (d : BitVec 1024) (grid : List Byte) (n : Nat) : List (List Byte) → List (Option Int) → Int × Bool
  | row :: rs, a :: as =>
    let r := groupSum d grid n rs as
    match rowWeight d grid row n, a with
    | some w, some v => (r.1 + w * v, r.2)
    | _, _ => (r.1, true)
  | _, _ => (0, false)

/-- The group terms of a column from group g on, each G × q × 2^d (05 R171). -/
def columnGroups (d : BitVec 1024) (grid scales : List Byte) (n : Nat) : Nat → Nat → List (List Byte) → List (Option Int) → Int × Bool
  | 0, _, _, _ => (0, false)
  | k + 1, g, rows, acts =>
    let gs := dGroup d
    let t := groupSum d grid n (rows.take gs) (acts.take gs)
    let e := scaleEntry scales g n
    let r := columnGroups d grid scales n k (g + 1) (rows.drop gs) (acts.drop gs)
    (t.1 * e.1 * ((2 ^ e.2 : Nat) : Int) + r.1, t.2 || r.2)

/-- What one entry adds to the accumulator of column n, before the slice's shift (05 R169, R171). -/
def columnTerm (d : BitVec 1024) (grid scales : List Byte) (rows : List (List Byte)) (acts : List (Option Int)) (n : Nat) : Int × Bool :=
  if dCode d then columnGroups d grid scales n (128 / dGroup d) 0 rows acts
  else groupSum d grid n rows acts

/-- The terms of all columns of one entry; slice 1 of an INT16 sample counts 2^8 (05 R169). -/
def entryTerms (d : BitVec 1024) (grid scales weights : List Byte) (slice : Nat) (acts : List (Option Int)) : List (Int × Bool) :=
  let rows := blockRows (dRowBytes d) 128 weights
  (List.range (dNCols d)).map fun n =>
    let t := columnTerm d grid scales rows acts n
    (if slice = 1 then t.1 * 256 else t.1, t.2)

/-- fold of 07 R229: mirrors about the edge sample without repeating it. -/
def foldCoord (c : Int) (w : Nat) : Nat :=
  if w = 1 then 0
  else
    let p := 2 * ((w : Int) - 1)
    let r := c % p
    if r < w then r.toNat else (p - r).toNat

/-- A coordinate clamped to 0..w − 1. -/
def clampCoord (c : Int) (w : Nat) : Nat := if c < 0 then 0 else if (w : Int) ≤ c then w - 1 else c.toNat

/-- x of the sample of position m and tap tx (07 R227). -/
def winX (d : BitVec 1024) (m tx : Nat) : Int :=
  signedOf 16 (dField d 223 208) + m * dField d 179 176 + tx * dField d 167 160
/-- y of the sample of tap ty (07 R227). -/
def winY (d : BitVec 1024) (ty : Nat) : Int :=
  signedOf 16 (dField d 207 192) + ty * dField d 175 168

/-- The bank-local offset of the sample at (x, y) of channel block cb (07 R228). -/
def winOffset (d : BitVec 1024) (cb : Nat) (x y : Int) : Nat :=
  (((dField d 319 304 + cb * dField d 303 288 : Nat) : Int) + (y - signedOf 16 (dField d 207 192)) * dField d 287 272
    + (x - signedOf 16 (dField d 223 208)) * dASize d) % 65536 |>.toNat

/-- Where the sample of (cb, ty, tx, m) comes from: a bank offset, or the pad bytes (07 R229). -/
def winSample (d : BitVec 1024) (cb ty tx m : Nat) : Nat ⊕ List Byte :=
  let x := winX d m tx
  let y := winY d ty
  let inPlane := 0 ≤ x && x < dInW d && 0 ≤ y && y < dInH d
  let mode := dField d 159 158
  if inPlane then .inl (winOffset d cb x y)
  else if mode = 0 then .inr (padBytes (dAFmt d) 0)
  else if mode = 1 then .inr (padBytes (dAFmt d) (dField d 157 150))
  else if mode = 2 then .inl (winOffset d cb (clampCoord x (dInW d)) (clampCoord y (dInH d)))
  else .inl (winOffset d cb (foldCoord x (dInW d)) (foldCoord y (dInH d)))

/-- Span j of a KIND 0 descriptor: (cb, ty, tx) in the order of 05 R180. -/
def spanTap (d : BitVec 1024) (j : Nat) : Nat × Nat × Nat :=
  let per := dKH d * dKW d
  (j / per, j % per / dKW d, j % dKW d)

/-- The address of output (m, n) in its buffer: in the activation buffer bank × 2,048 + offset (05 R187). -/
def outAddr (d : BitVec 1024) (m n : Nat) : Nat :=
  if dOutVob d then dField d 575 560 + n * dField d 559 544 + m * dOutSize d
  else n % 128 * 2048 + dField d 575 560 + n / 128 * dField d 559 544 + m * dOutSize d

/-- Every output of the descriptor lies in its buffer or bank (05 R178). -/
def outExtentOk (d : BitVec 1024) : Bool :=
  let last := (dMCount d - 1) * dOutSize d + dOutSize d
  if dOutVob d then dField d 575 560 + (dNCols d - 1) * dField d 559 544 + last ≤ 65536
  else dField d 575 560 + (dNCols d - 1) / 128 * dField d 559 544 + last ≤ 2048

/-- Every bank offset that a KIND 0 descriptor reads lies in 0..2,048 − size (07 R228). -/
def actExtentOk (d : BitVec 1024) : Bool :=
  (List.range (dNSpans d)).all fun j =>
    let t := spanTap d j
    (List.range (dMCount d)).all fun m =>
      match winSample d t.1 t.2.1 t.2.2 m with
      | .inl off => off + dASize d ≤ 2048
      | .inr _ => true

/-- A binary32 pattern that is a NaN. -/
def isNan32 (x : Nat) : Bool := isNan (fUnpack binary32 x)

/-- The checks of a KIND 0 descriptor: (high bit of the field, the field fails), from the high bit down (05 R178, R179). A check that joins several fields names one of them: a bad pair W_FMT, FP32 or BF16 to the activation buffer OUT_DEST, CLAMP_LO > CLAMP_HI CLAMP_HI, too many positions M_COUNT, an extent the offset it starts at; an extent is judged where the formats that give its size are defined (DESIGN CHOICE, notes/assumptions/51.md). -/
def checks0 (d : BitVec 1024) : List (Nat × Bool) :=
  let dr := dDrain d
  let some_ := !dEmpty d
  let wOk := some_ && dWFmt d ≤ 4
  let aOk := some_ && dAFmt d ≤ 4
  let groupOk := dGroup d = 32 || dGroup d = 64 || dGroup d = 128
  [ (1023, dField d 1023 832 != 0),
    (831, dField d 815 814 ≠ 0 || dField d 791 768 ≠ 0),
    (767, dField d 764 704 != 0),
    (599, dField d 599 576 != 0),
    (575, dr && some_ && dOutFmt d ≠ 7 && !outExtentOk d),
    (543, dField d 543 512 != 0),
    (511, dr && dField d 37 36 = 2 && (isNan32 (dField d 511 480) ||
      (!isNan32 (dField d 479 448) && (fLt binary32 (dField d 511 480) (dField d 479 448)).1))),
    (479, dr && dField d 37 36 = 2 && isNan32 (dField d 479 448)),
    (447, dr && some_ && 65536 < dField d 447 432 + 4 * dNCols d),
    (431, dr && some_ && bitAt 35 d.toNat && 65536 < dField d 431 416 + 4 * dNCols d),
    (415, dr && some_ && bitAt 34 d.toNat && 65536 < dField d 415 400 + 4 * dMCount d),
    (399, dField d 399 384 != 0),
    (383, dWAddr d % 256 ≠ 0 || (wOk && 262144 < dWAddr d + dNSpans d * dBlockBytes d)),
    (365, some_ && dCode d && groupOk && 262144 < dSAddr d + dNSpans d * dScaleBytes d),
    (347, some_ && dCode d && bitAt 53 d.toNat && 262144 < dGridAddr d + (if dWFmt d = 3 then 16 else 8)),
    (329, dField d 329 328 != 0),
    (319, aOk && !actExtentOk d),
    (271, dField d 271 256 != 0),
    (183, dField d 183 180 == 0),
    (179, dField d 179 176 == 0),
    (175, dField d 175 168 == 0),
    (167, dField d 167 160 == 0),
    (149, dField d 149 128 != 0),
    (111, decide (16384 < dMCount d * dColumns d)),
    (103, decide (dColumns d < dNCols d)),
    (94, dField d 94 64 != 0),
    (59, !dPairOk d),
    (53, !dCode d && bitAt 53 d.toNat),
    (52, if dCode d then !groupOk else dGroup d ≠ 0),
    (41, dr && dOutFmt d = 7),
    (38, dr && !dOutVob d && (dOutFmt d = 0 || dOutFmt d = 1)),
    (37, dr && dField d 37 36 = 3),
    (23, dField d 23 0 != 0) ]

/-- The checks of a KIND 1 descriptor (05 R178, 07 R235). -/
def checks1 (d : BitVec 1024) : List (Nat × Bool) :=
  [ (1023, dField d 1023 832 != 0),
    (831, dField d 815 814 ≠ 0 || dField d 791 768 ≠ 0),
    (767, bitAt 767 d.toNat || dField d 764 704 != 0),
    (599, dField d 599 576 != 0),
    (543, dField d 543 512 != 0),
    (399, dField d 399 384 != 0),
    (329, dField d 329 328 != 0),
    (223, dBoxAddr d % 16 ≠ 0 || 262144 < dBoxAddr d + 16 * dBoxes d),
    (205, decide (4096 < dBoxes d)),
    (160, dField d 160 159 == 3),
    (150, dField d 150 128 != 0),
    (94, dField d 94 64 != 0),
    (59, dWFmt d != 0),
    (56, !(dAFmt d = 0 || dAFmt d = 1 || dAFmt d = 4)),
    (53, bitAt 53 d.toNat),
    (52, dGroup d != 0),
    (43, bitAt 43 d.toNat),
    (42, !dDrain d),
    (41, !((dAFmt d = 0 && dOutFmt d = 4) || (dAFmt d = 1 && dOutFmt d = 5) || (dAFmt d = 4 && dOutFmt d = 6))),
    (37, dField d 37 36 != 0),
    (35, bitAt 35 d.toNat),
    (34, bitAt 34 d.toNat),
    (31, dXBase d != 0),
    (23, dField d 23 0 != 0) ]

/-- The checks of any other KIND, of which KIND fails: the fields above it come first, with the layout of KIND 0, but for the checks that are KIND 0's own and for the extents, which such a descriptor does not imply (05 R178, R179). -/
def checksOther (d : BitVec 1024) : List (Nat × Bool) :=
  ((checks0 d).filter fun c => 63 < c.1 && !([575, 447, 431, 415, 383, 365, 347, 319, 183, 179, 175, 167].contains c.1)) ++ [(63, true)]

/-- The first failing field of a descriptor, by its high bit; none when it is valid (05 R178). -/
def arrInvalid (d : BitVec 1024) : Option Nat :=
  let cs := if dKind d = 0 then checks0 d else if dKind d = 1 then checks1 d else checksOther d
  (cs.find? fun c => c.2).map (·.1)

/-- ± m × 2^e rounded to p bits and the quantum 2^qmin, ties to even, with no upper bound: the mantissa and its exponent. -/
def roundTo (p : Nat) (qmin : Int) (m : Nat) (e : Int) : Nat × Int :=
  let qn := e + (bitLen m : Int) - (p : Int)
  let q := if qn < qmin then qmin else qn
  if q ≤ e then (m * 2 ^ (e - q).toNat, q)
  else
    let k := (q - e).toNat
    let mant := m / 2 ^ k
    (if roundUp 0 false mant (m % 2 ^ k) k false then mant + 1 else mant, q)

/-- An FP8 byte of magnitude u units of the format's quantum, with mb fraction bits (05 R167). -/
def fp8Field (mb u : Nat) : Nat :=
  if u < 2 ^ mb then u
  else
    let sh := bitLen u - (mb + 1)
    (sh + 1) * 2 ^ mb + (u / 2 ^ sh - 2 ^ mb)

/-- convert of 05 R186 for a binary32 pattern: the output pattern and whether it is out of range. A NaN gives the NaN of the format and is never out of range. E5M2 has an infinity (05 R167), so ±infinity is in its range and stays the infinity of its sign (DEDUCED, notes/assumptions/51.md). -/
def convertOut (fmt x : Nat) : Nat × Bool :=
  let v := fUnpack binary32 x
  let intLim : Int × Int := if fmt = 4 then (-128, 127) else if fmt = 5 then (0, 255) else (-32768, 32767)
  let w := if fmt = 6 then 16 else 8
  match v with
  | .nan _ => (if fmt = 0 then 0x7FC00000 else if fmt = 1 then 0x7FC0 else if fmt = 2 then 0x7F else if fmt = 3 then 0x7E else 0, false)
  | .inf n =>
    if fmt = 0 then (x, false)
    else if fmt = 1 then (fInf bf16 n, false)
    else if fmt = 2 then ((if n then 0x80 else 0) + 0x7E, true)
    else if fmt = 3 then ((if n then 0x80 else 0) + 0x7C, false)
    else (wrapTo w (if n then intLim.1 else intLim.2), true)
  | .fin n m e =>
    if fmt = 0 then (x, false)
    else if fmt = 1 then
      let r := fRound bf16 0 n m e false
      (r.1, r.2 &&& flagOV ≠ 0)
    else if fmt = 2 || fmt = 3 then
      let p := if fmt = 2 then 4 else 3
      let qmin : Int := if fmt = 2 then -9 else -16
      let lim := if fmt = 2 then 448 * 2 ^ 9 else 57344 * 2 ^ 16
      let r := roundTo p qmin m e
      let u := r.1 * 2 ^ (r.2 - qmin).toNat
      let out := lim < u
      ((if n then 0x80 else 0) + fp8Field (p - 1) (if out then lim else u), out)
    else
      let r := (vToInt 0 n m e).1
      let c := if r < intLim.1 then intLim.1 else if intLim.2 < r then intLim.2 else r
      (wrapTo w c, c ≠ r)

/-- The value that enters convert for an accumulator without invalid tag: binary32 steps in the order of 05 R185. -/
def drainValue (d : BitVec 1024) (a : Int) (s r b : Nat) : Nat :=
  let v0 := (fRound binary32 0 (a < 0) a.natAbs (dP d + dXBase d) false).1
  let v1 := (fMul binary32 0 v0 s).1
  let v2 := if bitAt 34 d.toNat then (fMul binary32 0 v1 r).1 else v1
  let v3 := if bitAt 35 d.toNat then (fAdd binary32 0 v2 b).1 else v2
  let fn := dField d 37 36
  if fn = 1 then (fMax binary32 v3 0).1
  else if fn = 2 then (fMin binary32 (fMax binary32 v3 (dField d 479 448)).1 (dField d 511 480)).1
  else v3

/-- What the drain makes of one accumulator. -/
structure DrainOut where
  /-- bit pattern of the output. -/
  bits : Nat
  /-- binary32 value that entered convert; none from an invalid tag. -/
  value : Option Nat
  /-- counted in SAT. -/
  sat : Bool
  /-- counted in INVALID. -/
  invalid : Bool
  deriving DecidableEq, Repr

/-- One drained output (05 R185, R186). -/
def drainOut (d : BitVec 1024) (a : Int) (inv : Bool) (s r b : Nat) : DrainOut :=
  if inv then { bits := (convertOut (dOutFmt d) 0x7FC00000).1, value := none, sat := false, invalid := true }
  else
    let v := drainValue d a s r b
    let c := convertOut (dOutFmt d) v
    { bits := c.1, value := some v, sat := c.2, invalid := isNan32 v }

/-- h(i, w) of 05 R189. -/
def digestMix (i w : BitVec 64) : BitVec 64 :=
  let x := i * 0x9E3779B97F4A7C15 + w
  let x := (x ^^^ (x >>> 30)) * 0xBF58476D1CE4E5B9
  let x := (x ^^^ (x >>> 27)) * 0x94D049BB133111EB
  x ^^^ (x >>> 31)

/-- h of output (m, n) with index i := IDX_BASE + n × IDX_NSTRIDE + m × IDX_MSTRIDE (05 R189). -/
def outDigest (d : BitVec 1024) (m n bits : Nat) : BitVec 64 :=
  digestMix (BitVec.ofNat 64 (dField d 639 600 + n * dField d 703 672 + m * dField d 671 640)) (BitVec.ofNat 64 bits)

/-- se of 06 R208: the squared error of an integer output in units of 2^−16. -/
def squaredError (cap : Nat) (outOfRange : Bool) (v : Nat) (out : Int) : Nat :=
  if outOfRange then cap
  else match fUnpack binary32 v with
    | .fin n m e =>
      let s := exactSum n m e (0 < out) out.natAbs 0
      let e8 := (vToInt 0 (s.1 < 0) s.1.natAbs (s.2 + 8)).1
      (e8 * e8).natAbs
    | _ => 0

/-- One side of a KIND 1 sample position: coordinate and fraction in 1/256 (07 R238). -/
def cropCoord (p0 p1 u o : Nat) : Int :=
  (p0 : Int) * 16 + ((2 * u + 1 : Nat) * ((p1 : Int) - p0) * 8) / (o : Int) - 128

/-- The bilinear mix of four neighbours, rounded half to even (07 R238). -/
def cropMix (fx fy : Nat) (a00 a10 a01 a11 : Int) : Int :=
  let gx : Int := 256 - fx
  let gy : Int := 256 - fy
  roundConvergent (gy * (gx * a00 + fx * a10) + fy * (gx * a01 + fx * a11)) 16

/-- The bank-local offset of sample (x, y) of plane p, channel block cb (07 R234). -/
def cropOffset (d : BitVec 1024) (cb p x y : Nat) : Nat :=
  (dField d 319 304 + cb * dField d 303 288 + p * dField d 271 256 + y * dField d 287 272 + x * dASize d) % 65536

/-- Where a neighbour comes from: a bank offset, or bytes (07 R239). -/
def cropSample (d : BitVec 1024) (cb p : Nat) (x y : Int) : Nat ⊕ List Byte :=
  let inPlane := 0 ≤ x && x < dInW d && 0 ≤ y && y < dInH d
  let border := dField d 160 159
  if inPlane then .inl (cropOffset d cb p x.toNat y.toNat)
  else if border = 0 then .inr (padBytes (dAFmt d) 0)
  else if border = 1 then .inr (padBytes (dAFmt d) (dField d 158 151))
  else .inl (cropOffset d cb p (clampCoord x (dInW d)) (clampCoord y (dInH d)))

/-- The address of a KIND 1 output (07 R240). -/
def cropAddr (d : BitVec 1024) (slot m n : Nat) : Nat :=
  let base := dField d 575 560 + slot * dField d 176 161
  if dOutVob d then base + n * dField d 559 544 + m * dOutSize d
  else n % 128 * 2048 + base + n / 128 * dField d 559 544 + m * dOutSize d

/-- A box entry passes the checks of 07 R237. -/
def boxOk (d : BitVec 1024) (e : List Byte) : Bool :=
  let flags := leAt e 12 1
  let reservedOk := flags / 2 = 0 && leAt e 13 3 = 0
  let plane := leAt e 8 2
  let slot := leAt e 10 2
  let cbs := ceilDiv (dKTotal d) 128
  let readsOk := (List.range cbs).all fun cb => (List.range (dInH d)).all fun y => (List.range (dInW d)).all fun x =>
    cropOffset d cb plane x y + dASize d ≤ 2048
  let base := dField d 575 560 + slot * dField d 176 161
  let last := dOW d * dOH d * dOutSize d
  let outOk := if dOutVob d then base + (dKTotal d - 1) * dField d 559 544 + last ≤ 65536
    else base + (dKTotal d - 1) / 128 * dField d 559 544 + last ≤ 2048
  reservedOk && (flags % 2 = 1 || (readsOk && outOk))

end Sys2Proof.Machine
end

