-- ==== Sys2Proof/Machine/Net.lean ====
section
/-! DEFINITION. The egress of the Ethernet ports: gates, the order of frames, talker streams, alarm frames and the alarm pins (11 R347 to R351, R357, R358, R363, R367 to R369; 01 R35). -/

namespace Sys2Proof.Machine

open Sys2Proof

/-- An Ethernet port. -/
def ethPort (s : State) (e : Fin 2) : Port := s.eth.port[e]

/-- A port changed. -/
def modPort (s : State) (e : Fin 2) (f : Port → Port) : State :=
  { s with eth := { s.eth with port := s.eth.port.set e.val (f s.eth.port[e]) e.isLt } }

/-- The port may carry frames other than EAPOL (11 R363). -/
def portSecured (s : State) (e : Fin 2) : Bool := !cfgOn s (oMacsecEnable e.val) || (ethPort s e).mka = 2

/-- The port counts as up (11 R363, R368). -/
def portUp (s : State) (e : Fin 2) : Bool := (ethPort s e).link && portSecured s e

/-- Time into the present cycle of the gate list (11 R349). -/
def gclPhase (s : State) (e : Fin 2) : Nat :=
  let g := (ethPort s e).gcl
  if g.cycle_ = 0 then 0 else (((nowNs s : Int) - (g.base : Int)) % (g.cycle_ : Int)).toNat

/-- The entry of a list that a time into the cycle falls in; an entry of interval 0 is skipped (11 R349, R374). -/
def gclEntryAt : List (Nat × Nat) → Nat → Nat → Nat
  | [], _, k => k
  | (_, i) :: r, x, k => if x < i then k else gclEntryAt r (x - i) (k + 1)

/-- How long a class stays open over entries that follow one another: the time to its close, or none when it does not close. -/
def openFor (cls : Nat) : List (Nat × Nat) → Option Nat
  | [] => none
  | (g, i) :: r =>
    if i = 0 || bitAt cls g then (openFor cls r).map (· + i) else some 0

/-- Time until the gate of a class closes; none when it stays open (11 R351). With count 0 every gate is open (11 R349). -/
def gateLeft (s : State) (e : Fin 2) (cls : Nat) : Option Nat :=
  let p := ethPort s e
  if p.gcl.count = 0 then none
  else
    let k := p.gclIdx
    let stop := ((p.gcl.entries.take (k + 1)).map (·.2)).foldl (· + ·) 0
    match p.gcl.entries[k]? with
    | none => none
    | some (g, _) => openFor cls ((g, max 1 (stop - gclPhase s e)) :: p.gcl.entries.drop (k + 1) ++ p.gcl.entries.take k)

/-- The gate of a class is open (11 R349). -/
def gateOpen (s : State) (e : Fin 2) (cls : Nat) : Bool := gateLeft s e cls != some 0

/-- The 12 zero-and-FFFF bytes that lead an IPv4-mapped address. -/
def v4Lead : List Byte := List.replicate 10 0 ++ [0xFF, 0xFF]

/-- An address is IPv4-mapped. -/
def isV4 (a : List Byte) : Bool := a.take 12 = v4Lead

/-- The port's MAC address. -/
def macOf (s : State) (e : Fin 2) : List Byte := slice ((s.part.mac[e.val]?).getD []) 0 6

/-- The port's link-local address, formed from its MAC address (11 R346). -/
def linkLocal (s : State) (e : Fin 2) : List Byte :=
  let m := macOf s e
  [0xFE, 0x80] ++ List.replicate 6 0 ++ [m.getD 0 0 ^^^ 2] ++ slice m 1 2 ++ [0xFF, 0xFE] ++ slice m 3 3

/-- The port's own addresses (11 R346). -/
def ownAddrs (s : State) (e : Fin 2) : List (List Byte) :=
  let v4 := cfgBytes s (oPortIpv4 e.val)
  let v6 := cfgBytes s (oPortIpv6 e.val)
  (if allZero v4 then [] else [v4Lead ++ v4]) ++ (if allZero v6 then [] else [v6]) ++ [linkLocal s e]

/-- The source address of a frame: the one it answers from, or else the port's own of the destination's kind, link-local for a group report and where no global IPv6 address is set (11 R346, R367; DEDUCED, notes/assumptions/53.md). -/
def sourceOf (s : State) (e : Fin 2) (f : EthTx) : List Byte :=
  let v6 := cfgBytes s (oPortIpv6 e.val)
  if !f.src.isEmpty then f.src
  else if f.proto = 1 || 6 ≤ f.proto then macOf s e
  else if isV4 f.dst then v4Lead ++ cfgBytes s (oPortIpv4 e.val)
  else if f.proto = 5 || allZero v6 then linkLocal s e
  else v6

/-- The VLAN tag of a frame: the port's VID with the PCP of its class; none with VID 0, nor on a frame of the verify procedure, which ends at the MAC (11 R348, R360). -/
def vlanTag (s : State) (e : Fin 2) (f : EthTx) : Option (Nat × Nat) :=
  if cfgNat s (oPortVid e.val) = 0 || 8 ≤ f.proto then none
  else some (cfgNat s (oPortVid e.val), field (3 * f.cls) 3 (cfgNat s (oPortPcpMap e.val)))

/-- Length of a frame from destination address to FCS (11 R347, R361, the worked frame after R369). -/
def frameLen (s : State) (e : Fin 2) (f : EthTx) : Nat :=
  let tags := (if (vlanTag s e f).isSome then 4 else 0) + (if f.rtag.isSome then 6 else 0)
    + (if cfgOn s (oMacsecEnable e.val) && f.proto ≠ 6 then 32 else 0)
  let ip := if f.proto = 0 || f.proto = 3 || f.proto = 4 then (if isV4 f.dst then 20 else 40) else if f.proto = 2 || f.proto = 5 then 40 else 0
  let udp := if f.proto = 0 then 8 else 0
  max 64 (14 + tags + ip + udp + f.body.length + 4)

/-- The gate of a frame's class stays open for as long as R351 asks: to the frame's end, or at all for a preemptable frame while preemption is ACTIVE (11 R351). -/
def gateTakes (s : State) (e : Fin 2) (f : EthTx) : Bool :=
  let p := ethPort s e
  match gateLeft s e f.cls with
  | none => true
  | some left => left ≠ 0 && ((f.cls < 6 && p.preempt = 2) || frameLen s e f * 8000 ≤ left * p.speed)

/-- The frame that a port starts next: the first queued of the highest class that both holds a frame and has its gate open. It starts when R351 lets it; until then no lower class goes ahead (11 R348, R351). -/
def nextFrame (s : State) (e : Fin 2) : Option EthTx :=
  ([7, 6, 5, 4, 3, 2, 1, 0].findSome? fun c => if gateOpen s e c then (ethPort s e).queue.find? fun f => f.cls = c else none).filter (gateTakes s e)

/-- Time that a frame holds the wire with its preamble and gap, in tenths of a ns (02 R71; 11 R367, R369). -/
def wireTime (s : State) (e : Fin 2) (f : EthTx) : Nat := (frameLen s e f + 20) * 80000 / max 1 (ethPort s e).speed

/-- When a frame that the MAC takes in the present cycle could have its first bit on the wire: after the 75 tile cycles of MAC, PCS and serialiser, in tenths of a ns (02 R71; DESIGN CHOICE that every class passes them, notes/assumptions/53.md). -/
def macReady (s : State) : Nat := 20 * (s.cycle + 75)

/-- A frame interrupts the preemptable frame in flight (11 R352). -/
def preempts (s : State) (e : Fin 2) (f : EthTx) : Bool := 6 ≤ f.cls && (ethPort s e).preempt = 2 && macReady s < (ethPort s e).wireP

/-- What a preempted frame still holds of the wire: it varies, up to 343 byte times (02 R71; 11 R353). -/
def residue (s : State) (e : Fin 2) : Nat := Config.residue s.cycle e.val % (343 * 80000 / max 1 (ethPort s e).speed + 1)

/-- The wire is free for a frame: no express frame is in flight, and no preemptable one that it must wait for (02 R71; 11 R351, R352). -/
def wireFree (s : State) (e : Fin 2) (f : EthTx) : Bool :=
  (ethPort s e).wireX < macReady s + 20 && (preempts s e f || (ethPort s e).wireP < macReady s + 20)

/-- The first bit of a frame that the MAC takes in the present cycle, in tenths of a ns: after the frame in flight, or after the residue of one that it preempts (02 R71; 11 R353). -/
def frameStart (s : State) (e : Fin 2) (f : EthTx) : Nat :=
  let p := ethPort s e
  if preempts s e f then max p.wireX (min p.wireP (macReady s + residue s e)) else max (macReady s) (max p.wireX p.wireP)

/-- The log entry of a frame that starts now. -/
def sentNow (s : State) (e : Fin 2) (f : EthTx) : Sent :=
  { port := e, frame := f, src := sourceOf s e f, tag := vlanTag s e f, start := frameStart s e f }

/-- A port starts a frame: it leaves the queue and holds the wire; what is left of a frame that it preempts follows it (11 R348, R351, R361). -/
def startFrame (s : State) (e : Fin 2) (f : EthTx) : State :=
  let x := sentNow s e f
  let free := x.start + wireTime s e f
  let s' := modPort s e fun p => { p with
    queue := p.queue.erase f
    wireX := if 6 ≤ f.cls then free else p.wireX
    wireP := if f.cls < 6 then free else if preempts s e f then free + (p.wireP - x.start) else p.wireP
    wireCls := if f.cls < 6 then f.cls else p.wireCls
    pn := if cfgOn s (oMacsecEnable e.val) && (f.proto < 6 || f.proto = 7) then p.pn + 1 else p.pn }
  { s' with tx := x :: s.tx }

/-- A preemptable frame in flight whose gate is closed rests on the wire while preemption is ACTIVE, and goes on when the gate opens again (11 R351). -/
def restFrame (s : State) (e : Fin 2) : State :=
  let p := ethPort s e
  if p.preempt = 2 && macReady s < p.wireP && !gateOpen s e p.wireCls then modPort s e fun p => { p with wireP := p.wireP + 20 } else s

/-- One tile cycle of a port's egress: the next frame starts once the wire is free (02 R71; 11 R348, R351). -/
def portCycle (s : State) (e : Fin 2) : State :=
  let s := restFrame s e
  if (ethPort s e).queue.isEmpty then s
  else match nextFrame s e with
    | none => s
    | some f => if wireFree s e f then startFrame s e f else s

/-- A frame handed to a port: lost where the link is down or R363 holds the port, else it waits in the port's queue for its turn (11 R348, R363). MKA frames pass unprotected, and the frames of the verify procedure end at the MAC. -/
def sendFrame (s : State) (e : Fin 2) (f : EthTx) : State :=
  if (ethPort s e).link && (portSecured s e || f.proto = 6 || f.proto = 8 || f.proto = 9) then
    modPort s e fun p => { p with queue := p.queue ++ [f] }
  else s

/-- The port keeps the promise of R72: its link is up and secured at 10 Gbit/s on 10GBASE-R, or 10GBASE-KR without Clause 74 FEC, with preemption ACTIVE and the class-7 gate open in every entry (02 R72; 11 R344, R353, R363). -/
def wirePromise (s : State) (e : Fin 2) : Bool :=
  let p := ethPort s e
  portUp s e && p.preempt = 2 && p.speed = 10000 && (cfgNat s (oPortMode e.val) = 0 || (cfgNat s (oPortMode e.val) = 1 && !p.fec))
    && p.gcl.entries.all fun x => bitAt 7 x.1

/-- A frame of a talker stream on the ports of a mask. A replicated frame carries one sequence number on both; otherwise each frame takes its own (11 R357, R358). -/
def talkerSend (s : State) (alarm : Bool) (mask cls : Nat) (dst : List Byte) (dport : Nat) (body : List Byte) : State :=
  let rep := mask % 4 = 3 && cfgOn s oFrerReplicate
  let number (s : State) : Nat := if alarm then s.eth.alarmSeq.toNat else s.eth.resultSeq.toNat
  let advance (s : State) : State :=
    if alarm then { s with eth := { s.eth with alarmSeq := s.eth.alarmSeq + 1 } } else { s with eth := { s.eth with resultSeq := s.eth.resultSeq + 1 } }
  let one (s : State) (e : Fin 2) : State :=
    if bitAt e.val mask then
      let s := if alarm && !portUp s e then roAdd s oAlarmPortDown 1 else s
      let s := sendFrame s e { cls := cls, dst := dst, dport := dport, proto := 0, rtag := some (number s), body := body }
      if rep then s else advance s
    else s
  let s := one (one s 0) 1
  if rep then advance s else s

/-- The device id (13). -/
def deviceId (s : State) : Nat := cfgNat s oBerylDeviceId

/-- The 32-byte alarm header (11 R367). -/
def alarmHeader (s : State) (x : AlarmTx) : List Byte :=
  leBytes 1 1 ++ leBytes 1 (deviceId s) ++ leBytes 1 x.tile ++ leBytes 1 x.handler ++ leBytes 4 x.step ++ leBytes 8 x.tick ++ leBytes 8 x.event ++ leBytes 8 x.time

/-- A pulse asserted: it restarts the width of a pulse it meets (11 R369). -/
def addPulse (l : List (Nat × Nat)) (start width : Nat) : List (Nat × Nat) :=
  match l.getLast? with
  | some (a, b) => if start ≤ b then l.dropLast ++ [(a, start + width)] else l ++ [(start, start + width)]
  | none => [(start, start + width)]

/-- ALARM_OUT0 and ALARM_OUT1 are active (11 R369). -/
def alarmActive (s : State) : Bool := s.eth.pulses.any fun x => x.1 ≤ s.cycle && s.cycle < x.2

/-- The level of ALARM_OUT0 and ALARM_OUT1 (11 R369). -/
def alarmLevel (s : State) : Bool := alarmActive s != cfgOn s oAlarmPulseLow

/-- What the part drives on ALARM_OUT0 and ALARM_OUT1: nothing, from PORST_N low until the configuration is restored (17 R553, R555). -/
def alarmPin (s : State) : Option Bool := if s.power.phase < 5 || s.power.phase = 9 then none else some (alarmLevel s)

/-- One alarm at the egress: it takes its event number, its frame is built in 150 tile cycles, its pulse goes to the pins, and its record to the result queue (02 R71; 11 R367 to R369; 14 R458). -/
def alarmOut (s : State) (x : AlarmTx) : State :=
  let v := takeEvent s
  let x := { x with event := v.1 }
  let s := v.2
  let payload := alarmHeader s x ++ slice x.body 0 64
  let s := roAdd s oAlarmSent 1
  let s := { s with eth := { s.eth with building := s.eth.building ++ [(s.cycle + 150, payload)], pulses := addPulse s.eth.pulses (s.cycle + 30) (cfgNat s oAlarmPulseWidth / 2) } }
  postMsg s { kind := 1, alarm := some x, emit := true, tick := x.tick } (sysRecord (leAt x.body 4 2) x.job payload)

/-- The alarm frames that are built in the present cycle go to each port, in the order of their egress (02 R71; 11 R348, R367, R368). -/
def alarmFrames (s : State) : State :=
  let now := s.eth.building.filter fun x => x.1 ≤ s.cycle
  if now.isEmpty then s
  else now.foldl (fun s x => talkerSend s true (cfgNat s oAlarmPorts) 7 (cfgBytes s oAlarmDstAddr) (cfgNat s oAlarmUdpPort) x.2)
    { s with eth := { s.eth with building := s.eth.building.filter fun x => s.cycle < x.1 } }

/-- Alarms in ascending logical tile (01 R35). -/
def byTile (l : List AlarmTx) : List AlarmTx := sortBy (fun a b => a.tile ≤ b.tile) l

/-- The alarm frames at the egress leave at once, as a power-fail commit lets them: those still being built are handed to their ports, and each port starts its class-7 frames one behind the other (16 R508). -/
def drainAlarms (s : State) : State :=
  let s := alarmFrames { s with eth := { s.eth with building := s.eth.building.map fun x => (s.cycle, x.2) } }
  ([0, 1] : List (Fin 2)).foldl (fun s e => ((ethPort s e).queue.filter fun f => f.cls = 7).foldl (fun s f => startFrame s e f) s) s

/-- ALARM_EGRESS: the alarms of the earliest tile cycle that have reached the egress, 40 tile cycles after their emit, in ascending logical tile; two or more count one collision (01 R35; 02 R71; 11 R367). -/
def execAlarmEgress (s : State) : Host.Outcome State Fault Refusal :=
  match s.eth.alarms with
  | [] => .next s
  | a :: r =>
    let first := r.foldl (fun m x => min m x.due) a.due
    if s.cycle < first then .next s
    else
      let now := byTile (s.eth.alarms.filter fun x => x.due = first)
      let s := { s with eth := { s.eth with alarms := s.eth.alarms.filter fun x => x.due ≠ first } }
      let s := if 2 ≤ now.length then roAdd s oAlarmCollisions 1 else s
      .next (now.foldl alarmOut s)

/-- ALARM_PULSE_END: pulses whose width has passed end (11 R369). -/
def execAlarmPulseEnd (s : State) : Host.Outcome State Fault Refusal :=
  .next { s with eth := { s.eth with pulses := s.eth.pulses.filter fun x => s.cycle < x.2 } }

end Sys2Proof.Machine
end

