-- ==== Sys2Proof/Machine/Dma.lean ====
section
/-! DEFINITION. The DMA engine of a tile: descriptors, validation, bursts, staging, completion, aborts and bus errors (09 R281 to R305, R319; 13 R427, R428). -/

namespace Sys2Proof.Machine

open Sys2Proof

/-- A field of a DMA descriptor (09 R284). -/
def mField (d : BitVec 512) (hi lo : Nat) : Nat := field hi lo d.toNat
/-- OP (09 R285). -/
def mOp (d : BitVec 512) : Nat := mField d 7 5
/-- IRQ. -/
def mIrq (d : BitVec 512) : Bool := bitAt 4 d.toNat
/-- QUEUE. -/
def mQueue (d : BitVec 512) : Nat := mField d 143 133
/-- QPRIO. -/
def mPrio (d : BitVec 512) : Nat := mField d 132 130
/-- QWAIT. -/
def mQwait (d : BitVec 512) : Bool := bitAt 129 d.toNat
/-- PACE_QUEUE. -/
def mPaceQueue (d : BitVec 512) : Nat := mField d 159 149
/-- PACE_EN. -/
def mPaceEn (d : BitVec 512) : Bool := bitAt 148 d.toNat
/-- GAP. -/
def mGap (d : BitVec 512) : Nat := mField d 175 160
/-- FILL, the eight bytes of the fill pattern. -/
def mFill (d : BitVec 512) : List Byte := leBytes 8 (mField d 239 176)

/-- A pattern: address, stride, lines and line length (09 R285). -/
structure Pattern where
  /-- ADDR -/
  addr : Nat
  /-- STRIDE -/
  stride : Int
  /-- LINES -/
  lines : Nat
  /-- LINE -/
  line : Nat
  deriving DecidableEq, Repr

/-- The source pattern of a descriptor. -/
def srcPattern (d : BitVec 512) : Pattern :=
  { addr := mField d 511 464, stride := signedOf 32 (mField d 415 384), lines := mField d 351 320, line := mField d 287 264 }

/-- The destination pattern of a descriptor. -/
def dstPattern (d : BitVec 512) : Pattern :=
  { addr := mField d 463 416, stride := signedOf 32 (mField d 383 352), lines := mField d 319 288, line := mField d 263 240 }

/-- LINE × LINES (09 R285). -/
def patTotal (p : Pattern) : Nat := p.line * p.lines

/-- The address of the byte at a position of a pattern (09 R285). -/
def patAddr (p : Pattern) (pos : Nat) : Nat := ((p.addr : Int) + (pos / p.line : Nat) * p.stride + (pos % p.line : Nat)).toNat

/-- The first and last address of a pattern's extent (09 R286). -/
def patExtent (p : Pattern) : Int × Int :=
  let span := ((p.lines : Int) - 1) * p.stride
  ((p.addr : Int) + min 0 span, (p.addr : Int) + max 0 span + p.line - 1)

/-- What an address of the global map reaches from a tile's DMA engine (08 R250 to R252, 09 R281). -/
inductive Endpoint where
  | mem (sp : Space)
  | meadow
  | hbm
  | remote (device : Nat)
  | outside
  deriving DecidableEq, Repr

/-- First address of the window of a logical id (08 R250). -/
def windowBase (lid : Nat) : Nat := 0x020000000000 + lid * 0x01000000

/-- The endpoint of an address, and the offset of the address in it (08 R250, R251). -/
def planEndpoint (s : State) (p : PTile) (a : Int) : Endpoint × Nat :=
  let lid := (tile s p).logical
  if a < 0 then (.outside, 0)
  else
    let n := a.toNat
    if n < hbmPlanSize then (.hbm, n)
    else if meadowBase ≤ n && n < meadowBase + meadowPlanSize then (.meadow, n - meadowBase)
    else if windowBase lid ≤ n && n < windowBase lid + 0x01000000 && lid < gradeTiles s then
      let o := n - windowBase lid
      if o < descArea then (.mem .core, o)
      else if 0x200000 ≤ o && o < 0x240000 then (.mem .weight, o - 0x200000)
      else if 0x240000 ≤ o && o < 0x280000 then (.mem .act, o - 0x240000)
      else if 0x280000 ≤ o && o < 0x290000 then (.mem .vob, o - 0x280000)
      else (.outside, 0)
    else if 0x030000000000 ≤ n && n < 0x040000000000 then (.remote ((n - 0x030000000000) / 2 ^ 32), n % 2 ^ 32)
    else (.outside, 0)

/-- The endpoint that a tile's engine reaches: in a patrol replay the write set lies in the replay area (15 R486). -/
def endpointOf (s : State) (p : PTile) (a : Int) : Endpoint × Nat :=
  let e := planEndpoint s p a
  match e.1, replayMap s p a.toNat with
  | .meadow, some o | .hbm, some o => (.meadow, o)
  | _, _ => e

/-- The one endpoint in which a pattern lies whole, or outside; an empty pattern reaches nothing (09 R286). -/
def patEndpoint (s : State) (p : PTile) (q : Pattern) : Endpoint :=
  let e := patExtent q
  let lo := endpointOf s p e.1
  let hi := endpointOf s p e.2
  if lo.1 = hi.1 && (hi.2 : Int) - lo.2 = e.2 - e.1 then lo.1 else .outside

/-- The unit of one access of an endpoint, in bytes (09 R281, 13 R428). -/
def unitOf : Endpoint → Nat
  | .mem .core | .hbm | .outside => 64
  | .mem _ | .meadow => 128
  | .remote _ => 256

/-- The engine's port that an access uses: one per tile memory, the Meadow port, one per HBM pseudo-channel, and Beryl egress (09 R281, R288). -/
def portOf (e : Endpoint) (off : Nat) : Nat :=
  match e with
  | .mem .core => 0
  | .mem .weight => 1
  | .mem .act => 2
  | .mem .vob => 3
  | .meadow => 4
  | .remote _ => 5
  | .outside => 6
  | .hbm => 8 + pseudoOf (granuleOf off)

/-- A channel. -/
def chan (s : State) (p : PTile) (c : Fin 8) : Channel := (tile s p).dma.ch[c]

/-- A channel changed. -/
def modChan (s : State) (p : PTile) (c : Fin 8) (f : Channel → Channel) : State :=
  modTile s p fun t => { t with dma := { t.dma with ch := t.dma.ch.set c (f t.dma.ch[c]) } }

/-- The active descriptor of a channel changed. -/
def modRunOf (s : State) (p : PTile) (c : Fin 8) (f : DmaRun → DmaRun) : State :=
  modChan s p c fun x => { x with active := x.active.map f }

/-- An interrupt source raised on a tile (03 R107). -/
def raiseInt (t : Tile) (n : Nat) : Tile := { t with intPending := t.intPending ||| BitVec.ofNat 16 (2 ^ n) }

/-- DMA_RESIDUE of a pattern of which a prefix is written (09 R298). -/
def residueOf (q : Pattern) (written : Nat) : BitVec 64 :=
  if q.line = 0 || patTotal q ≤ written then 0
  else BitVec.ofNat 64 ((q.lines - written / q.line) * 2 ^ 32 + (q.line - written % q.line))

/-- The pattern that a descriptor's residue describes (09 R298, R302). -/
def residuePattern (d : BitVec 512) : Pattern := if mOp d = 3 then srcPattern d else dstPattern d

/-- Bytes that count as written for the residue: for an enqueue all or nothing, for a remote write those accepted (09 R298, 13 R431). -/
def residueWritten (s : State) (p : PTile) (r : DmaRun) : Nat :=
  if mOp r.desc = 3 then (if r.linked then patTotal (srcPattern r.desc) else 0)
  else match patEndpoint s p (dstPattern r.desc) with
    | .remote _ => r.accepted
    | _ => r.written

/-- A DMA_STATUS word (09 R297). -/
def statusWord (code cells state poison : Nat) : BitVec 32 :=
  BitVec.ofNat 32 (code * 65536 + cells * 2048 + state * 256 + min poison 63)

/-- The active descriptor of a channel ends: status, residue, and its interrupt (09 R300 to R302). STATE 5 DONE, 6 ABORTED, 7 STOPPED. -/
def finishChannel (s : State) (p : PTile) (c : Fin 8) (state code : Nat) (irq : Bool) : State :=
  match (chan s p c).active with
  | none => s
  | some r =>
    let res := residueOf (residuePattern r.desc) (residueWritten s p r)
    let s := modChan s p c fun x =>
      { x with active := none, freeAt := s.cycle, status := statusWord code r.itemCells state r.poison, residue := res }
    if irq then modTile s p fun t => raiseInt t c.val else s

/-- A field that 09 R285 requires to be 0, or that is reserved, is not 0; or another check of 09 R286 point 1 fails. -/
def descBad (d : BitVec 512) : Bool :=
  let s := srcPattern d
  let t := dstPattern d
  let op := mOp d
  let srcZero := mField d 511 464 = 0 && mField d 415 384 = 0 && s.lines = 0 && s.line = 0
  let dstZero := mField d 463 416 = 0 && mField d 383 352 = 0 && t.lines = 0 && t.line = 0
  mField d 147 144 ≠ 0 || mField d 128 8 ≠ 0 || mField d 3 0 ≠ 0
    || 5 ≤ op
    || ((op = 1 || op = 4) && !srcZero) || (op = 3 && !dstZero)
    || (op = 0 && patTotal s ≠ patTotal t)
    || ((op = 1 || op = 2) && (1 < s.lines || 1 < t.lines))
    || (op = 2 && s.line ≠ t.line)
    || (op = 3 && 1024 < patTotal s)
    || 1087 < mPaceQueue d || 1087 < mQueue d

/-- The descriptor moves nothing: its totals are 0 (09 R319). An OP 2 of which one line count alone is 0 counts as empty too (DESIGN CHOICE, notes/assumptions/49.md). -/
def descEmpty (d : BitVec 512) : Bool :=
  if mOp d = 3 then patTotal (srcPattern d) = 0
  else patTotal (dstPattern d) = 0 || (mOp d = 2 && patTotal (srcPattern d) = 0)

/-- An endpoint that a source or destination of a plain transfer may lie in: DMA_ADDR_RANGE otherwise (09 R286, 13 R427). -/
def rangeBad (s : State) (p : PTile) (d : BitVec 512) : Bool :=
  if descEmpty d then false
  else
    let src := patEndpoint s p (srcPattern d)
    let dst := patEndpoint s p (dstPattern d)
    let far : Endpoint → Bool := fun e => match e with | .remote _ => true | _ => false
    match mOp d with
    | 0 => src = .outside || dst = .outside || far src || dst = .remote (cfgNat s oBerylDeviceId)
    | 1 => !(dst = .meadow || dst = .hbm)
    | 2 => !(dst = src && (dst = .meadow || dst = .hbm))
    | 3 => src = .outside || far src
    | _ => dst = .outside || far dst

/-- The credit-table entry that holds a remote destination whole (13 R427). -/
def remoteEntry (s : State) (p : PTile) (d : BitVec 512) : Option RemoteWin :=
  match patEndpoint s p (dstPattern d) with
  | .remote dev =>
    let e := patExtent (dstPattern d)
    let lo := e.1.toNat % 2 ^ 32
    let hi := e.2.toNat % 2 ^ 32
    s.beryl.remote.find? fun w => w.device = dev && w.offset ≤ lo && hi < w.offset + w.size
  | _ => none

/-- The bus error with which validation stops a descriptor, 0 none (09 R286, 13 R427). -/
def descBusError (s : State) (p : PTile) (d : BitVec 512) : Nat :=
  let op := mOp d
  let q := mQueue d
  if rangeBad s p d then cDmaAddrRange
  else if op = 3 && q ≠ 1032 && !(1040 ≤ q && q ≤ 1087) then cQueueAccess
  else if op = 4 && !(1040 ≤ q && q ≤ 1087) then cQueueAccess
  else if descEmpty d then 0
  else match patEndpoint s p (dstPattern d), op with
    | .remote _, 0 => if (remoteEntry s p d).isNone then cWindowNone else 0
    | _, _ => 0

/-- What an abort or a stop does to a channel's queue operation: cells of an enqueue not linked, or of a dequeue not delivered, return to the pool (09 R580). -/
def dropCells (s : State) (p : PTile) (c : Fin 8) : State :=
  let x := chan s p c
  modRunOf (freeCells s (channelCells x)) p c fun r => if r.linked then r else { r with cells := [] }

/-- The code with which a channel stops after a bus error of its own or of another channel; the first error of its own is kept (09 R302, R317). -/
def stopCode (old : Nat) (own : Bool) (code : Nat) : Nat :=
  if own then (if old = 0 || old = cDmaEngineStopped then code else old) else if old = 0 then cDmaEngineStopped else old

/-- The bursts of a stopped channel that are delivered (09 R302, R580). -/
def deliveredOnly (s : State) (r : DmaRun) : DmaRun := { r with staged := (r.staged.filter fun b => b.done || (b.due ≤ s.cycle && b.err = 0 && !b.hop)).map fun b => { b with done := true } }

/-- A bus error in a channel: a job fault with RECOVER 0, else the whole engine stops (09 R302). An error found at validation, with the failing descriptor given, that meets no active descriptor writes its channel at once. A later error while the engine stops changes neither ERR_CH nor the cycle of the stop. -/
def busError (s : State) (p : PTile) (c : Fin 8) (code addr : Nat) (failing : Option (BitVec 512)) : State :=
  let s := roAdd s (oDmaBusErrors p.val) 1
  if !(tile s p).dma.recover then jobFault s p code addr
  else
    let s := match failing, (chan s p c).active with
      | some d, none =>
        let q := residuePattern d
        let w := statusWord code 0 7 0
        modChan s p c fun x =>
          { x with status := w, residue := BitVec.ofNat 64 (q.lines * 2 ^ 32 + q.line), freeAt := s.cycle }
      | _, _ => s
    let s := (List.finRange 8).foldl (fun s k => dropCells s p k) s
    let s := (List.finRange 8).foldl (fun s k => modChan s p k fun x =>
      { x with
        dropped := x.dropped || !(x.pend.filter (·.valid)).isEmpty
        pend := []
        active := x.active.map fun r => { deliveredOnly s r with stopping := stopCode r.stopping (k = c) code } }) s
    modTile s p fun t => if t.dma.stopping.isSome || t.dma.stopped then t else { t with dma := { t.dma with stopping := some s.cycle, stopCh := c.val } }

/-- A lane of a descriptor read into a channel's newest pending entry (09 R282). -/
def dmaLaneRead (t : Tile) (t0 : Nat) (c : Fin 8) (vr : Fin 32) (k : Nat) : Tile :=
  let bits := BitVec.ofNat 512 ((t.v[vr].toNat / 2 ^ (256 * k) % 2 ^ 256) * 2 ^ (256 * k))
  { t with dma := { t.dma with ch := t.dma.ch.set c ({ t.dma.ch[c] with
      pend := (t.dma.ch[c]).pend.map fun x => if x.t0 = t0 then { x with desc := x.desc ||| bits } else x }) } }

/-- A channel already holds an active and a pending descriptor (09 R283). -/
def dmaFull (t : Tile) (c : Fin 8) : Bool :=
  let x := t.dma.ch[c]
  2 ≤ (if x.active.isSome then 1 else 0) + x.pend.length

/-- dma.start: the channel takes the descriptor, lane 0 now and lane 1 in the next cycle, and validates it by t + 4; a stopped engine completes the channel at once, still in the cycle in which the write that clears STOPPED lands (09 R282, R283, R303). -/
def dmaStart (s : State) (p : PTile) (c : Fin 8) (vr : Fin 32) : State :=
  if (tile s p).dma.stopped || (tile s p).dma.cleared = s.cycle + 1 then
    modChan s p c fun x => { x with status := statusWord cDmaEngineStopped 0 7 0 }
  else
    let s := modChan s p c fun x => { x with pend := x.pend ++ [{ t0 := s.cycle, desc := ((tile s p).v[vr].setWidth 256).setWidth 512 }] }
    modTile s p fun t =>
      { t with sched := t.sched ++ [{ due := s.cycle + 1, issue := s.cycle, act := .dmaLane c vr 1 }, { due := s.cycle + 4, issue := s.cycle, act := .dmaCheck c }] }

/-- The validation of a descriptor ends, four cycles after its dma.start (09 R286). -/
def dmaValidate (s : State) (p : PTile) (c : Fin 8) (t0 : Nat) : State :=
  match (chan s p c).pend.find? fun x => x.t0 = t0 with
  | none => s
  | some x =>
    let without (s : State) : State := modChan s p c fun y => { y with pend := y.pend.filter fun z => z.t0 ≠ t0 }
    if descBad x.desc then jobFault (without s) p cDmaDescInvalid 0
    else
      let e := descBusError s p x.desc
      let hadActive := (chan s p c).active.isSome
      if e ≠ 0 then
        let s := without s
        let s := if hadActive then modChan s p c fun y => { y with dropped := true } else s
        busError s p c e (let r := patExtent (residuePattern x.desc); r.1.toNat) (some x.desc)
      else modChan s p c fun y => { y with pend := y.pend.map fun z => if z.t0 = t0 then { z with valid := true } else z }

/-- DMA_DESC_ACTIVATE: a validated descriptor becomes active at t + 5, or in the cycle after the active one completes; an empty one completes at once with EMPTY (09 R283, R319). None does while the engine stops (DESIGN CHOICE, notes/assumptions/49.md). -/
def execDmaDescActivate (p : PTile) (c : Fin 8) (s : State) : Host.Outcome State Fault Refusal :=
  let x := chan s p c
  match x.active, x.pend with
  | none, d :: rest =>
    if !d.valid || (tile s p).dma.stopping.isSome || s.cycle < d.t0 + 5 || (s.cycle ≤ x.freeAt && x.freeAt ≠ 0) then .next s
    else
      let s := modChan s p c fun y => { y with pend := rest, dropped := false, active := some { desc := d.desc, since := s.cycle } }
      if descEmpty d.desc then .next (finishChannel s p c 5 cEmpty (mIrq d.desc)) else .next s
  | _, _ => .next s

/-- A port can serve an access at an offset in the present cycle, bank conflicts and the core's own use of port 1 later in the cycle apart (03 R95, 08 R254, R264, 09 R288 to R292). -/
def portOpen (s : State) (p : PTile) (e : Endpoint) (off : Nat) : Bool :=
  !(portsUsed s p).contains (portOf e off) &&
    match e with
    | .mem .core => (tile s p).l1Used ≠ s.cycle + 1 && (tile s p).descWrites.isEmpty
    | .hbm => slotFree s (some p) (pseudoOf (granuleOf off)) && !granuleHeld s (granuleOf off) && !writebackDue s (some p) (pseudoOf (granuleOf off))
    | .outside => false
    | _ => true

/-- Start and length of the burst that holds a position of a pattern: the bytes of one line in one access unit (09 R287). -/
def burstAt (q : Pattern) (unit pos : Nat) : Nat × Nat :=
  let la := patAddr q (pos / q.line * q.line)
  let off := pos % q.line
  let b := (la + off) / unit * unit
  let lo := b - la
  let hi := min q.line (b + unit - la)
  (pos / q.line * q.line + lo, hi - lo)

/-- The bursts of a pattern from a position on, up to a limit (09 R287). -/
def burstsFrom (q : Pattern) (unit limit : Nat) : Nat → Nat → List (Nat × Nat)
  | 0, _ => []
  | k + 1, pos =>
    if q.line = 0 || patTotal q ≤ pos then []
    else
      let b := burstAt q unit pos
      if limit < b.1 + b.2 then [] else b :: burstsFrom q unit limit k (b.1 + b.2)

/-- A channel's pace queue holds it back (09 R294). -/
def paceHeld (s : State) (d : BitVec 512) : Bool := mPaceEn d && s.queues.held.contains (mPaceQueue d)

/-- A burst may start: it belongs to a line begun, or begins the next line with GAP passed and the pace queue not held (09 R290, R294). -/
def lineOpen (s : State) (r : DmaRun) (q : Pattern) (pos : Nat) : Bool :=
  let j := pos / q.line
  if j < r.lineRead then true
  else j = r.lineRead && !(mOp r.desc = 0 && paceHeld s r.desc) && (j = 0 || r.lineAt + mGap r.desc ≤ s.cycle)

/-- The bursts that a transfer or an enqueue could read in the present cycle, in pattern order (09 R287, R288). -/
def readable (s : State) (p : PTile) (r : DmaRun) : List (Nat × Nat) :=
  if !(mOp r.desc = 0 || mOp r.desc = 3) || r.aborting || r.stopping ≠ 0 then []
  else
    let q := srcPattern r.desc
    let e := patEndpoint s p q
    let from_ := if mOp r.desc = 3 then 64 * r.cells.length else r.written
    if q.line = 0 then []
    else (burstsFrom q (unitOf e) (from_ + 4096) 4097 (burstAt q (unitOf e) from_).1).filter fun b =>
      (from_ < b.1 + b.2) && !(r.staged.any fun x => x.pos = b.1) && lineOpen s r q b.1
        && portOpen s p e (endpointOf s p (patAddr q b.1)).2

/-- The part of the destination unit in progress that a memory-side copy moves: its length (08 R258). -/
def copyUnit (s : State) (p : PTile) (r : DmaRun) : Nat :=
  let q := dstPattern r.desc
  let b := burstAt q (unitOf (patEndpoint s p q)) r.written
  b.1 + b.2 - r.written

/-- The next read of a memory-side copy: position and length within one access unit of the source. An access in progress is finished after an abort or a stop (08 R253, R258; 09 R305). -/
def copyRead (s : State) (p : PTile) (r : DmaRun) : Option (Nat × Nat) :=
  let q := srcPattern r.desc
  let e := patEndpoint s p q
  let n := copyUnit s p r
  let k := r.copyBuf.length
  let off := (endpointOf s p (patAddr q (r.written + k))).2
  if mOp r.desc ≠ 2 || patTotal q ≤ r.written || n ≤ k || s.cycle ≤ r.effect || (k = 0 && (r.aborting || r.stopping ≠ 0)) || !portOpen s p e off then none
  else some (r.written + k, min (n - k) (unitOf e - off % unitOf e))

/-- What a copy of n bytes from src to dst writes, given what it reads: it acts byte by byte in ascending order (08 R258). -/
def copyBytes (src dst : Nat) (raw : List Byte) : List Byte :=
  if src < dst && dst - src < raw.length then raw.zipIdx.map fun x => (raw[x.2 % (dst - src)]?).getD 0 else raw

/-- The reads that a channel could make in the present cycle: position and length, the one to be made first first (09 R287, R288, R305). -/
def reads (s : State) (p : PTile) (r : DmaRun) : List (Nat × Nat) :=
  if mOp r.desc = 2 then (copyRead s p r).toList else readable s p r

/-- Bytes of the destination that a channel will write: its pattern's total, for a dequeue at most the item's bytes (09 R310). -/
def writeTotal (r : DmaRun) : Nat :=
  let n := patTotal (dstPattern r.desc)
  if mOp r.desc = 4 then (if r.unlinked then min n (64 * r.itemCells) else 0) else n

/-- The bytes delivered from the oldest byte not yet written on, with no gap, at most n of them (09 R287). -/
def delivered (r : DmaRun) : Nat → Nat → Nat → List Byte
  | 0, _, _ => []
  | k + 1, pos, n =>
    if n = 0 then []
    else match r.staged.find? fun b => b.done && b.pos ≤ pos && pos < b.pos + b.bytes.length with
      | none => []
      | some b =>
        let part := (b.bytes.drop (pos - b.pos)).take n
        part ++ delivered r k (pos + part.length) (n - part.length)

/-- The port on which frames to a device leave: its routing entry is VALID and names a port that is UP (13 R421). -/
def routePort (s : State) (dev : Nat) : Option (Fin 4) :=
  let e := (((cfgBytes s oBerylRoutes)[dev]?).getD 0).toNat
  let n : Fin 4 := ⟨e % 4, by omega⟩
  if bitAt 7 e && (s.beryl.port[n]).state = 2 then some n else none

/-- No further frame of a channel goes to egress: it is aborted, or its engine stops and its window or its route is gone (09 R301, R302; 13 R431). -/
def egressEnded (s : State) (p : PTile) (r : DmaRun) : Bool :=
  match patEndpoint s p (dstPattern r.desc) with
  | .remote dev => r.aborting || (r.stopping ≠ 0 && ((remoteEntry s p r.desc).isNone || (routePort s dev).isNone))
  | _ => false

/-- The next write of a channel: position, and bytes of one destination access unit, once every byte is delivered; a channel that reads no further writes what it has (09 R287, R301, R302). -/
def nextWrite (s : State) (p : PTile) (r : DmaRun) : Option (Nat × List Byte) :=
  let q := dstPattern r.desc
  let total := writeTotal r
  if q.line = 0 || total ≤ r.written || egressEnded s p r then none
  else
    let e := patEndpoint s p q
    let b := burstAt q (unitOf e) r.written
    let n := min (b.1 + b.2) total - r.written
    if mOp r.desc = 1 then
      if r.aborting || r.stopping ≠ 0 then none
      else some (r.written, (List.range n).map fun i => ((mFill r.desc)[(r.written + i) % 8]?).getD 0)
    else if mOp r.desc = 2 then
      (if r.copyBuf.length = n then some (r.written, copyBytes (patAddr (srcPattern r.desc) 0) (patAddr q 0) r.copyBuf) else none)
    else
      let bs := delivered r (n + 1) r.written n
      if bs.length = n || ((r.aborting || r.stopping ≠ 0) && !bs.isEmpty && r.staged.all (·.done)) then some (r.written, bs) else none

/-- The ports on which the channels of a tile have a write that could be made now (09 R288). -/
def writePorts (s : State) (p : PTile) (only : Fin 8 → Bool) : List Nat :=
  (List.finRange 8).filterMap fun k =>
    match (chan s p k).active with
    | none => none
    | some r =>
      if !only k then none
      else match nextWrite s p r with
        | none => none
        | some (pos, _) =>
          let q := dstPattern r.desc
          let e := patEndpoint s p q
          let off := (endpointOf s p (patAddr q pos)).2
          if portOpen s p e off then some (portOf e off) else none

/-- The ports on which the channels below c have a read that could be made now (09 R288). -/
def readPorts (s : State) (p : PTile) (c : Fin 8) : List Nat :=
  (List.finRange 8).flatMap fun k =>
    if c ≤ k then []
    else match (chan s p k).active with
      | none => []
      | some r =>
        let q := srcPattern r.desc
        let e := patEndpoint s p q
        (reads s p r).map fun b => portOf e (endpointOf s p (patAddr q b.1)).2

/-- The access that the engine of a tile would make on one port in the present cycle, as an offset of its endpoint: writes before reads, then the lowest channel, then pattern order (09 R287, R288). -/
def portAccess (s : State) (p : PTile) (port : Nat) : Option Nat :=
  let of (q : Pattern) (pos : Nat) : Option Nat :=
    let off := (endpointOf s p (patAddr q pos)).2
    if portOf (patEndpoint s p q) off = port && portOpen s p (patEndpoint s p q) off then some off else none
  let runs := (List.finRange 8).filterMap fun c => (chan s p c).active
  match runs.findSome? fun r => (nextWrite s p r).bind fun w => of (dstPattern r.desc) w.1 with
  | some off => some off
  | none => runs.findSome? fun r => (reads s p r).findSome? fun b => of (srcPattern r.desc) b.1

/-- The Meadow bank that the port of a tile asks for in the present cycle (08 R256). -/
def meadowWant (s : State) (p : PTile) : Option Nat := (portAccess s p 4).map fun off => meadowBank (off / 128)

/-- Rank of a tile's Meadow port: in-service tiles by ascending logical id, then acting spares by ascending physical number (08 R256, 15 R480). -/
def meadowRank (s : State) (p : PTile) : Nat := if (tile s p).role = 2 then 1024 + p.val else (tile s p).logical

/-- Beryl receive asks for a Meadow bank in the present cycle (08 R256, 13 R429). -/
def berylWants (s : State) (bank : Nat) : Bool :=
  s.beryl.landing.any fun x => x.due ≤ s.cycle && meadowBase ≤ x.at_ && meadowBank ((x.at_ - meadowBase) / 128) = bank

/-- A bank cannot serve a tile's port in the present cycle: it has served a slot, or a port of a better rank asks for it, or, for an acting spare, Beryl receive does (08 R256, 15 R480). -/
def bankLost (s : State) (p : PTile) (bank : Nat) : Bool :=
  bankBusy s bank
    || (List.finRange 72).any (fun q => meadowRank s q < meadowRank s p && meadowWant s q = some bank)
    || ((tile s p).role = 2 && berylWants s bank)

/-- An acting spare of a lower physical number asks for the same system cycle (15 R480; notes/assumptions/21.md). -/
def systemLost (s : State) (p : PTile) (port : Nat) : Bool :=
  (tile s p).role = 2 && 8 ≤ port && (List.finRange 72).any fun q => q < p && (tile s q).role = 2 && (portAccess s q port).isSome

/-- Latency from the grant of a read to its delivery (09 R281). -/
def readLatency : Endpoint → Nat
  | .mem .core => 4
  | .mem _ => 2
  | .meadow => 24
  | _ => 180

/-- A Meadow access that finds its bank taken has waited a cycle, and is counted (08 R256, R257). -/
def meadowWait (s : State) (p : PTile) : State := roAdd (roAdd s (oTileMeadowWaits p.val) 1) oMeadowWaits 1

/-- The counters of a granted access (08 R257, 09 R318). -/
def countAccess (s : State) (p : PTile) (e : Endpoint) : State :=
  match e with
  | .mem .core => roAdd s (oTilePort1DmaCycles p.val) 1
  | .meadow => roAdd s (oTileMeadowSlots p.val) 1
  | .hbm => roAdd s (oDmaHbmSlots p.val) 1
  | _ => s

/-- Bytes read by a DMA access at an endpoint, with the code and the address of a parity or ECC error (08 R259, R260, R274). -/
def endpointRead (s : State) (p : PTile) (e : Endpoint) (off n : Nat) : List Byte × Nat × Nat × State :=
  let t := tile s p
  match e with
  | .mem sp =>
    let m := match sp with | .core => t.core | .weight => t.wbuf | .act => t.abuf | .vob => t.vob
    let bad := match sp with | .core => t.coreBad | .weight => t.wbufBad | .act => t.abufBad | .vob => t.vobBad
    let base := match sp with | .core => 0 | .weight => 0x200000 | .act => 0x240000 | .vob => 0x280000
    (memRead m off n,
     match badByte bad off n with
     | some b => (if sp = .core then cCoreParity else cOpbufParity, coreGlobal t (base + b), s)
     | none => (0, 0, s))
  | .meadow =>
    (memRead s.meadow.mem off n,
     match badByte s.meadow.bad off n with | some b => (cMeadowParity, meadowBase + b, s) | none => (0, 0, s))
  | .hbm =>
    let r := hbmRead s off n
    (match r.1 with | some b => (b, 0, 0, r.2) | none => ([], cHbmUncorrectable, off, r.2))
  | _ => ([], 0, 0, s)

/-- A read of the engine that met an error: a bus error of the tile, and the fault of its code (09 R302, R318). -/
def readFault (s : State) (p : PTile) (code addr : Nat) : State :=
  let s := roAdd s (oDmaBusErrors p.val) 1
  if isStepCode code then stepFault s p code addr else jobFault s p code addr

/-- DMA_READ_DELIVER: the reads of a channel whose latency has passed deliver into staging; one that met an error delivers nothing and raises its fault, and one whose hop over a fabric had bad parity raises REGION_FABRIC (09 R281, R302; 15 R482). -/
def execDmaReadDeliver (p : PTile) (c : Fin 8) (s : State) : Host.Outcome State Fault Refusal :=
  match (chan s p c).active with
  | none => .next s
  | some r =>
    match r.staged.find? fun b => !b.done && b.due ≤ s.cycle && (b.err ≠ 0 || b.hop) with
    | some b =>
      if b.hop then .next (jobFault (regionFault s (p.val / 9) false) p cRegionFabric b.errAddr)
      else .next (readFault s p b.err b.errAddr)
    | none => .next (modRunOf s p c fun r => { r with staged := r.staged.map fun b => if b.due ≤ s.cycle then { b with done := true } else b })

/-- Every write of a channel has taken effect before the present cycle (09 R283). -/
def writesLanded (s : State) (p : PTile) (c : Fin 8) (r : DmaRun) : Bool :=
  (r.effect < s.cycle || r.effect = 0) && r.inFlight.isEmpty && !s.hbm.partials.any fun x => x.tile = some p && x.ch = c

/-- The code with which a descriptor that moved everything completes (09 R310). -/
def doneCode (r : DmaRun) : Nat := if r.queueCode = 0 then cDone else r.queueCode

/-- Everything a descriptor has to do is done (09 R283, R309, R310; 13 R431). -/
def descDone (s : State) (p : PTile) (c : Fin 8) (r : DmaRun) : Bool :=
  writesLanded s p c r &&
    match mOp r.desc with
    | 0 => patTotal (dstPattern r.desc) ≤ r.written
    | 3 => r.linked
    | 4 => r.queueCode = cQueueEmpty || (r.unlinked && r.cells.isEmpty && writeTotal r ≤ r.written && r.lastReturn < s.cycle)
    | _ => false

/-- A channel that an engine stop has caught has written what it will write (09 R302). -/
def stopDone (s : State) (p : PTile) (c : Fin 8) (r : DmaRun) : Bool :=
  r.stopping ≠ 0 && (nextWrite s p r).isNone && (r.copyBuf.isEmpty || mOp r.desc ≠ 2) && writesLanded s p c r &&
    (match (tile s p).dma.stopping with | some t0 => t0 < s.cycle | none => true)

/-- DMA_DESC_COMPLETE: the cycle after its last write takes effect the descriptor completes: status, residue, and the interrupt when IRQ is set. A channel caught by an engine stop writes STOPPED (09 R283, R300, R302). -/
def execDmaDescComplete (p : PTile) (c : Fin 8) (s : State) : Host.Outcome State Fault Refusal :=
  match (chan s p c).active with
  | none => .next s
  | some r =>
    if r.stopping ≠ 0 then
      (if stopDone s p c r then .next (finishChannel s p c 7 r.stopping false) else .next s)
    else if r.aborting then .next s
    else if descDone s p c r then .next (finishChannel s p c 5 (doneCode r) (mIrq r.desc))
    else .next s

/-- MEM_ENGINE_DONE: a memory-side fill or copy reports done 24 or 180 cycles after its last slot, and its channel completes (08 R258, 09 R305). -/
def execMemEngineDone (p : PTile) (c : Fin 8) (s : State) : Host.Outcome State Fault Refusal :=
  match (chan s p c).active with
  | none => .next s
  | some r =>
    let wait := if patEndpoint s p (dstPattern r.desc) = .hbm then 180 else 24
    if (mOp r.desc = 1 || mOp r.desc = 2) && patTotal (dstPattern r.desc) ≤ r.written && r.effect + wait ≤ s.cycle && writesLanded s p c r && !r.aborting && r.stopping = 0 then
      .next (finishChannel s p c 5 cDone (mIrq r.desc))
    else .next s

/-- A write to DMA_ABORT lands: every named channel with an active descriptor reads no further, its waits end and its pending descriptor is discarded; of a dequeue only the cells delivered are still written (09 R301, R580). -/
def dmaAbort (s : State) (p : PTile) (mask : Nat) : State :=
  (List.finRange 8).foldl (fun s c =>
    if !bitAt c.val mask || (chan s p c).active.isNone then s
    else
      let s := roAdd (dropCells s p c) (oDmaAborts p.val) 1
      modChan s p c fun x =>
        { x with
          dropped := x.dropped || !x.pend.isEmpty
          pend := []
          active := x.active.map fun r => { (if mOp r.desc = 4 then deliveredOnly s r else r) with aborting := true, effect := max r.effect s.cycle } }) s

/-- DMA_ABORT_COMPLETE: the cycle after its last granted write an aborted channel writes ABORTED and its residue, and raises its interrupt (09 R301). -/
def execDmaAbortComplete (p : PTile) (c : Fin 8) (s : State) : Host.Outcome State Fault Refusal :=
  match (chan s p c).active with
  | none => .next s
  | some r =>
    if r.aborting && r.stopping = 0 && r.staged.all (·.done) && (nextWrite s p r).isNone && (r.copyBuf.isEmpty || mOp r.desc ≠ 2) && writesLanded s p c r then
      .next (finishChannel s p c 6 cDmaAborted true)
    else .next s

/-- DMA_ENGINE_STOP_COMPLETE: once every channel's writes have landed the last statuses are written, STOPPED and ERR_CH are set and source 8 is raised; descriptors handed over while it stopped are discarded (09 R302; notes/assumptions/49.md). -/
def execDmaEngineStopComplete (p : PTile) (s : State) : Host.Outcome State Fault Refusal :=
  match (tile s p).dma.stopping with
  | none => .next s
  | some t0 =>
    let busy := (List.finRange 8).any fun c => match (chan s p c).active with | some r => !stopDone s p c r | none => false
    if s.cycle ≤ t0 || busy then .next s
    else
      let s := (List.finRange 8).foldl (fun s c => match (chan s p c).active with
        | some r => finishChannel s p c 7 r.stopping false
        | none => s) s
      .next (modTile s p fun t => raiseInt { t with dma := { t.dma with
        stopping := none
        stopped := true
        errCh := t.dma.stopCh
        ch := t.dma.ch.map fun x => { x with dropped := x.dropped || !x.pend.isEmpty, pend := [] } } } 8)

/-- DMA_STATUSn as it reads now (09 R297): state 1 ACTIVE, 2 PACED, 3 CREDIT, 4 QWAIT. A descriptor that was pending when the active one completed is pending until it becomes active. -/
def dmaStatus (s : State) (p : PTile) (c : Fin 8) : BitVec 32 :=
  let x := chan s p c
  let bits (n : Nat) (b : Bool) : BitVec 32 := if b then BitVec.ofNat 32 (2 ^ n) else 0
  let base := match x.active with
    | none => x.status
    | some r =>
      let q := srcPattern r.desc
      let paced := paceHeld s r.desc && (if mOp r.desc = 3 then r.cells.isEmpty && !r.linked else mOp r.desc = 0 && r.lineRead < q.lines)
      let credit := match remoteEntry s p r.desc with | some w => mOp r.desc = 0 && w.pool = 0 && (nextWrite s p r).isSome | none => false
      let qwait := mOp r.desc = 4 && !r.unlinked && r.queueCode = 0 && mQwait r.desc && ((smGet {} s.queues.ptrA (mQueue r.desc)).items).isEmpty
      statusWord 0 r.itemCells (if paced then 2 else if credit then 3 else if qwait then 4 else 1) r.poison
  base ||| bits 7 (x.pend.any fun d => d.valid && (x.active.isSome || d.t0 + 5 ≤ x.freeAt)) ||| bits 6 x.dropped

/-- DMA_RESIDUEn as it reads now (09 R298). -/
def dmaResidue (s : State) (p : PTile) (c : Fin 8) : BitVec 64 :=
  match (chan s p c).active with
  | none => (chan s p c).residue
  | some r => residueOf (residuePattern r.desc) (residueWritten s p r)

/-- DMA_ENGINE as it reads (09 R299). -/
def dmaEngineWord (d : Dma) : BitVec 32 :=
  BitVec.ofNat 32 (d.errCh * 65536 + (if d.stopped then 2 else 0) + (if d.recover then 1 else 0))

/-- QCROSS as it reads (09 R313). -/
def qcrossWord (d : Dma) : BitVec 32 :=
  match d.qcross with
  | [] => 0
  | q :: _ => BitVec.ofNat 32 (2 ^ 31 + q)

end Sys2Proof.Machine
end

