-- ==== Sys2Proof/Machine/Queue.lean ====
section
/-! DEFINITION. The queue engine: cells, links, admission, marks and crossings (09 R306 to R315). -/

namespace Sys2Proof.Machine

open Sys2Proof

/-- The queue has the fixed settings of 09 R307. -/
def fixedQueue (q : Nat) : Bool := (1024 ≤ q && q ≤ 1031) || (1033 ≤ q && q ≤ 1039)

/-- Cell limit of a queue (09 R307, R318). -/
def qLimit (s : State) (q : Nat) : Nat :=
  if q < 1024 then cfgNat s (oCtxQLimit q) else if q ≤ 1031 then 8192 else if fixedQueue q then 1024 else cfgNat s (oSqLimit (q - 1024))
/-- High mark. -/
def qHigh (s : State) (q : Nat) : Nat :=
  if q < 1024 then cfgNat s (oCtxQHigh q) else if q ≤ 1031 then 8192 else if fixedQueue q then 768 else cfgNat s (oSqHigh (q - 1024))
/-- Low mark. -/
def qLow (s : State) (q : Nat) : Nat :=
  if q < 1024 then cfgNat s (oCtxQLow q) else if q ≤ 1031 then 0 else if fixedQueue q then 256 else cfgNat s (oSqLow (q - 1024))
/-- Interrupt level. -/
def qLevel (s : State) (q : Nat) : Nat :=
  if q < 1024 then cfgNat s (oCtxQIntLevel q) else if fixedQueue q then 0 else cfgNat s (oSqIntLevel (q - 1024))
/-- Interrupt target. -/
def qTarget (s : State) (q : Nat) : Nat :=
  if q < 1024 then cfgNat s (oCtxQIntTarget q) else if fixedQueue q then 0xFF else cfgNat s (oSqIntTarget (q - 1024))

/-- A queue as the engine reads it in service: the first copy (09 R316). -/
def queueOf (s : State) (q : Nat) : Queue := smGet {} s.queues.ptrA q

/-- Cells that a queue's items take. -/
def fillOf (u : Queue) : Nat := u.items.foldl (fun n i => n + i.cells.length) 0

/-- Fill of a queue in cells (09 R293). -/
def queueFill (s : State) (q : Nat) : Nat := fillOf (queueOf s q)

/-- One copy of the pointer store with a queue set; an empty queue is not listed. -/
def putQueue (m : SMap Queue) (q : Nat) (u : Queue) : SMap Queue := if u.items.isEmpty then smDel m q else smPut m q u

/-- A queue written to both copies in one cycle; its fill before the cycle is kept for marks and crossings (09 R311, R316). -/
def setQueue (s : State) (q : Nat) (u : Queue) : State :=
  let seen := s.queues.touched.any fun x => x.1 = q
  { s with queues := { s.queues with
      ptrA := putQueue s.queues.ptrA q u
      ptrB := putQueue s.queues.ptrB q u
      touched := if seen then s.queues.touched else s.queues.touched ++ [(q, queueFill s q)] } }

/-- The lowest number from n on that an ascending list lacks. -/
def firstGap : List Nat → Nat → Nat
  | [], n => n
  | k :: r, n => if k = n then firstGap r (n + 1) else n

/-- Free cells of the pool (09 R306). -/
def poolFree (s : State) : Nat := 65536 - s.queues.used.length

/-- The lowest free cell taken, in both copies of the allocation (09 R316). -/
def takeCell (s : State) : Option (Nat × State) :=
  if poolFree s = 0 then none
  else
    let n := firstGap s.queues.used 0
    let s := { s with queues := { s.queues with used := setInsert s.queues.used n, usedB := setInsert s.queues.usedB n } }
    some (n, roMin s oQueuePoolLow (poolFree s))

/-- Offset of a cell in Meadow memory (09 R306). -/
def cellOff (n : Nat) : Nat := 0x0FC00000 + 64 * n

/-- The Meadow bank of a cell serves the queue engine; where it has served a slot in this cycle, a wait is counted. The operation keeps its place in the queue's order: its cell is written or read in the row (08 R255, R256; DESIGN CHOICE, notes/assumptions/50.md). -/
def cellBank (s : State) (n : Nat) : State :=
  let b := meadowBank (cellOff n / 128)
  if bankBusy s b then roAdd s oMeadowWaits 1 else bankTake s b

/-- A cell written: 64 bytes, padded with zeros, its marked words tagged and every other tag cleared (09 R309, R314). -/
def writeCell (s : State) (n : Nat) (bytes : List Byte) (marked : List Nat) : State :=
  let s := meadowSet (cellBank s n) (cellOff n) (slice bytes 0 64)
  { s with meadow := { s.meadow with
      poison := marked.foldl (fun l w => setInsert l (cellOff n + 8 * w)) (s.meadow.poison.filter fun o => o / 64 ≠ cellOff n / 64) } }

/-- A cell read word by word: poisoned words, with a tag or bad parity, read as 0; the second answer counts them (09 R314, R315). -/
def readCell (s : State) (n : Nat) : List Byte × Nat :=
  let o := cellOff n
  (List.range 8).foldl (fun a w =>
    let at_ := o + 8 * w
    let bad := s.meadow.poison.contains at_ || (badByte s.meadow.bad at_ 8).isSome
    if bad then (a.1 ++ List.replicate 8 0, a.2 + 1) else (a.1 ++ memRead s.meadow.mem at_ 8, a.2)) ([], 0)

/-- Every cell of an item read. -/
def readItem (s : State) (cells : List Nat) : List Byte × Nat :=
  cells.foldl (fun a c => let r := readCell s c; (a.1 ++ r.1, a.2 + r.2)) ([], 0)

/-- An item linked at the tail of its priority's list (09 R309). -/
def linkItem (s : State) (q : Nat) (i : QItem) : State :=
  let u := queueOf s q
  let s := setQueue s q { u with items := u.items ++ [i] }
  if 1024 ≤ q then roAdd s (oSqLinked (q - 1024)) 1 else s

/-- The head item: the first of the highest priority (09 R310). -/
def headItem (u : Queue) : Option QItem :=
  let top := u.items.foldl (fun m i => max m i.prio) 0
  u.items.find? fun i => i.prio = top

/-- An item taken out of a queue, named by its first cell. -/
def unlinkItem (s : State) (q : Nat) (i : QItem) : State :=
  let u := queueOf s q
  setQueue s q { u with items := u.items.filter fun x => x.cells ≠ i.cells }

/-- Cells that a list of chip-side items has still to write; those of a list of admitted ones, or of ones begun. -/
def opCells (l : List ChipOp) : Nat := l.foldl (fun n o => n + (ceilDiv o.bytes.length 64 - o.cells.length)) 0

/-- Cells that a channel's enqueue has still to write once it has begun (09 R309). -/
def channelOwes (c : Channel) : Nat :=
  match c.active with
  | some r => if mOp r.desc = 3 && !r.linked && !r.cells.isEmpty && r.stopping = 0 && !r.aborting then ceilDiv (patTotal (srcPattern r.desc)) 64 - r.cells.length else 0
  | none => 0

/-- Free cells that items already admitted will take: units on their way to their queue, and items begun (09 R308; that an admission reserves its cells is a DESIGN CHOICE, notes/assumptions/50.md). -/
def cellsOwed (s : State) : Nat :=
  opCells s.queues.intake + opCells (s.queues.sys.filter fun o => !o.cells.isEmpty)
    + s.tiles.toList.foldl (fun n t => t.dma.ch.toList.foldl (fun n c => n + channelOwes c) n) 0

/-- Cells that a new item may take (09 R308). -/
def poolOpen (s : State) : Nat := poolFree s - cellsOwed s

/-- An item of k cells may be admitted to a queue (09 R308). -/
def admits (s : State) (q k : Nat) : Bool :=
  queueFill s q + k ≤ qLimit s q && k ≤ poolOpen s && (1024 ≤ q || cfgNat s oQueueSysReserve < poolOpen s - k)

/-- An item completes as its record links: DONE in attempt 0, RESTARTED with the code of the first fault after it (15 R472, R475). -/
def completeItem (s : State) (k : Nat) : State :=
  modItem s k fun i =>
    if i.linked then i
    else { i with linked := true, linkStep := s.ctrl.step, state := if i.attempt = 0 then .final cDone 0 else .final cRestarted i.firstCode }

/-- The record of a patrol replay goes to the comparator instead of its queue (15 R486). -/
def replayRecord (s : State) (p : PTile) (bytes : List Byte) : State :=
  { s with ctrl := { s.ctrl with patrol := { s.ctrl.patrol with
      replays := s.ctrl.patrol.replays.map fun r => if r.tile = p then { r with record := some bytes } else r } } }

/-- Bytes of the enqueue's item that its next cell takes. -/
def enqueueBytes (r : DmaRun) : List Byte :=
  let total := patTotal (srcPattern r.desc)
  let pos := 64 * r.cells.length
  delivered r 65 pos (min 64 (total - pos))

/-- A channel's enqueue can write its next cell (09 R294, R308, R309). -/
def enqueueReady (s : State) (p : PTile) (c : Fin 8) : Bool :=
  match (chan s p c).active with
  | none => false
  | some r =>
    let total := patTotal (srcPattern r.desc)
    mOp r.desc = 3 && !r.linked && !r.aborting && r.stopping = 0 && 0 < poolFree s
      && (enqueueBytes r).length = min 64 (total - 64 * r.cells.length)
      && (!r.cells.isEmpty || (!paceHeld s r.desc && admits s (mQueue r.desc) (ceilDiv total 64)))

/-- A channel's dequeue can act on its queue (09 R310). -/
def dequeueReady (s : State) (p : PTile) (c : Fin 8) : Bool :=
  match (chan s p c).active with
  | none => false
  | some r =>
    mOp r.desc = 4 && !r.aborting && r.stopping = 0 &&
      (if r.unlinked then !r.cells.isEmpty
       else r.queueCode = 0 && (!(queueOf s (mQueue r.desc)).items.isEmpty || !mQwait r.desc))

/-- One cell of an enqueue written; with the last the item is linked, and a record of queue 1,032 completes its item (09 R309, 15 R475, R486). A second record that an item's code links is queued too and completes nothing again (DESIGN CHOICE, notes/assumptions/38.md). -/
def enqueueCell (s : State) (p : PTile) (c : Fin 8) : State :=
  match (chan s p c).active, takeCell s with
  | some r, some (n, s) =>
    let d := r.desc
    let total := patTotal (srcPattern d)
    let bytes := enqueueBytes r
    let s := writeCell s n bytes []
    let cells := r.cells ++ [n]
    let stop := 64 * cells.length
    let keep (r : DmaRun) : DmaRun := { r with cells := cells, effect := s.cycle, staged := r.staged.filter fun b => stop < b.pos + b.bytes.length }
    if stop < total then modRunOf s p c keep
    else
      let done (r : DmaRun) : DmaRun := { keep r with linked := true }
      match (tile s p).run with
      | some j =>
        if j.replay then modRunOf (freeCells (if mQueue d = 1032 then replayRecord s p ((readItem s cells).1.take total) else s) cells) p c done
        else if mQueue d = 1032 then
          let s := linkItem s 1032 { prio := mPrio d, cells := cells, len := total, item := some j.item }
          modRunOf (completeItem s j.item) p c done
        else modRunOf (linkItem s (mQueue d) { prio := mPrio d, cells := cells, len := total }) p c done
      | none => modRunOf (linkItem s (mQueue d) { prio := mPrio d, cells := cells, len := total }) p c done
  | _, _ => s

/-- The words of a cell, from a position of its item on, that lie below a total (09 R297). -/
def wordsBelow (pos total : Nat) : Nat := min 8 (ceilDiv (total - pos) 8)

/-- Poisoned words among the first n words of a cell (09 R314). -/
def poisonedWords (s : State) (n words : Nat) : Nat :=
  ((List.range words).filter fun w => s.meadow.poison.contains (cellOff n + 8 * w) || (badByte s.meadow.bad (cellOff n + 8 * w) 8).isSome).length

/-- One cell of a dequeue: the unlink with the first, then one cell read, returned to the pool and delivered 64 cycles on; cells beyond the destination are only returned, and their poisoned words are not counted in POISON (09 R281, R297, R310, R315). -/
def dequeueCell (s : State) (p : PTile) (c : Fin 8) : State :=
  match (chan s p c).active with
  | none => s
  | some r =>
    let q := mQueue r.desc
    let total := patTotal (dstPattern r.desc)
    let start : Option (DmaRun × State) :=
      if r.unlinked then some (r, s)
      else match headItem (queueOf s q) with
        | none => none
        | some i => some ({ r with unlinked := true, itemCells := i.cells.length, cells := i.cells,
                                    queueCode := if total < 64 * i.cells.length then cQueueTruncated else 0 }, unlinkItem s q i)
    match start with
    | none => modRunOf s p c fun r => { r with queueCode := cQueueEmpty }
    | some (r, s) =>
      match r.cells with
      | [] => s
      | n :: rest =>
        let x := readCell s n
        let pos := r.itemPos
        let written := poisonedWords s n (wordsBelow pos total)
        let s := roAdd (freeCells (cellBank s n) [n]) oQueuePoisoned x.2
        let b : List Burst := if pos < total then [{ pos := pos, bytes := x.1.take (total - pos), due := s.cycle + 64 }] else []
        modRunOf s p c fun _ =>
          { r with
            cells := rest
            itemPos := pos + 64
            lastReturn := s.cycle
            poison := r.poison + written
            queueCode := if x.2 ≠ 0 then cQueuePoison else r.queueCode
            staged := r.staged ++ b }

/-- The record of an item that the controller wrote links: STEP is that of this cycle (01 R31, 14 R455). -/
def stampLink (s : State) (msg : Option Nat) : State :=
  match msg.bind fun m => (smGet {} s.ctrl.msgs m).item with
  | some k => modItem s k fun i => { i with linkStep := s.ctrl.step }
  | none => s

/-- One cell of a chip-side client's item; with the last it is linked (09 R309, R311). -/
def chipCell (s : State) (o : ChipOp) : Option (ChipOp × Bool × State) :=
  let k := ceilDiv o.bytes.length 64
  if o.cells.isEmpty && !(o.queue < 1024 || admits s o.queue k) then none
  else match takeCell s with
    | none => none
    | some (n, s) =>
      let i := o.cells.length
      let s := writeCell s n ((o.bytes.drop (64 * i)).take 64) ((o.bad.filter fun w => w / 8 = i).map (· % 8))
      let o := { o with cells := o.cells ++ [n] }
      if o.cells.length < k then some (o, false, s)
      else some (o, true, linkItem (stampLink s o.msg) o.queue { prio := o.prio, cells := o.cells, len := o.bytes.length, item := o.item, msg := o.msg })

/-- The first waiting item of a list that can act does; an item linked leaves the list. -/
def chipList (s : State) : List ChipOp → Option (List ChipOp × State)
  | [] => none
  | o :: rest =>
    match chipCell s o with
    | some (o', done, s') => some (if done then rest else o' :: rest, s')
    | none => (chipList s rest).map fun r => (o :: r.1, r.2)

/-- Marks and crossings of the queues that an operation of the cycle changed; they act from the next cycle. A crossing goes to the target tile, or notifies the system controller for target 0xFF: its firmware's list of queues (09 R293, R312; the form of that notice is a DESIGN CHOICE, notes/assumptions/50.md). -/
def queueMarks (s : State) : State :=
  let s := s.queues.touched.foldl (fun s x =>
    let q := x.1
    let f := queueFill s q
    let held := if qHigh s q ≤ f then setInsert s.queues.held q else if f ≤ qLow s q then setErase s.queues.held q else s.queues.held
    let s := { s with queues := { s.queues with held := held } }
    let l := qLevel s q
    if 1 ≤ l && x.2 < l && l ≤ f then
      match holderOf s (qTarget s q) with
      | some p => modTile s p fun t => raiseInt { t with dma := { t.dma with qcross := setInsert t.dma.qcross q } } 9
      | none => if qTarget s q = 0xFF then { s with ctrl := { s.ctrl with qcross := setInsert s.ctrl.qcross q } } else s
    else s) s
  { s with queues := { s.queues with touched := [] } }

end Sys2Proof.Machine
end

