-- ==== Sys2Proof/Machine/Records.lean ====
section
/-! DEFINITION. Result records, the result stream, the Merkle tree of a tick and the Onyx seal (14 R443, R455 to R465; 11 R370 to R372). -/

namespace Sys2Proof.Machine

open Sys2Proof

/-- SEED of an item (14 R443). -/
def seedOf (runTick : Nat) (pkgSeed : BitVec 64) (ctx job : Nat) : BitVec 64 :=
  digestMix (BitVec.ofNat 64 runTick) (pkgSeed ^^^ BitVec.ofNat 64 (ctx * 65536) ^^^ BitVec.ofNat 64 job)

/-- The record set of a tick. -/
def setOf (s : State) (tick : Nat) : Option TickSet := s.ctrl.sets.find? fun x => x.tick = tick

/-- The record set of a tick changed. -/
def modSet (s : State) (tick : Nat) (f : TickSet → TickSet) : State :=
  { s with ctrl := { s.ctrl with sets := s.ctrl.sets.map fun x => if x.tick = tick then f x else x } }

/-- The seed of the plan in force. -/
def planSeed (s : State) : BitVec 64 := match s.ctrl.plan with | some p => p.seed | none => 0

/-- A stream event (14 R459). -/
def streamEvent (s : State) (ctx code auSeq : Nat) : State :=
  let body := leBytes 2 ctx ++ leBytes 2 code ++ leBytes 4 auSeq ++ leBytes 8 (nowNs s)
  postMsg s { kind := 3, tick := s.ctrl.tick, body := body } body

/-- A tick event (14 R459): 1 lock state, 2 tick gap, 3 re-phase, 4 sequence gap, 5 PAUSED, 6 RESUMED, 7 SUSPECT, 8 RESTORED. -/
def tickEvent (s : State) (event : Nat) (a b : Int) : State :=
  let body := leBytes 8 event ++ leBytes 8 (wrapTo 64 a) ++ leBytes 8 (wrapTo 64 b) ++ leBytes 8 (nowNs s)
  postMsg s { kind := 4, tick := s.ctrl.tick, body := body } body

/-! Records. -/

/-- The e-fields of a record that the egress fills (14 R455). -/
structure EFields where
  /-- TICK -/
  tick : Nat := 0
  /-- RUN_TICK -/
  runTick : Nat := 0
  /-- SEED -/
  seed : BitVec 64 := 0
  /-- STEP -/
  step : Nat := 0
  /-- STATUS -/
  status : Nat := 0
  /-- CODE -/
  code : Nat := 0
  /-- RESTARTS -/
  restarts : Nat := 0
  /-- RERUNS -/
  reruns : Nat := 0
  /-- FIRST_PTILE -/
  firstTile : Nat := 255
  /-- LAST_PTILE -/
  lastTile : Nat := 255
  /-- the e-flags [7:0] -/
  flags : Nat := 0
  /-- PACKAGE_DIGEST -/
  package : List Byte := []
  /-- WEIGHTS_DIGEST -/
  weights : List Byte := []
  deriving DecidableEq, Repr

/-- Bytes 0 to 27 of a record (14 R455). -/
def recHead (e : EFields) : List Byte :=
  leBytes 8 e.tick ++ leBytes 8 e.runTick ++ leBytes 8 e.seed.toNat ++ leBytes 4 e.step

/-- OUTCOME_DIGEST (14 R457): over the weights digest, RUN_TICK and SEED, CONTEXT and JOB_ID, RANGE_EXCEEDED, bytes 42 to 55, and every byte from 200 on. t is the item as tile code wrote it. -/
def outcomeDigest (e : EFields) (t : List Byte) : List Byte :=
  sha384 (slice e.weights 0 48 ++ leBytes 8 e.runTick ++ leBytes 8 e.seed.toNat ++ slice t 28 4 ++ leBytes 1 (leAt t 41 1 % 2) ++ slice t 42 14 ++ t.drop 56)

/-- The OUTCOME_DIGEST field: zeros for FAILED, NOT_RUN and alarm records (14 R457). -/
def outcomeField (e : EFields) (alarm : Bool) (t : List Byte) : List Byte :=
  if alarm || e.status = cFailed || e.status = cNotRun then List.replicate 48 0 else outcomeDigest e t

/-- The body of a result record: the item with its e-fields filled and bytes 56 to 199 put in (14 R455, R456). -/
def recordBody (e : EFields) (alarm : Bool) (t : List Byte) : List Byte :=
  recHead e ++ slice t 28 4 ++ leBytes 2 e.status ++ leBytes 2 e.code ++ leBytes 1 e.restarts ++ leBytes 1 e.reruns
    ++ leBytes 1 e.firstTile ++ leBytes 1 e.lastTile ++ leBytes 1 e.flags ++ slice t 41 15
    ++ slice e.package 0 48 ++ slice e.weights 0 48 ++ outcomeField e alarm t ++ t.drop 56

/-- The item that tile code wrote has the length its counts give, and every e-field is 0 (14 R456). -/
def wellFormedRecord (t : List Byte) (len : Nat) : Bool :=
  len = 56 + 48 * leAt t 43 1 + 8 * leAt t 48 2 + leAt t 50 2 && leAt t 43 1 ≤ 16
    && allZero (slice t 0 28) && allZero (slice t 32 9)

/-- The tick's part of the e-flags: HOLDOVER and REPHASE (14 R455). -/
def tickFlags (s : State) (tick : Nat) : Nat :=
  match setOf s tick with
  | some x => (if x.holdover then 1 else 0) + (if x.rephase then 2 else 0)
  | none => 0

/-- The digests that records of a tick carry. -/
def tickDigests (s : State) (tick : Nat) : List Byte × List Byte :=
  match setOf s tick with
  | some x => (x.package, x.weights)
  | none => match s.ctrl.plan with | some p => (p.digest, p.weights) | none => ([], [])

/-- The e-fields of an item's record, from the item table (14 R455, R456). -/
def itemFields (s : State) (i : Item) : EFields :=
  let sc : Nat × Nat := match i.state with | .final st c => (st, c) | _ => (cDone, 0)
  { tick := i.tick, runTick := i.runTick, seed := i.seed, step := i.linkStep, status := sc.1, code := sc.2
    restarts := i.attempt, reruns := i.reruns, firstTile := i.firstTile, lastTile := i.lastTile
    flags := tickFlags s i.tick + i.marks.toNat % 256 / 4 * 4
    package := (tickDigests s i.tick).1, weights := (tickDigests s i.tick).2 }

/-- The e-fields of an alarm record (14 R458). -/
def alarmFields (s : State) (x : AlarmTx) (ctx status : Nat) : EFields :=
  let run := match setOf s x.tick with | some t => t.runTick | none => s.ctrl.runTick
  { tick := x.tick, runTick := run, seed := seedOf run (planSeed s) ctx x.job, step := x.step, status := status, code := x.code
    firstTile := x.ptile.val, lastTile := x.ptile.val, flags := tickFlags s x.tick + 16
    package := (tickDigests s x.tick).1, weights := (tickDigests s x.tick).2 }

/-! The result stream. -/

/-- The bodies of the datagrams of a message: 1,400 bytes each, the last shorter (11 R371). -/
def segments : Nat → List Byte → List (List Byte)
  | 0, _ => []
  | n + 1, b => if b.length ≤ 1400 then [b] else b.take 1400 :: segments n (b.drop 1400)

/-- The 24-byte header of a datagram (11 R370). -/
def dgramHeader (device kind first last len seq tick : Nat) : List Byte :=
  leBytes 1 1 ++ leBytes 1 kind ++ leBytes 1 (first + 2 * last) ++ leBytes 1 device ++ leBytes 2 len ++ leBytes 2 0 ++ leBytes 8 seq ++ leBytes 8 tick

/-- The datagrams of a message, header and body (11 R370, R371). -/
def datagrams (device : Nat) (m : Message) : List (List Byte) :=
  let l := segments m.body.length m.body
  (List.range l.length).map fun i =>
    let b := (l[i]?).getD []
    dgramHeader device m.kind (if i = 0 then 1 else 0) (if i + 1 = l.length then 1 else 0) b.length (m.seq + i) m.tick ++ b

/-- Bytes a message takes in the retention ring. -/
def messageLen (m : Message) : Nat := m.body.length + 24 * max 1 (ceilDiv m.body.length 1400)

/-- The ring with its oldest messages dropped until it holds at most 128 MiB (11 R372). -/
def trimRing : List Message → List Message
  | [] => []
  | m :: r => if (m :: r).foldl (fun n x => n + messageLen x) 0 ≤ 134217728 then m :: r else trimRing r

/-- A message sent: its datagrams take their numbers, go to each port and into the ring (11 R370 to R372). -/
def sendMessage (s : State) (kind tick : Nat) (body : List Byte) : State :=
  let n := max 1 (ceilDiv body.length 1400)
  let r := takeSeq s n
  let m : Message := { kind := kind, tick := tick, seq := r.1, body := body }
  let s := r.2
  let s := (datagrams (deviceId s) m).foldl (fun s d =>
    talkerSend s false (cfgNat s oResultPorts) 4 (cfgBytes s oResultDstAddr) (cfgNat s oResultUdpPort) d) s
  { s with eth := { s.eth with ring := trimRing (s.eth.ring ++ [m]) } }

/-- A record sent joins the set of its tick; one of a tick that has no set, as after a power cut, joins the oldest set (14 R462, R463; 16 R512). -/
def addLeaf (s : State) (tick ctx job event : Nat) (emit : Bool) (body : List Byte) : State :=
  let put (x : TickSet) : TickSet := { x with
    leaves := x.leaves ++ [{ ctx := ctx, job := job, event := event, digest := sha384 body }]
    alarms := if emit then x.alarms - 1 else x.alarms }
  if (setOf s tick).isSome then modSet s tick put
  else match s.ctrl.sets with
    | x :: r => { s with ctrl := { s.ctrl with sets := put x :: r } }
    | [] => s

/-- The quantisation events that an item's record reports. Each fallback follows one tripped verdict; verdicts that tripped without a fallback, and clamped groups, are named by nothing that reaches the controller, so their numbers are free values of the record, as is the layer of the last trip unless one fallback is the only trip (06 R214, R215, R216, R221, R225; notes/assumptions/32.md). -/
def countQuant (s : State) (t : List Byte) : State :=
  let fallbacks := leAt t 42 1
  let exceeded := leAt t 41 1 % 2
  let more := Config.plainTrips t
  let s := roAdd (roAdd s oQuantRangeExceeded exceeded) oQuantFallbacks fallbacks
  let s := roAdd (roAdd s oQuantTrips (fallbacks + more)) oQuantKvClamps (exceeded * Config.kvClamps t)
  if fallbacks + more = 0 then s
  else
    let layer := if fallbacks = 1 && more = 0 then leAt t 44 4 else Config.tripLayer t % 2 ^ 32
    roPut (roPut s oQuantLastTripLayer layer) oQuantLastTripContext (leAt t 28 2)

/-- The record of an item sent (14 R455 to R457). -/
def sendItemRecord (s : State) (k : Nat) (t : List Byte) : State :=
  let i := itemOf s k
  let e := itemFields s i
  let body := recordBody e false t
  let m := 200 + 48 * leAt t 43 1
  let s := sendMessage s 1 i.tick body
  let s := countQuant s t
  let s := modItem s k fun i => { i with
    recorded := true
    outcome := outcomeField e false t
    layers := (List.range (leAt t 48 2)).map fun j => BitVec.ofNat 64 (leAt body (m + 8 * j) 8) }
  addLeaf s i.tick (leAt t 28 2) (leAt t 30 2) 0 false body

/-- The record of an alarm, or of a handler that ended without an emit, sent (14 R458). -/
def sendAlarmRecord (s : State) (m : ResMsg) (x : AlarmTx) (t : List Byte) : State :=
  let body := recordBody (alarmFields s x (leAt t 28 2) m.status) true t
  addLeaf (sendMessage s 1 x.tick body) x.tick (leAt t 28 2) (leAt t 30 2) (if m.alarm.isSome then x.event else 0) m.emit body

/-- A message of the controller that was poisoned, or discarded with its queue: an alarm record is replaced by one of the same item with FAILED and the code, QUEUE_POISON or QUEUE_RESET; any other message is written again (09 R315, R317). -/
def replaceMessage (s : State) (m : ResMsg) (code : Nat) : State :=
  match m.alarm, m.ended, m.item with
  | some x, _, _ =>
    postMsg s { m with alarm := some { x with code := code }, status := cFailed } (sysRecord (leAt x.body 4 2) x.job [])
  | none, some x, _ => postMsg s { m with ended := some { x with code := code }, status := cFailed } (sysRecord 0 x.job [])
  | none, none, some k => endItemWith s k cFailed code
  | none, none, none => postMsg s m m.body

/-- A message of the controller sent. -/
def sendControllerMessage (s : State) (m : ResMsg) (t : List Byte) : State :=
  match m.item, m.alarm, m.ended with
  | some k, _, _ => sendItemRecord s k t
  | none, some x, _ => sendAlarmRecord s m x t
  | none, none, some x => sendAlarmRecord s m x t
  | none, none, none =>
    let s := sendMessage s m.kind m.tick m.body
    if m.kind = 2 then
      { s with ctrl := { s.ctrl with sealSent := some (sha384 m.body), seals := s.ctrl.seals + 1 } }
    else s

/-- RESULT_EGRESS_SEND: the result egress has read every cell of a record in its slots; the record's fields are filled and it is sent, a poisoned or malformed one is replaced (09 R311, R315; 11 R370; 14 R456; 15 R490). Of an item that tile code links a second record for, each record is sent as a further record of the item, and one that is poisoned or malformed ends the item FAILED after DONE (DESIGN CHOICE, notes/assumptions/38.md). -/
def execResultEgressSend (s : State) : Host.Outcome State Fault Refusal :=
  match s.queues.egress with
  | none => .next s
  | some x =>
    if !x.cells.isEmpty || s.ctrl.down.isSome then .next s
    else
      let s := { s with queues := { s.queues with egress := none } }
      let t := x.bytes.take x.item.len
      match x.item.item, x.item.msg with
      | some k, _ =>
        if x.poison ≠ 0 then .next (endItemWith s k cFailed cQueuePoison)
        else if wellFormedRecord t x.item.len then .next (sendItemRecord s k t)
        else .next (endItemWith s k cFailed cRecordMalformed)
      | none, some m =>
        let msg := smGet {} s.ctrl.msgs m
        let s := { s with ctrl := { s.ctrl with msgs := smDel s.ctrl.msgs m } }
        if x.poison ≠ 0 then .next (replaceMessage s msg cQueuePoison) else .next (sendControllerMessage s msg t)
      | none, none => .next s

/-! The Merkle tree and the seal. -/

/-- The largest power of 2 below n, for n ≥ 2 (14 R463), from p on. -/
def splitPoint : Nat → Nat → Nat → Nat
  | 0, _, p => p
  | f + 1, n, p => if 2 * p < n then splitPoint f n (2 * p) else p

/-- mth (14 R463). The first argument bounds the depth. -/
def merkle : Nat → List (List Byte) → List Byte
  | _, [] => sha384 []
  | _, [d] => sha384 (0 :: d)
  | 0, _ => []
  | f + 1, l =>
    let j := splitPoint 64 l.length 1
    sha384 (1 :: (merkle f (l.take j) ++ merkle f (l.drop j)))

/-- The order of the leaves (14 R463). -/
def leafLe (a b : RecLeaf) : Bool :=
  if a.ctx ≠ b.ctx then a.ctx < b.ctx
  else if a.job ≠ b.job then a.job < b.job
  else if a.event ≠ b.event then a.event < b.event
  else beNat a.digest ≤ beNat b.digest

/-- The root over a set (14 R463). -/
def rootOf (l : List RecLeaf) : List Byte := merkle 64 ((sortBy leafLe l).map (·.digest))

/-- Bytes 0 to 175 of a seal (14 R464). -/
def sealMessage (s : State) (x : TickSet) : List Byte :=
  let bit (b : Bool) (n : Nat) : Nat := if b then 2 ^ n else 0
  let flags := bit x.holdover 0 + bit x.rephase 1 + bit x.varied 2 + bit x.atBoundary 3 + bit s.ctrl.prevSeal.isNone 4 + bit x.suspect 5
  leBytes 8 x.tick ++ leBytes 8 x.runTick ++ leBytes 8 x.time ++ leBytes 4 x.leaves.length ++ leBytes 1 (deviceId s) ++ leBytes 1 flags ++ leBytes 2 0
    ++ slice x.package 0 48 ++ slice (rootOf x.leaves) 0 48 ++ slice (s.ctrl.prevSeal.getD []) 0 48

/-- A class-0 handler runs or waits on some tile (14 R462). -/
def anyHandler (s : State) : Bool := s.tiles.toList.any fun t => t.c0run.isSome || !t.c0wait.isEmpty || !t.trigs.isEmpty

/-- Every item of a tick has its record written, those of an interrupted tick before it too (14 R462, 16 R512). -/
def itemsRecorded (s : State) (tick : Nat) : Bool := s.ctrl.items.all fun i => tick < i.2.tick || i.2.recorded

/-- RECORD_SET_CLOSE: the oldest open set closes once its records and alarm records are written and no handler runs or waits, or after its boundary; its root is formed and the signing starts (14 R462, R465). -/
def execRecordSetClose (s : State) : Host.Outcome State Fault Refusal :=
  match s.ctrl.sets with
  | [] => .next s
  | x :: rest =>
    if x.message.isSome || !itemsRecorded s x.tick || x.alarms ≠ 0 || (!x.closed && anyHandler s) then .next s
    else .next { s with ctrl := { s.ctrl with sets := { x with closed := true, message := some (sealMessage s x) } :: rest } }

/-- ONYX_SEAL_SIGNED: the signature of the oldest set is made, and the seal enters queue 1,032; none is signed while the enclave fails its self-tests (14 R465, 15 R490). -/
def execOnyxSealSigned (s : State) : Host.Outcome State Fault Refusal :=
  if 2 ≤ s.ctrl.enclaveFails then .next s else
  match s.ctrl.sets with
  | [] => .next s
  | x :: rest =>
    match x.message with
    | none => .next s
    | some m =>
      let body := m ++ beBytes 96 (Config.attest (sha384 m) 0)
      let s := { s with ctrl := { s.ctrl with
        sets := rest
        prevSeal := some (sha384 body)
        items := s.ctrl.items.filter fun i => x.tick < i.2.tick || s.ctrl.tick ≤ i.2.tick } }
      .next (postMsg s { kind := 2, tick := x.tick, body := body } body)

end Sys2Proof.Machine
end

