-- ==== Sys2Proof/Machine/Package.lean ====
section
/-! DEFINITION. Model packages: their verification, the plan they carry, its form and its admission, and the weights digest (02 R59 to R61; 06 R222, R223, R581; 14 R461; 16 R511, R523 to R528). -/

namespace Sys2Proof.Machine

open Sys2Proof

/-! Sections. -/

/-- A section of a package: TYPE, OFFSET and LENGTH (16 R524). -/
abbrev Section := Nat × Nat × Nat

/-- The section directory (16 R524). -/
def directory (b : List Byte) : List Section :=
  (List.range (leAt b 256 4)).map fun i => (leAt b (264 + 24 * i) 2, leAt b (264 + 24 * i + 8) 8, leAt b (264 + 24 * i + 16) 8)

/-- Two extents overlap; one of length 0 overlaps nothing. -/
def overlap (a n b m : Nat) : Bool := 0 < n && 0 < m && a < b + m && b < a + n

/-- No two extents of a list overlap. -/
def disjoint : List (Nat × Nat) → Bool
  | [] => true
  | (a, n) :: r => !(r.any fun x => overlap a n x.1 x.2) && disjoint r

/-- The sections of a type. -/
def sectionsOf (d : List Section) (ty : Nat) : List Section := d.filter fun x => x.1 = ty

/-- An extent lies wholly inside one section of a type. -/
def insideSection (d : List Section) (ty off len : Nat) : Bool :=
  (sectionsOf d ty).any fun x => x.2.1 ≤ off && off + len ≤ x.2.1 + x.2.2

/-- The directory keeps the rules of 16 R524. -/
def directoryOk (b : List Byte) : Bool :=
  let n := leAt b 256 4
  let d := directory b
  264 + 24 * n ≤ b.length && leAt b 260 4 = 0
    && (List.range n).all (fun i => allZero (slice b (264 + 24 * i + 2) 6))
    && d.all (fun x => 1 ≤ x.1 && x.1 < 0x8000 && x.2.1 % 64 = 0 && x.2.1 + x.2.2 ≤ b.length)
    && disjoint ((0, 264 + 24 * n) :: d.map (·.2))
    && (sectionsOf d 1).length = 1 && (sectionsOf d 2).length ≤ 1 && 1 ≤ (sectionsOf d 4).length

/-- Entry k of lc.package_keys (16 R523). -/
def packageKey (s : State) (k : Nat) : List Byte := slice (cfgBytes s oLcPackageKeys) (97 * k) 97

/-- Step 1 of the verification of a package (16 R523, R524). -/
def packageForm (s : State) (b : List Byte) : Bool :=
  let key := packageKey s (leAt b 6 1)
  slice b 0 4 = textBytes [0x4D, 0x45, 0x50, 0x4B] && leAt b 4 2 = 1 && leAt b 6 1 < 4 && leAt b 7 1 ≤ 64
    && 256 ≤ leAt b 8 8 && leAt b 8 8 = b.length && leAt b 16 6 % 65536 = 0
    && leAt b 22 2 = 0 && leAt b 40 8 = 0 && allZero (slice b 192 64)
    && !allZero key && sha384 (b.drop 256) = slice b 48 48 && Config.ecdsaVerify key (sha384 (b.take 96)) (slice b 96 96)
    && directoryOk b

/-! Quantisation records. -/

/-- The quantisation records of a package (06 R222, 16 R524). -/
def quantRecords (b : List Byte) : List (List Byte) :=
  match sectionsOf (directory b) 2 with
  | x :: _ => (List.range (x.2.2 / 64)).map fun i => slice b (x.2.1 + 64 * i) 64
  | [] => []

/-- n_b of a record (06 R581). -/
def quantBlocks (q : List Byte) : Nat := ceilDiv (leAt q 24 2) 256 * ceilDiv (leAt q 26 2) 128 * leAt q 28 1 * leAt q 29 1
/-- Bytes of a weight block of a record (06 R581). -/
def quantBlockLen (q : List Byte) : Nat := if leAt q 4 1 = 3 then 16384 else 12288
/-- Bytes of a scale block of a record (06 R203). -/
def quantScaleLen (q : List Byte) : Nat := 16 + 512 * (128 / leAt q 6 1)
/-- Bytes of the drain parameters of a record, with their fallback copies (06 R581). -/
def quantDrainLen (q : List Byte) : Nat := (if leAt q 30 1 = 1 then 16 else 8) * leAt q 24 2

/-- 16 × x, one binary32 multiplication rounded to nearest, ties to even (06 R223). -/
def times16 (x : Nat) : Nat := (fMul binary32 0 x 0x41800000).1

/-- A quantisation record is valid in its package (06 R223). -/
def quantOk (b q : List Byte) : Bool :=
  let d := directory b
  let nb := quantBlocks q
  let offW := leAt q 40 8
  let offS := leAt q 48 8
  let offD := leAt q 56 8
  let n := leAt q 24 2
  (leAt q 4 1 = 3 || leAt q 4 1 = 4) && leAt q 5 1 ≤ 1 && (leAt q 6 1 = 32 || leAt q 6 1 = 64 || leAt q 6 1 = 128) && leAt q 30 1 ≤ 1
    && insideSection d 3 offW (nb * quantBlockLen q) && insideSection d 3 offS (nb * quantScaleLen q) && insideSection d 3 offD (quantDrainLen q)
    && (List.range nb).all (fun j =>
      let o := offS + j * quantScaleLen q
      leAt b o 1 = (leAt q 31 1 + j) % 256
        && (List.range (256 * (128 / leAt q 6 1))).all fun e => leAt b (o + 16 + 2 * e + 1) 1 ≤ 23)
    && (leAt q 30 1 = 0 || (List.range (2 * n)).all fun i => leAt b (offD + 8 * n + 4 * i) 4 = times16 (leAt b (offD + 4 * i) 4))

/-- Every quantisation record of a package is valid (06 R223). -/
def packageQuantOk (b : List Byte) : Bool :=
  (match sectionsOf (directory b) 2 with | x :: _ => x.2.2 % 64 = 0 | [] => true) && (quantRecords b).all (quantOk b)

/-- Verification of a model package: DONE, or the code of the first failure (16 R523). -/
def verifyPackage (s : State) (b : List Byte) : Nat :=
  if !packageForm s b then cPackageSignature
  else if leAt b 7 1 < s.keep.otp.pkgSvn then cRollbackRefused
  else if !packageQuantOk b then cPackageQuantInvalid
  else cDone

/-- The weights digest of a package (14 R461). -/
def weightsDigest (b : List Byte) : List Byte :=
  let records := sortBy (fun x y => leAt x 0 4 ≤ leAt y 0 4) (quantRecords b)
  sha384 (records.flatMap fun q =>
    q.take 40 ++ List.replicate 24 0 ++ slice b (leAt q 40 8) (quantBlocks q * quantBlockLen q)
      ++ slice b (leAt q 48 8) (quantBlocks q * quantScaleLen q) ++ slice b (leAt q 56 8) (quantDrainLen q))

/-! The plan. -/

/-- n records of a size from an offset of a list of bytes. -/
def records (b : List Byte) (off size n : Nat) : List (List Byte) := (List.range n).map fun i => slice b (off + size * i) size

/-- The tables of a PLAN section: offset, record size and count of tiles, entries, handlers, regions, ranges, powers and groups (16 R525). -/
def planTables (p : List Byte) : List (Nat × Nat × Nat) :=
  [(leAt p 32 4, 40, leAt p 6 1), (leAt p 36 4, 32, leAt p 8 4), (leAt p 40 4, 8, leAt p 12 2), (leAt p 44 4, 40, leAt p 14 2),
   (leAt p 48 4, 16, leAt p 16 4), (leAt p 52 4, 8, leAt p 20 4), (leAt p 56 4, 8, leAt p 24 2)]

/-- The records of one table. -/
def planTable (p : List Byte) (k : Nat) : List (List Byte) :=
  match (planTables p)[k]? with
  | some (o, z, n) => records p o z n
  | none => []

/-- A tile record (16 R525). -/
def toTile (r : List Byte) : PlanTile :=
  { entryFirst := leAt r 0 4, entryCount := leAt r 4 4, handlerFirst := leAt r 8 2, handlerCount := leAt r 10 1, reserved1 := leAt r 11 1
    c0Window := BitVec.ofNat 32 (leAt r 12 4), powerFirst := leAt r 16 4, powerCount := leAt r 20 4, codeOff := leAt r 24 8, codeLen := leAt r 32 4, reserved2 := leAt r 36 4 }

/-- An entry record (16 R526). -/
def toEntry (r : List Byte) : PlanEntry :=
  { job := leAt r 0 2, target := leAt r 2 2, cls := leAt r 4 1, prio := leAt r 5 1, flags := leAt r 6 1, rangeCount := leAt r 7 1, start := leAt r 8 4
    worst := leAt r 12 4, spareWorst := leAt r 16 4, pc := leAt r 20 4, rangeFirst := leAt r 24 4, reserved := leAt r 28 4 }

/-- A handler record (16 R526). -/
def toHandler (r : List Byte) : PlanHandler := { handler := leAt r 0 1, reserved := leAt r 1 1, worst := leAt r 2 2, pc := leAt r 4 4 }

/-- A region record (16 R527). -/
def toRegion (r : List Byte) : PlanRegion :=
  { kind := leAt r 0 1, arg := leAt r 1 1, device := leAt r 2 1, reserved := leAt r 3 1, deadline := leAt r 4 4, base := leAt r 8 8, length := leAt r 16 8, source := leAt r 24 8, copy1 := leAt r 32 8 }

/-- The plan of a package loaded at a base address, as its records give it (16 R523 to R527). -/
def toPlan (b : List Byte) : Plan :=
  match sectionsOf (directory b) 1 with
  | [] => {}
  | x :: _ =>
    let p := slice b x.2.1 x.2.2
    { digest := sha384 b, base := leAt b 16 6, length := b.length, svn := leAt b 7 1, seed := BitVec.ofNat 64 (leAt b 24 8), cpLayout := leAt b 32 8
      flags := leAt p 7 1
      tiles := (planTable p 0).map toTile
      entries := (planTable p 1).map toEntry
      handlers := (planTable p 2).map toHandler
      regions := (planTable p 3).map toRegion
      ranges := (planTable p 4).map fun r => (leAt r 0 8, leAt r 8 8)
      powers := (planTable p 5).map fun r => (leAt r 0 4, leAt r 4 1, leAt r 5 3)
      groups := (planTable p 6).map fun r => (leAt r 0 4, leAt r 4 4)
      weights := weightsDigest b }

/-- The entries of a tile record, in planned order. -/
def tileEntries (p : Plan) (t : PlanTile) : List PlanEntry := (p.entries.drop t.entryFirst).take t.entryCount
/-- The handlers of a tile record. -/
def tileHandlers (p : Plan) (t : PlanTile) : List PlanHandler := (p.handlers.drop t.handlerFirst).take t.handlerCount
/-- The power pairs of a tile record. -/
def tilePowers (p : Plan) (t : PlanTile) : List (Nat × Nat × Nat) := (p.powers.drop t.powerFirst).take t.powerCount

/-- A list does not fall. -/
def risingBy (lt : Nat → Nat → Bool) : List Nat → Bool
  | [] => true
  | [_] => true
  | a :: b :: r => lt a b && risingBy lt (b :: r)

/-- The header and the tables of a PLAN section (16 R525, R528). -/
def planHeaderOk (p : List Byte) : Bool :=
  let t := planTables p
  64 ≤ p.length && slice p 0 4 = textBytes [0x4D, 0x45, 0x50, 0x4C] && leAt p 4 2 = 1 && leAt p 7 1 ≤ 1 && allZero (slice p 26 6) && allZero (slice p 60 4)
    && t.all (fun x => x.1 % 8 = 0 && (x.2.2 = 0 || x.1 + x.2.1 * x.2.2 ≤ p.length))
    && disjoint ((0, 64) :: t.map fun x => (x.1, x.2.1 * x.2.2))

/-- The tile records (16 R525, R528). -/
def planTilesOk (d : List Section) (p : Plan) : Bool :=
  p.tiles.all (fun t =>
    t.reserved1 = 0 && t.reserved2 = 0 && field 31 25 t.c0Window.toNat = 0 && field 11 9 t.c0Window.toNat = 0
      && t.entryFirst + t.entryCount ≤ max p.entries.length t.entryFirst && t.handlerFirst + t.handlerCount ≤ max p.handlers.length t.handlerFirst
      && t.powerFirst + t.powerCount ≤ max p.powers.length t.powerFirst
      && (t.codeLen = 0 || insideSection d 4 t.codeOff t.codeLen) && t.codeOff % 32 = 0 && t.codeLen % 32 = 0
      && risingBy (fun a b => a ≤ b) ((tileEntries p t).map (·.start))
      && (tileEntries p t).all (fun e => e.pc % 32 = 0 && e.pc < t.codeLen)
      && (tileHandlers p t).all (fun h => h.handler ≤ 7 && h.pc % 32 = 0 && h.pc < t.codeLen)
      && disjoint ((tileHandlers p t).map fun h => (h.handler, 1))
      && (tilePowers p t).all (fun w => w.2.1 ≤ 4 && w.2.2 = 0)
      && risingBy (fun a b => a < b) ((tilePowers p t).map (·.1)))
    && disjoint (p.tiles.map fun t => (t.entryFirst, t.entryCount))

/-- The entry and handler records (16 R526, R528). -/
def planEntriesOk (p : Plan) : Bool :=
  p.entries.all (fun e =>
    1 ≤ e.cls && e.cls ≤ 3 && e.rangeCount ≤ 8 && (e.rangeCount = 0 || e.rangeFirst + e.rangeCount ≤ p.ranges.length) && e.flags ≤ 1 && e.reserved = 0
      && (p.flags ≠ 0 || e.prio = 0))
    && p.handlers.all (fun h => h.reserved = 0)

/-- A field of a region record that its KIND leaves 0 (16 R527). -/
def regionZeros (r : PlanRegion) : Bool :=
  r.reserved = 0
    && (r.kind = 5 || r.kind = 6 || r.arg = 0)
    && (r.kind = 6 || (r.device = 0 && r.deadline = 0))
    && (r.kind = 1 || r.kind = 2 || r.kind = 3 || r.source = 0)
    && (r.kind = 2 || r.kind = 3 || r.copy1 = 0)
    && r.base < 2 ^ 48 && r.copy1 < 2 ^ 48

/-- The region records (16 R527, R528). -/
def planRegionsOk (d : List Section) (p : Plan) : Bool :=
  p.regions.all (fun r =>
    1 ≤ r.kind && r.kind ≤ 6 && regionZeros r
      && (r.kind ≠ 3 || r.length = 0x400000) && (r.kind ≠ 5 || r.arg ≤ 7) && (r.kind ≠ 6 || r.arg ≤ 63)
      && (r.source = 0 || insideSection d 5 r.source r.length))
    && (p.regions.filter fun r => r.kind = 3).length ≤ 1
    && (p.cpLayout = 0 || p.regions.any fun r => r.kind = 3)

/-- The layer groups follow one another from layer 0 (16 R527). -/
def groupsFrom : Nat → List (Nat × Nat) → Bool
  | _, [] => true
  | n, (a, b) :: r => a = n && a ≤ b && groupsFrom (b + 1) r

/-- The layer groups reach every layer of a quantisation record (16 R528). -/
def planGroupsOk (b : List Byte) (p : Plan) : Bool :=
  groupsFrom 0 p.groups
    && (quantRecords b).all fun q => match p.groups.getLast? with | some g => leAt q 0 4 ≤ g.2 | none => false

/-- Check 0: the plan section is well formed (02 R60, 16 R528). -/
def planForm (b : List Byte) : Bool :=
  match sectionsOf (directory b) 1 with
  | [] => false
  | x :: _ =>
    let p := toPlan b
    let d := directory b
    planHeaderOk (slice b x.2.1 x.2.2) && planTilesOk d p && planEntriesOk p && planRegionsOk d p && planGroupsOk b p

/-- A tile record binds something (02 R60). -/
def tileBinds (t : PlanTile) : Bool := t.entryCount ≠ 0 || t.handlerCount ≠ 0 || t.powerCount ≠ 0 || t.codeLen ≠ 0

/-- Check 1 (02 R60). -/
def planTileRange (s : State) (p : Plan) : Bool := (p.tiles.drop (gradeTiles s)).all fun t => !tileBinds t

/-- A TARGET names a context, or a lock group that is enabled (02 R60, 16 R526). -/
def targetOk (s : State) (t : Nat) : Bool :=
  if t < 0x8000 then t ≤ 1023 else t - 0x8000 ≤ 63 && cfgOn s (oLockgroupEnable (t - 0x8000))

/-- Check 2 (02 R60). -/
def planContexts (s : State) (p : Plan) : Bool := p.entries.all fun e => targetOk s e.target

/-- The entries of a tile whose planned steps count: with load balancing on only those of class 3, whose START_STEP is read (02 R60, R61; 16 R526). -/
def plannedEntries (lb : Bool) (l : List PlanEntry) : List PlanEntry := l.filter fun e => !lb || e.cls = 3

/-- Check 3 (02 R60). -/
def planSlots (lb : Bool) (p : Plan) : Bool :=
  p.tiles.all fun t => disjoint ((plannedEntries lb (tileEntries p t)).map fun e => (e.start, e.worst))

/-- Worst-case steps of a list of entries. -/
def worstSum (l : List PlanEntry) : Nat := l.foldl (fun n e => n + e.worst) 0

/-- plan.worst_tile_steps: the highest sum of a tile (02 R74). -/
def worstTile (p : Plan) : Nat := p.tiles.foldl (fun m t => max m (worstSum (tileEntries p t))) 0

/-- B (02 R59). -/
def budgetOf (s : State) : Nat := stepsNow s * cfgNat s oPlanBudgetPercent / 100

/-- Check 4 (02 R60, R61). -/
def planBudget (s : State) (lb : Bool) (p : Plan) : Bool :=
  if lb then
    let shared := p.entries.filter fun e => e.cls ≠ 3
    worstSum shared ≤ budgetOf s * gradeTiles s && shared.all (fun e => e.worst ≤ budgetOf s)
      && p.tiles.all fun t => worstSum (plannedEntries true (tileEntries p t)) ≤ budgetOf s
  else p.tiles.all fun t => worstSum (tileEntries p t) ≤ budgetOf s

/-- Check 5 (02 R60). -/
def planClass0 (p : Plan) : Bool := p.handlers.all fun h => h.worst ≤ 2048

/-- A row of a table lies in the range that some tile record gives it: it is bound to a tile (02 R60, 16 R525). -/
def boundRow (p : Plan) (first count : PlanTile → Nat) (k : Nat) : Bool := p.tiles.any fun t => first t ≤ k && k < first t + count t

/-- Check 6 (02 R60). -/
def planPriority (lb : Bool) (p : Plan) : Bool :=
  !lb || ((List.range p.entries.length).all fun k => ((p.entries[k]?).getD {}).cls ≠ 3 || boundRow p (·.entryFirst) (·.entryCount) k)
    && ((List.range p.handlers.length).all (boundRow p (·.handlerFirst) (·.handlerCount)))
    && p.entries.all fun e => (e.cls ≠ 1 || (4 ≤ e.prio && e.prio ≤ 7)) && (e.cls ≠ 2 || e.prio ≤ 3)

/-- An extent lies in the Meadow plan region (08 R250). -/
def inMeadowPlan (a n : Nat) : Bool := meadowBase ≤ a && a + n ≤ meadowBase + 0x0F800000

/-- An extent lies in the package's own region of the HBM plan region (16 R527). -/
def inPackage (p : Plan) (a n : Nat) : Bool := p.base ≤ a && a + n ≤ p.base + p.length

/-- Where a region of a kind may lie (16 R527). -/
def regionPlace (p : Plan) (r : PlanRegion) : Bool :=
  if r.kind = 1 || r.kind = 4 || r.kind = 5 then inMeadowPlan r.base r.length
  else if r.kind = 2 || r.kind = 3 then
    (inMeadowPlan r.base r.length || inPackage p r.base r.length) && (inMeadowPlan r.copy1 r.length || inPackage p r.copy1 r.length)
  else 0x030000000000 + r.device * 2 ^ 32 ≤ r.base && r.base + r.length ≤ 0x030000000000 + (r.device + 1) * 2 ^ 32

/-- The extents a region takes in this part's memories. -/
def regionExtents (r : PlanRegion) : List (Nat × Nat) :=
  if r.kind = 6 then [] else if r.kind = 2 || r.kind = 3 then [(r.base, r.length), (r.copy1, r.length)] else [(r.base, r.length)]

/-- Bytes of an entry's write set (15 R486). -/
def writeSetLen (p : Plan) (e : PlanEntry) : Nat := ((p.ranges.drop e.rangeFirst).take e.rangeCount).foldl (fun n r => n + r.2) 0

/-- Core memory of a tile: the code image, the class-0 window and the descriptor area do not meet (08 R264, 16 R525, R528). -/
def coreFits (t : PlanTile) : Bool :=
  t.codeLen ≤ 0x100000
    && disjoint [(0, t.codeLen), (field 8 0 t.c0Window.toNat * 4096, field 24 12 t.c0Window.toNat * 4096), (descArea, 0x1000)]
    && field 8 0 t.c0Window.toNat * 4096 + field 24 12 t.c0Window.toNat * 4096 ≤ coreSize

/-- Items of classes 1 and 2 that a plan places in one priority in one tick (09 R307). -/
def prioItems (p : Plan) (k : Nat) : Nat := (p.entries.filter fun e => e.prio = k && (e.cls = 1 || (e.cls = 2 && e.worst ≠ 0))).length

/-- Check 7 (02 R60; 16 R511, R528). A package names no activation-buffer space, so there is none to check for the INT16 tensors of 06 R217 (DEDUCED, notes/assumptions/52.md). -/
def planMemory (lb : Bool) (p : Plan) : Bool :=
  p.regions.all (regionPlace p) && disjoint (p.regions.flatMap regionExtents)
    && p.tiles.all coreFits
    && p.regions.all (fun r => r.kind ≠ 5 || p.entries.all fun e => writeSetLen p e ≤ r.length)
    && p.entries.length ≤ 65536
    && (!lb || (List.range 8).all fun k => prioItems p k ≤ 8192)

/-- Checks 1 to 7 of the admission of a plan under the configuration of a state: DONE, or the first failing code in the order of the table (02 R60). -/
def admitPlan (s : State) (p : Plan) : Nat :=
  let lb := cfgOn s oPlanLoadBalance
  if !planTileRange s p then cPlanTileRange
  else if !planContexts s p then cPlanContext
  else if !planSlots lb p then cPlanSlotConflict
  else if !planBudget s lb p then cPlanOverBudget
  else if !planClass0 p then cPlanClass0Bound
  else if !planPriority lb p then cPlanPriority
  else if !planMemory lb p then cPlanMemory
  else cDone

/-- Admission of the plan of a package (02 R60). -/
def admission (s : State) (b : List Byte) : Nat := if planForm b then admitPlan s (toPlan b) else cPlanFormat

/-- A package that the part holds verified in HBM (02 R582). -/
def heldPackage (s : State) (digest : List Byte) : Option Package := s.ctrl.packages.find? fun p => p.digest = digest

/-- The bytes of a held package: with an uncorrectable granule none. -/
def packageBytes (s : State) (p : Package) : List Byte × State :=
  let r := hbmReadMany (p.length / 64 + 2) s p.base p.length
  (r.1.getD [], r.2)

/-- Bytes of HBM or Meadow memory as the system controller reads them: a byte of Meadow with bad parity counts one error and is notified with its address, and bytes that it cannot correct are delivered as stored (08 R259, R260; the reaction to an error that no item meets is a DESIGN CHOICE, notes/assumptions/52.md). -/
def chipRead (s : State) (a n : Nat) : List Byte × State :=
  if meadowBase ≤ a then
    (memRead s.meadow.mem (a - meadowBase) n,
      match badByte s.meadow.bad (a - meadowBase) n with
      | none => s
      | some o => notify (roAdd s oMeadowParity 1) cMeadowParity 0 0 (leBytes 8 (meadowBase + o)))
  else
    let r := hbmReadMany (n / 64 + 2) s a n
    match r.1 with
    | some b => (b, r.2)
    | none => (memRead s.hbm.mem a n, r.2)

/-- Bytes of HBM or Meadow memory that the system controller writes. -/
def chipWrite (s : State) (a : Nat) (b : List Byte) : State :=
  if meadowBase ≤ a then meadowSet s (a - meadowBase) b else hbmSet s a b

/-- The copy of a carried region that run tick r reads (15 R475). -/
def carriedCopy (r : PlanRegion) (runTick : Nat) : Nat := if runTick % 2 = 0 then r.base else r.copy1

/-- The save digest: SHA-384 over the carried regions in the order of their declaration, in the copy that the next run tick reads, and the state after these reads (14 R452, 15 R475). -/
def saveDigest (s : State) : List Byte × State :=
  match s.ctrl.plan with
  | none => (sha384 [], s)
  | some p =>
    let x := (p.regions.filter fun r => r.kind = 2 || r.kind = 3).foldl (fun (a : List Byte × State) r =>
      let b := chipRead a.2 (carriedCopy r s.ctrl.nextRun) r.length
      (a.1 ++ b.1, b.2)) ([], s)
    (sha384 x.1, x.2)

/-- SAVE_DIGEST_COMPLETE: the save digest of a pause is published (14 R452). -/
def execSaveDigestComplete (s : State) : Host.Outcome State Fault Refusal :=
  if s.ctrl.paused && s.ctrl.saving then
    let d := saveDigest s
    .next { d.2 with ctrl := { d.2.ctrl with save := some d.1, saving := false } }
  else .next s

/-- RESUME_VERIFY_COMPLETE: the save digest is computed again; on equality the plan resumes at the next boundary, else DET_SAVE_MISMATCH (14 R453). -/
def execResumeVerifyComplete (s : State) : Host.Outcome State Fault Refusal :=
  if s.ctrl.verify ≠ 1 then .next s
  else
    let d := saveDigest s
    let s := d.2
    if s.ctrl.save = some d.1 then .next { s with ctrl := { s.ctrl with verify := 2 } }
    else .next (notify { s with ctrl := { s.ctrl with verify := 3 } } cDetSaveMismatch 0 0)

/-! Checkpoints. -/

/-- The contexts whose slots a checkpoint takes: enabled and not empty (16 R513). -/
def checkpointContexts (s : State) : List Nat := (s.intake.ctx.filter fun c => c.2.state ≠ 0 && c.2.state ≠ 1).map (·.1)

/-- CHECKPOINT_COMMIT: the slots of the checkpoint in progress are journaled from the carried copy that no attempt writes, and a CP_COMMIT record completes it (16 R513, R514). -/
def execCheckpointCommit (s : State) : Host.Outcome State Fault Refusal :=
  match s.ctrl.checkpoint, s.ctrl.plan with
  | some run, some p =>
    match p.regions.find? fun r => r.kind = 3 with
    | none => .next { s with ctrl := { s.ctrl with checkpoint := none } }
    | some r =>
      let ctxs := checkpointContexts s
      let s := ctxs.foldl (fun s c =>
        let b := chipRead s (carriedCopy r run + 4096 * c) 4096
        journal b.2 (.checkpoint c run b.1)) s
      let s := journal s (.cpCommit run p.cpLayout p.digest ctxs.length)
      .next (roPut { s with ctrl := { s.ctrl with checkpoint := none } } oKeepCheckpointLast run)
  | _, _ => .next s

end Sys2Proof.Machine
end

