-- ==== Sys2Proof/Machine/Ether.lean ====
section
/-! DEFINITION. The Ethernet ports: links, ingress checks, filters, elimination, gates, MKA, gPTP, and the answers to ARP, Neighbor Discovery, ICMP and group queries (11 R344 to R366; 02 R52, R53; 10 R324). -/

namespace Sys2Proof.Machine

open Sys2Proof

/-! Lock state and holdover. -/

/-- tick.lock_state set; a change is reported in the result stream and as a notification (02 R52). -/
def setLock (s : State) (new : Nat) : State :=
  let old := s.ctrl.lock
  if old = new then s
  else
    let s := { s with ctrl := { s.ctrl with lock := new }, eth := { s.eth with neverLocked := s.eth.neverLocked && new ≠ 2 } }
    notify (tickEvent s 1 old new) Config.lockCode.toNat 5 (s.ctrl.tick % 2 ^ 32) (leBytes 1 old ++ leBytes 1 new)

/-- The tick follows edges of TICK_IN or TICK frames (02 R47). -/
def followsEdges (s : State) : Bool := cfgNat s oTickSource = 2 || cfgNat s oTickSource = 3

/-- Tile cycles between two boundaries of a source that sends edges or frames: as last measured, else nominal (02 R50, R53). -/
def edgePeriod (s : State) : Nat := if s.ctrl.edgePeriod = 0 then max 1 (pNom (periodN s) (periodD s)) else s.ctrl.edgePeriod

/-- Phase error of the last boundary in ns: against t(k) with source 1, against the last edge or the master's last boundary with sources 2 and 3 (02 R48, R50, R54; 13 R435). -/
def phaseError (s : State) : Int :=
  if cfgNat s oTickSource = 1 then (s.ctrl.time : Int) - (tickTime s s.ctrl.tick : Int)
  else match followsEdges s, s.ctrl.edgeAt with
    | true, some e =>
      let p : Int := edgePeriod s
      let d := ((s.ctrl.boundary : Int) - (e : Int)) % p
      2 * (if 2 * d ≤ p then d else d - p)
    | _, _ => 0

/-- Distance in ns of the present cycle from the expected time of an edge, whole periods after the last one (02 R50). -/
def edgeError (s : State) (e : Nat) : Nat :=
  let p := edgePeriod s
  let d := (s.cycle - e) % p
  2 * (if e + p / 2 ≤ s.cycle then min d (p - d) else p)

/-- An edge accepted, or a TICK frame: the source had a boundary in tile cycle c, which gives its place, its rate where it is one period after the one before, and the phase error of the part's last boundary (02 R50, R53, R54). -/
def sourceEdge (s : State) (c : Nat) : State :=
  let p := edgePeriod s
  let s := { s with ctrl := { s.ctrl with
    edgeAt := some c
    edgesMissed := 0
    edgePeriod := match s.ctrl.edgeAt with
      | some e => if 2 * (c - e) < 3 * p && p < 2 * (c - e) then c - e else s.ctrl.edgePeriod
      | none => s.ctrl.edgePeriod } }
  { s with ctrl := { s.ctrl with edgeErrs := ((phaseError s).natAbs :: s.ctrl.edgeErrs).take 16 } }

/-- The largest |offset| over the last 16 sync intervals, or |phase error| over the last 16 edges or TICK frames, plus 16 ns (02 R53; 11 R366). -/
def eLock (s : State) : Nat := (if followsEdges s then s.ctrl.edgeErrs else s.eth.offsets).foldl max 0 + 16

/-- The estimated error in ns of the current boundary, from the last good sync, edge or TICK frame on (02 R53; 11 R366), 2^63 − 1 while the part has never locked (16 R531). -/
def holdoverError (s : State) : Nat :=
  if s.eth.neverLocked then 2 ^ 63 - 1
  else if s.eth.ptpState ≠ 2 && s.ctrl.lock ≠ 3 then 0
  else
    let t := 2 * (s.ctrl.boundary - (if followsEdges s then s.ctrl.edgeAt.getD 0 else s.eth.lastSync))
    let uf := cfgNat s oPtpFreqUncertainty
    let ua := cfgNat s oPtpAging
    min (2 ^ 63 - 1) (eLock s + (uf * t * (2 * 86400 * 10 ^ 9) + ua * t * t) / (2 * 86400 * 10 ^ 18))

/-! Links and preemption. -/

/-- Speed of a mode; mode 4 runs as the PHY reports (11 R344). -/
def modeSpeed (mode phy : Nat) : Nat :=
  if mode = 0 || mode = 1 then 10000 else if mode = 2 then 2500 else if mode = 3 then 1000 else phy

/-- A link goes down: frames that wait on it are lost, MKA starts anew (notes/assumptions/25.md). -/
def linkDown (s : State) (e : Fin 2) : State :=
  modPort s e fun p => { p with link := false, speed := 0, fec := false, preempt := 0, verifies := 0, queue := [], wireX := 0, wireP := 0, peers := [], mka := if cfgOn s (oMacsecEnable e.val) then 1 else 0, asCapable := false, synced := false }

/-- The mode of a port: port.mode, or before the journal is replayed the mode that its BOOT_PORT record gives the boot ROM (11 R344; 16 R501, R530). -/
def portMode (s : State) (e : Fin 2) : Nat :=
  if s.power.phase ≤ 4 || s.power.phase = 9 then s.keep.recs.foldl (fun m r => match r.body with | .bootPort q v => if q = e.val then v else m | _ => m) 0
  else cfgNat s (oPortMode e.val)

/-- A link comes up: the verify procedure starts when preemption is enabled (11 R344, R352). -/
def linkUp (s : State) (e : Fin 2) (phy : Nat) (fec : Bool) : State :=
  modPort s e fun p => { p with
    link := true
    speed := modeSpeed (portMode s e) phy
    fec := fec && portMode s e = 1
    preempt := if cfgOn s (oPortPreemptEnable e.val) then 1 else 0
    verifies := 0
    mka := if cfgOn s (oMacsecEnable e.val) then 1 else 0 }

/-- PORT_LINK_CHANGE: a port's link comes up, unless the port is Off or its reference clock is lost, or goes down (11 R344; 17 R536, R550). -/
def execPortLinkChange (e : Fin 2) (up : Bool) (phy : BitVec 32) (fec : Bool) (s : State) : Host.Outcome State Fault Refusal :=
  if !up then .next (linkDown s e)
  else if domainState s (84 + e.val) ≠ 0 || !s.power.ethRefclk || (ethPort s e).link then .next s
  else .next (linkUp s e phy.toNat fec)

/-- PREEMPT_VERIFY: a verify frame is sent, three at most; 10 ms after the third the procedure has failed (11 R352). -/
def execPreemptVerify (e : Fin 2) (s : State) : Host.Outcome State Fault Refusal :=
  let p := ethPort s e
  if !p.link || p.preempt ≠ 1 then .next s
  else if 3 ≤ p.verifies then .next (modPort s e fun p => { p with preempt := 3 })
  else .next (sendFrame (modPort s e fun p => { p with verifies := p.verifies + 1 }) e { cls := 7, proto := 8 })

/-- PREEMPT_VERIFY_RESPONSE: the partner answers, and preemption is ACTIVE (11 R352). -/
def execPreemptVerifyResponse (e : Fin 2) (s : State) : Host.Outcome State Fault Refusal :=
  if (ethPort s e).link && (ethPort s e).preempt = 1 then .next (modPort s e fun p => { p with preempt := 2 }) else .next s

/-! Gate control lists. -/

/-- The gate list as the objects of a port hold it (11 R349). -/
def gclOf (s : State) (e : Nat) : Gcl :=
  let n := cfgNat s (oGclCount e)
  let b := if n = 0 then [] else cfgBytes s (oGclEntries e)
  { count := n, cycle_ := cfgNat s (oGclCycleTime e), base := cfgNat s (oGclBaseTime e)
    entries := (List.range n).map fun i => (leAt b (8 * i) 1, leAt b (8 * i + 4) 4) }

/-- A list becomes operational (11 R350). -/
def gclSwitch (s : State) (e : Fin 2) (g : Gcl) : State :=
  let s := modPort s e fun p => { p with gcl := g, gclNext := none, gclIdx := 0 }
  modPort s e fun p => { p with gclIdx := gclEntryAt g.entries (gclPhase s e) 0 }

/-- A committed list waits for its first cycle start at or after the boundary; one without entries acts at once (11 R349, R350). -/
def gclCommit (s : State) (e : Fin 2) : State :=
  let g := gclOf s e.val
  if g.count = 0 then gclSwitch s e g
  else
    let late : Int := ((nowNs s : Int) - (g.base : Int)) % (g.cycle_ : Int)
    modPort s e fun p => { p with gclNext := some g, gclNextAt := if late = 0 then nowNs s else nowNs s + g.cycle_ - late.toNat }

/-- GCL_LIST_SWITCH: the committed list becomes operational at its cycle start (11 R350). -/
def execGclListSwitch (e : Fin 2) (s : State) : Host.Outcome State Fault Refusal :=
  match (ethPort s e).gclNext with
  | some g => if (ethPort s e).gclNextAt ≤ nowNs s then .next (gclSwitch s e g) else .next s
  | none => .next s

/-- GCL_ENTRY_ADVANCE: the list stands at the entry of the present time (11 R349). -/
def execGclEntryAdvance (e : Fin 2) (s : State) : Host.Outcome State Fault Refusal :=
  if (ethPort s e).gcl.count = 0 then .next s
  else .next (modPort s e fun p => { p with gclIdx := gclEntryAt p.gcl.entries (gclPhase s e) 0 })

/-! Ingress. -/

/-- The part's secure channel identifier on a port: its MAC address with port identifier 1 (11 R361). -/
def ownSci (s : State) (e : Fin 2) : Nat := beNat (slice ((s.part.mac[e.val]?).getD []) 0 6) * 65536 + 1

/-- A frame dropped by MACsec (11 R361). -/
def macsecDrop (s : State) (e : Fin 2) : Bool × State := (false, roAdd s (oMacsecRxDropped e.val) 1)
/-- A frame dropped and counted in port.rx_dropped (11 R345, R346, R360). -/
def portDrop (s : State) (e : Fin 2) : Bool × State := (false, roAdd s (oPortRxDropped e.val) 1)

/-- The MACsec check of a frame that is not EAPOL (11 R361, R363; IEEE 802.1AE replay protection). -/
def macsecCheck (s : State) (e : Fin 2) (h : L2Head) : Bool × State :=
  let p := ethPort s e
  match cfgOn s (oMacsecEnable e.val), h.sec with
  | false, none => (true, s)
  | false, some _ => portDrop s e
  | true, none => macsecDrop s e
  | true, some t =>
    if p.mka ≠ 2 || !t.ok then macsecDrop s e
    else match p.peers.find? fun x => x.sci = t.sci with
      | none => macsecDrop s e
      | some x =>
        if t.pn < x.pn - cfgNat s (oMacsecReplayWindow e.val) then macsecDrop s e
        else (true, modPort s e fun p => { p with peers := p.peers.map fun y => if y.sci = t.sci then { y with pn := max y.pn (t.pn + 1) } else y })

/-- A VID is accepted (11 R360). -/
def vlanOk (s : State) (e : Fin 2) (h : L2Head) : Bool :=
  match h.vid with
  | none => true
  | some v => v = 0 || match smFind s.cfg (oPortAcceptVids e.val) with
    | none => false
    | some b => (List.range 64).any fun i => leAt b (2 * i) 2 = v.toNat

/-- The checks that every frame but EAPOL meets: link, length, MACsec and VLAN (01 R26; 11 R345, R360, R361). -/
def ingress (s : State) (e : Fin 2) (h : L2Head) : Bool × State :=
  if !(ethPort s e).link then (false, s)
  else if 1600 < h.len then portDrop s e
  else
    let r := macsecCheck s e h
    if !r.1 then r else if vlanOk s e h then r else portDrop r.2 e

/-- Stream filter i as the configuration holds it; none while no filter is configured (11 R354). -/
def filterOf (s : State) (i : Nat) : Option (List Byte) := (smFind s.cfg oQciFilters).map fun b => slice b (32 * i) 32

/-- A filter is valid, covers the port, and matches (11 R354, R355, R374). -/
def filterMatches (f : List Byte) (e vid dport : Nat) (dst : List Byte) : Bool :=
  let flags := leAt f 0 1
  bitAt 0 flags && bitAt (1 + e) flags && (leAt f 2 2 = 0xFFFF || leAt f 2 2 = vid) && (leAt f 4 2 = 0 || leAt f 4 2 = dport)
    && (allZero (slice f 8 16) || slice f 8 16 = dst)

/-- The lowest matching filter (11 R355). -/
def matchFilter (s : State) (e vid dport : Nat) (dst : List Byte) : Option (Nat × List Byte) :=
  match smFind s.cfg oQciFilters with
  | none => none
  | some b => (List.range 2048).findSome? fun i =>
    let f := slice b (32 * i) 32
    if filterMatches f e vid dport dst then some (i, f) else none

/-- A filter's counters changed. -/
def countFilter (s : State) (i : Nat) (pass : Bool) : State :=
  { s with eth := { s.eth with qci := if pass then { s.eth.qci with passed := smMod 0 s.eth.qci.passed i (· + 1) } else { s.eth.qci with dropped := smMod 0 s.eth.qci.dropped i (· + 1) } } }

/-- Tokens of a filter's bucket now, in 1/4,000,000 byte: CIR × 1,000 / 8 a second up to CBS, full until first used (11 R355). -/
def bucketNow (s : State) (i : Nat) (f : List Byte) : Nat :=
  let full := leAt f 28 4 * 4000000
  match smFind s.eth.qci.tokens i with
  | none => full
  | some (n, at_) => min full (n + leAt f 24 4 * (s.cycle - at_))

/-- The action of a filter on a frame of length L (11 R355). -/
def filterFrame (s : State) (i : Nat) (f : List Byte) (len : Nat) : Bool × State :=
  let sdu := leAt f 6 2
  let cir := leAt f 24 4
  if s.eth.qci.blocked.contains i then (false, countFilter s i false)
  else if 1 ≤ sdu && sdu < len then
    let s := if bitAt 3 (leAt f 0 1) then { s with eth := { s.eth with qci := { s.eth.qci with blocked := setInsert s.eth.qci.blocked i } } } else s
    (false, countFilter s i false)
  else if cir = 0 then (true, countFilter s i true)
  else
    let t := bucketNow s i f
    let keep (s : State) (n : Nat) : State := { s with eth := { s.eth with qci := { s.eth.qci with tokens := smPut s.eth.qci.tokens i (n, s.cycle) } } }
    if t < len * 4000000 then (false, countFilter (keep s t) i false) else (true, countFilter (keep s (t - len * 4000000)) i true)

/-- The listener stream of a filter (11 R357, R359). -/
def listenerOf (s : State) (filter : Nat) : Option Nat :=
  match smFind s.cfg oFrerListeners with
  | none => none
  | some b => ((List.range 254).find? fun i => bitAt 0 (leAt b (16 * i) 1) && leAt b (16 * i + 2) 2 = filter).map (· + 2)

/-- The vector recovery algorithm of IEEE 802.1CB with a history of 32: accepted or not, and the state after (11 R359). -/
def recoverFrame (r : Recovery) (n : Nat) : Bool × Recovery :=
  match r.high with
  | none => (true, { r with high := some n, seen := [n], passed := r.passed + 1 })
  | some h =>
    let d := signedOf 16 ((n + 65536 - h) % 65536)
    if 32 ≤ d || d ≤ -32 then (false, { r with discarded := r.discarded + 1 })
    else if d ≤ 0 then
      if r.seen.contains n then (false, { r with discarded := r.discarded + 1 })
      else (true, { r with seen := n :: r.seen, passed := r.passed + 1 })
    else
      let inside := (n :: r.seen).filter fun x => (n + 65536 - x) % 65536 < 32
      (true, { r with high := some n, seen := inside, passed := r.passed + 1 })

/-- Elimination of a frame that passed its filter (11 R359). -/
def eliminate (s : State) (filter : Nat) (rtag : Option (BitVec 16)) : Bool × State :=
  match listenerOf s filter with
  | none => (true, s)
  | some k =>
    let r := smGet {} s.eth.frer k
    let x := match rtag with
      | none => (true, { r with tagless := r.tagless + 1, passed := r.passed + 1 })
      | some n => recoverFrame r n.toNat
    (x.1, { s with eth := { s.eth with frer := smPut s.eth.frer k x.2 } })

/-- Filters and elimination of an IP frame (11 R355, R359). -/
def police (s : State) (e : Fin 2) (h : L2Head) (rtag : Option (BitVec 16)) (dst : List Byte) (dport : Nat) : Bool × State :=
  match matchFilter s e.val (match h.vid with | some v => v.toNat | none => 0) dport dst with
  | none => (true, s)
  | some (i, f) =>
    let r := filterFrame s i f h.len
    if r.1 then eliminate r.2 i rtag else r

/-- A UDP datagram through every check of the port (01 R26; 11 R345 to R361). -/
def udpIngress (s : State) (e : Fin 2) (f : InFrame) : Bool × State :=
  let r := ingress s e f.head
  if r.1 then police r.2 e f.head f.rtag f.dst f.dport.toNat else r

/-- FRER_RECOVERY_RESET: RESET_MS have passed without a frame, and the recovery state of a listener resets (11 R359). -/
def execFrerRecoveryReset (stream : BitVec 8) (s : State) : Host.Outcome State Fault Refusal :=
  match smFind s.eth.frer stream.toNat with
  | none => .next s
  | some r => .next { s with eth := { s.eth with frer := smPut s.eth.frer stream.toNat { r with high := none, seen := [] } } }

/-- FRAME_DROP: a frame that the port does not take is dropped and counted; flow-control and oversize frames at the MAC, the others behind the port's checks (11 R345, R346). -/
def execFrameDrop (e : Fin 2) (h : L2Head) (kind : DropKind) (s : State) : Host.Outcome State Fault Refusal :=
  if !(ethPort s e).link then .next s
  else match kind with
    | .pause | .pfc | .oversize => .next (portDrop s e).2
    | .tcp | .fragment | .other =>
      let r := ingress s e h
      .next (if r.1 then (portDrop r.2 e).2 else r.2)

/-! Addresses, ARP, Neighbor Discovery and ICMP. -/

/-- ARP_REQUEST: a request for the port's IPv4 address is answered; ARP frames are never filtered (11 R346, R355). -/
def execArpRequest (e : Fin 2) (h : L2Head) (mac ip target : List Byte) (s : State) : Host.Outcome State Fault Refusal :=
  let r := ingress s e h
  let own := cfgBytes s (oPortIpv4 e.val)
  if r.1 && !allZero own && target = own then
    .next (sendFrame r.2 e { cls := 5, dst := mac, proto := 1, body := [0, 1, 8, 0, 6, 4, 0, 2] ++ macOf s e ++ own ++ slice mac 0 6 ++ slice ip 0 4 })
  else .next r.2

/-- NEIGHBOR_SOLICITATION: a solicitation of one of the port's IPv6 addresses is answered by an advertisement (11 R346, R355). -/
def execNeighborSolicitation (e : Fin 2) (h : L2Head) (src target : List Byte) (s : State) : Host.Outcome State Fault Refusal :=
  let r := ingress s e h
  if r.1 && !isV4 target && (ownAddrs s e).contains target then
    let all := [0xFF, 0x02] ++ List.replicate 13 0 ++ [1]
    .next (sendFrame r.2 e { cls := 5, dst := if allZero src then all else src, src := target, proto := 2, body := [136, 0, 0, 0, if allZero src then 0x20 else 0x60, 0, 0, 0] ++ target ++ [2, 1] ++ macOf s e })
  else .next r.2

/-- ICMP_ECHO_REQUEST: an echo request to one of the port's addresses is answered with its identifier, number and data, unless the answer would be a frame of more than 1,560 bytes (11 R345, R346). -/
def execIcmpEchoRequest (e : Fin 2) (h : L2Head) (src dst data : List Byte) (s : State) : Host.Outcome State Fault Refusal :=
  let r := ingress s e h
  let q := if r.1 then police r.2 e h none dst 0 else r
  let f : EthTx := { cls := 5, dst := src, src := dst, proto := 3, body := [if isV4 dst then 0 else 129, 0, 0, 0] ++ data }
  if q.1 && (ownAddrs s e).contains dst && frameLen s e f ≤ 1560 then .next (sendFrame q.2 e f) else .next q.2

/-! Groups (10 R324; RFC 3376, RFC 3810). -/

/-- A membership report of one record for a group, with its sources. ty is the record type. -/
def oneReport (s : State) (e : Fin 2) (ty : Byte) (group : List Byte) (srcs : List (List Byte)) : State :=
  let v4 := isV4 group
  let addr (a : List Byte) : List Byte := if v4 then a.drop 12 else a
  let body := [if v4 then 0x22 else 143, 0, 0, 0, 0, 0, 0, 1, ty, 0] ++ beBytes 2 srcs.length ++ addr group ++ srcs.flatMap addr
  let dst := if v4 then v4Lead ++ [224, 0, 0, 22] else [0xFF, 0x02] ++ List.replicate 13 0 ++ [0x16]
  sendFrame s e { cls := 5, dst := dst, proto := if v4 then 4 else 5, body := body }

/-- The membership reports of one record: one frame for up to 80 sources, so that none is longer than 1,560 bytes (11 R345; RFC 3376, RFC 3810). -/
def joinReport (s : State) (e : Fin 2) (ty : Byte) (group : List Byte) (srcs : List (List Byte)) : State :=
  (List.range (max 1 ((srcs.length + 79) / 80))).foldl (fun s i => oneReport s e ty group ((srcs.drop (80 * i)).take 80)) s

/-- An address is a multicast group. -/
def isGroup (a : List Byte) : Bool := if isV4 a then 224 ≤ (a.getD 12 0).toNat && (a.getD 12 0).toNat < 240 else a.getD 0 0 = 0xFF

/-- ctx.port names a port (10 R320, R324). -/
def ctxOnPort (s : State) (c e : Nat) : Bool := cfgNat s (oCtxPort c) = 2 || cfgNat s (oCtxPort c) = e

/-- A context uses a group on a port: it is enabled, not empty and not suspended (10 R322, R324, R335). -/
def ctxJoins (s : State) (e c : Nat) (x : Ctx) : Bool :=
  (x.state = 2 || x.state = 3) && isGroup (cfgBytes s (oCtxDstAddr c)) && ctxOnPort s c e

/-- The memberships of a port: each group that a context uses, once, with the union of their sources; no sources is EXCLUDE mode with an empty list, as soon as one of its contexts takes any source (10 R322, R324, R335). -/
def memberships (s : State) (e : Nat) : List (List Byte × List (List Byte)) :=
  let uses := s.intake.ctx.filterMap fun c => if ctxJoins s e c.1 c.2 then some (cfgBytes s (oCtxDstAddr c.1), cfgBytes s (oCtxSrcAddr c.1)) else none
  let once (l : List (List Byte)) : List (List Byte) := l.foldl (fun a x => if a.contains x then a else a ++ [x]) []
  (once (uses.map (·.1))).map fun g =>
    let srcs := once ((uses.filter fun u => u.1 = g).map (·.2))
    (g, if srcs.any allZero then [] else srcs)

/-- A query asks for a membership: an IGMP query, whose group has 4 bytes, for IPv4 groups and an MLD query for IPv6 ones; address 0 asks for every group (10 R324, RFC 3376, RFC 3810). -/
def queried (group m : List Byte) : Bool :=
  isV4 m == decide (group.length = 4) && (allZero group || m = (if group.length = 4 then v4Lead ++ group else group))

/-- The address that a query is sent to: the group it asks for, or all systems (RFC 3376, RFC 3810). -/
def queryDst (group : List Byte) : List Byte :=
  if group.length = 4 then v4Lead ++ (if allZero group then [224, 0, 0, 1] else group)
  else if allZero group then [0xFF, 0x02] ++ List.replicate 13 0 ++ [1] else group

/-- IGMP_QUERY: a membership query that passes its filter is answered for the groups of its kind joined on the port, or the one it names (10 R324; 11 R346, R355). -/
def execIgmpQuery (e : Fin 2) (h : L2Head) (group : List Byte) (s : State) : Host.Outcome State Fault Refusal :=
  let r := ingress s e h
  let q := if r.1 then police r.2 e h none (queryDst group) 0 else r
  if q.1 then
    let groups := (memberships q.2 e.val).filter fun j => queried group j.1
    .next (groups.foldl (fun s j => joinReport s e (if j.2.isEmpty then 2 else 1) j.1 j.2) q.2)
  else .next q.2

/-- The report that a context's join sends: the membership of its group, which it shares (10 R324). -/
def sendJoin (s : State) (e : Fin 2) (c : Nat) : State :=
  let g := cfgBytes s (oCtxDstAddr c)
  let srcs := match (memberships s e.val).find? fun m => m.1 = g with | some m => m.2 | none => []
  joinReport s e (if srcs.isEmpty then 4 else 5) g srcs

/-- MULTICAST_JOIN: the unsolicited report of a context enabled at the last boundary; its repeat follows 1 s later (10 R324). -/
def execMulticastJoin (e : Fin 2) (c : BitVec 10) (s : State) : Host.Outcome State Fault Refusal :=
  let x := (e.val, c.toNat, false)
  if s.intake.joinAt.contains x then
    .next (sendJoin { s with intake := { s.intake with joinAt := s.intake.joinAt.erase x ++ [(e.val, c.toNat, true)] } } e c.toNat)
  else .next s

/-- MULTICAST_JOIN_REPEAT: the report again, once (10 R324). -/
def execMulticastJoinRepeat (e : Fin 2) (c : BitVec 10) (s : State) : Host.Outcome State Fault Refusal :=
  let x := (e.val, c.toNat, true)
  if s.intake.joinAt.contains x then
    .next (sendJoin { s with intake := { s.intake with joinAt := s.intake.joinAt.erase x } } e c.toNat)
  else .next s

/-! MKA (11 R362). -/

/-- The part is the key server: its priority, and then its identifier, is the lowest (IEEE 802.1X). -/
def keyServer (s : State) (e : Fin 2) : Bool :=
  let prio := cfgNat s (oMacsecKeyServerPriority e.val)
  (ethPort s e).peers.all fun p => prio < p.prio || (prio = p.prio && ownSci s e < p.sci)

/-- The port takes part in MKA. -/
def mkaActive (s : State) (e : Fin 2) : Bool :=
  (ethPort s e).link && cfgOn s (oMacsecEnable e.val) && (smFind s.keep.cak e.val).isSome

/-- A new SAK in use: packet numbers start anew (11 R362). -/
def newSak (s : State) (e : Fin 2) : State :=
  modPort s e fun p => { p with sak := p.sak + 1, pn := 0, mka := 2, peers := p.peers.map fun x => { x with pn := 0 } }

/-- An MKPDU of the part (11 R362). Its bytes are IEEE 802.1X's and are left out of the log of frames sent. -/
def sendMka (s : State) (e : Fin 2) : State := sendFrame s e { cls := 5, dst := [0x01, 0x80, 0xC2, 0, 0, 0x03], proto := 6 }

/-- MKPDU_RECEIVE: a peer's frame whose ICV verifies keeps it alive; a peer that joins makes the key server distribute a new SAK, and a SAK distributed by the key server is taken (11 R361, R362). -/
def execMkpduReceive (e : Fin 2) (sci : Word) (prio : BitVec 8) (ok sak : Bool) (s : State) : Host.Outcome State Fault Refusal :=
  if !mkaActive s e || !ok then .next s
  else
    let known := (ethPort s e).peers.any fun p => p.sci = sci.toNat
    if !known && 4 ≤ (ethPort s e).peers.length then .next s
    else
      let peers (l : List MkaPeer) : List MkaPeer :=
        if known then l.map fun p => if p.sci = sci.toNat then { p with heard := nowNs s, prio := prio.toNat } else p
        else l ++ [{ sci := sci.toNat, prio := prio.toNat, heard := nowNs s }]
      let s := modPort s e fun p => { p with peers := peers p.peers, mka := max 1 p.mka }
      if keyServer s e then .next (if known then s else sendMka (newSak s e) e)
      else .next (if sak then newSak s e else s)

/-- MKA_HELLO: the port's MKPDU every 2 s; the key server renews the SAK when the packet number has reached 2^62 (11 R362). -/
def execMkaHello (e : Fin 2) (s : State) : Host.Outcome State Fault Refusal :=
  if !mkaActive s e then .next s
  else
    let s := if (ethPort s e).mka = 2 && 2 ^ 62 ≤ (ethPort s e).pn && keyServer s e then newSak s e else s
    .next (sendMka s e)

/-- MKA_LIFE_EXPIRE: peers unheard for 6 s leave; without one the port is MKA_PENDING again (11 R362). -/
def execMkaLifeExpire (e : Fin 2) (s : State) : Host.Outcome State Fault Refusal :=
  let live := (ethPort s e).peers.filter fun p => nowNs s < p.heard + 6000000000
  .next (modPort s e fun p => { p with peers := live, mka := if live.isEmpty && p.mka = 2 then 1 else p.mka })

/-! gPTP (11 R364 to R366). -/

/-- The part follows a port: SLAVE, and out of HOLDOVER (11 R366). -/
def followPort (s : State) (e : Fin 2) : State :=
  { s with eth := { s.eth with ptpState := 1, slave := e.val } }

/-- The lock state of source 1 after a sync message or at a boundary: LOCKED while the last offset and the last boundary lie within 1 µs of their source, else ACQUIRING; nothing changes while no sync comes (02 R52, R54; notes/assumptions/26.md). -/
def lockGptp (s : State) : State :=
  if cfgNat s oTickSource ≠ 1 || s.eth.ptpState ≠ 1 || s.power.phase < 7 then s
  else
    let late : Int := (s.ctrl.time : Int) - (tickTime s s.ctrl.tick : Int)
    if s.eth.offset.natAbs ≤ 1000 && (s.power.phase ≠ 8 || late.natAbs ≤ 1000) then setLock s 2 else setLock s 1

/-- PTP_SYNC_RECEIVE: a sync message of the slave port gives an offset from the master, and the servo renews the part's estimate of the time base. The servo's law is not in the spec: the estimate and the rate after it are free values (11 R364, R366; notes/assumptions/26.md). -/
def execPtpSyncReceive (e : Fin 2) (h : L2Head) (master : Word) (s : State) : Host.Outcome State Fault Refusal :=
  let r := ingress s e h
  if !r.1 || !(ethPort s e).asCapable then .next r.2
  else
    let s := modPort r.2 e fun p => { p with synced := true }
    let s := if s.eth.ptpState ≠ 1 && (s.eth.slave = e.val || !(s.eth.port[s.eth.slave % 2]).synced) then followPort s e else s
    if s.eth.slave ≠ e.val then .next s
    else
      let off : Int := (nowNs s : Int) - ((master.toNat : Int) + ((ethPort s e).pdelay : Int))
      let time := drawFree s
      let rate := drawFree time.2
      let s := rate.2
      .next (lockGptp { s with eth := { s.eth with
        offset := off
        offsets := (off.natAbs :: s.eth.offsets).take 16
        lastSync := s.cycle
        time0 := time.1.toNat
        time0At := s.cycle
        rate := signedOf 32 (rate.1.toNat % 2 ^ 32) } })

/-- PTP_ANNOUNCE_RECEIVE: the grandmaster announced on a port; the port with the better one becomes the slave port, and the part never acts as master (11 R364, R366). prio is the priority vector as one number, the lower the better. -/
def execPtpAnnounceReceive (e : Fin 2) (h : L2Head) (gm : List Byte) (prio : BitVec 64) (s : State) : Host.Outcome State Fault Refusal :=
  let r := ingress s e h
  if !r.1 || !(ethPort s e).asCapable then .next r.2
  else
    let s := modPort r.2 e fun p => { p with gm := slice gm 0 8, gmPrio := prio.toNat }
    let other := s.eth.port[1 - e.val]
    let better := other.gm.isEmpty || !other.asCapable || prio.toNat < other.gmPrio || (prio.toNat = other.gmPrio && e.val = 0)
    if s.eth.slave ≠ e.val && better then .next { s with eth := { s.eth with slave := e.val } } else .next s

/-- PTP_PDELAY_TIMER: a peer delay request every second (11 R364). -/
def execPtpPdelayTimer (e : Fin 2) (s : State) : Host.Outcome State Fault Refusal :=
  if !portUp s e then .next s
  else
    let s := modPort s e fun p => { p with pdelaySeq := (p.pdelaySeq + 1) % 65536, pdelayAt := nowNs s }
    .next (sendFrame s e { cls := 6, dst := [0x01, 0x80, 0xC2, 0, 0, 0x0E], proto := 7, body := [0x12] ++ beBytes 2 (ethPort s e).pdelaySeq })

/-- PTP_PDELAY_REQ_RECEIVE: a peer delay request is answered by a response with the time of its receipt and a follow-up with the time of the response (11 R364, R365). -/
def execPtpPdelayReqReceive (e : Fin 2) (h : L2Head) (seq : BitVec 16) (s : State) : Host.Outcome State Fault Refusal :=
  let r := ingress s e h
  if !r.1 then .next r.2
  else
    let msg (ty : Byte) : EthTx := { cls := 6, dst := [0x01, 0x80, 0xC2, 0, 0, 0x0E], proto := 7, body := [ty] ++ beBytes 2 seq.toNat ++ beBytes 8 (nowNs s) }
    .next (sendFrame (sendFrame r.2 e (msg 0x13)) e (msg 0x1A))

/-- PTP_PDELAY_RESP_RECEIVE: the response to the last request updates the measured delay; a neighbour within 800 ns is asCapable (11 R364). turn is the time the neighbour held the request. -/
def execPtpPdelayRespReceive (e : Fin 2) (h : L2Head) (seq : BitVec 16) (turn : BitVec 64) (s : State) : Host.Outcome State Fault Refusal :=
  let r := ingress s e h
  let p := ethPort s e
  if !r.1 || seq.toNat ≠ p.pdelaySeq then .next r.2
  else
    let d := (nowNs s - p.pdelayAt - turn.toNat) / 2
    .next (modPort r.2 e fun p => { p with pdelay := d, asCapable := d ≤ 800 })

/-- PTP_SYNC_TIMEOUT: a port has lost sync. From the slave port the part moves to the other port when it has an asCapable neighbour with the same grandmaster; when no port has sync the part enters HOLDOVER, and so does a tick that follows gPTP (11 R366, 02 R53). -/
def execPtpSyncTimeout (e : Fin 2) (s : State) : Host.Outcome State Fault Refusal :=
  let was := ethPort s e
  let s := modPort s e fun p => { p with synced := false }
  if s.eth.slave ≠ e.val || s.eth.ptpState ≠ 1 then .next s
  else
    let o : Fin 2 := if e = 0 then 1 else 0
    let other := ethPort s o
    if other.asCapable && other.gm = was.gm && !was.gm.isEmpty then .next (followPort s o)
    else if other.synced then .next (followPort s o)
    else
      let s := { s with eth := { s.eth with ptpState := 2 } }
      if cfgNat s oTickSource = 1 && s.ctrl.lock ≠ 0 then .next (setLock s 3) else .next s

end Sys2Proof.Machine
end

