-- ==== Sys2Proof/Machine/Intake.lean ====
section
/-! DEFINITION. Stream intake and decode: RTP, access units, the bitstream ring, decode engines and the decoded picture buffer (10 R320 to R341; 01 R26 to R29). -/

namespace Sys2Proof.Machine

open Sys2Proof

/-- A stream context. -/
def ctxOf (s : State) (c : Nat) : Ctx := smGet {} s.intake.ctx c

/-- A stream context changed; one as after reset is not listed. -/
def modCtx (s : State) (c : Nat) (f : Ctx → Ctx) : State :=
  let x := f (ctxOf s c)
  { s with intake := { s.intake with ctx := if x = {} then smDel s.intake.ctx c else smPut s.intake.ctx c x } }

/-- The context is empty (10 R322). -/
def ctxEmpty (s : State) (c : Nat) : Bool :=
  cfgNat s (oCtxRingSize c) = 0 || cfgNat s (oCtxDpbSlots c) = 0 || cfgNat s (oCtxMaxLuma c) = 0 || cfgNat s (oCtxMaxFps c) = 0

/-- Declared load of a context in samples per second (10 R334). -/
def declaredLoad (s : State) (c : Nat) : Nat := cfgNat s (oCtxMaxFps c) * (cfgNat s (oCtxMaxLuma c) + 2000)

/-- Contexts that are enabled and not empty, ascending; ctx.enable is FALSE where it is not listed (10 R321, R322). -/
def liveContexts (s : State) : List Nat :=
  s.cfg.filterMap fun x =>
    let c := x.1 / 256 - 0x5400
    if 0x5400 ≤ x.1 / 256 && c < 1024 && x.1 = oCtxEnable c && leNat x.2 ≠ 0 && !ctxEmpty s c then some c else none

/-- The sum of the declared loads × 1.001, times 1,000 (10 R334). -/
def loadSum (s : State) (l : List Nat) : Nat := l.foldl (fun n c => n + declaredLoad s c * 1001) 0

/-- Decode engines in service: eight while at most one has failed (10 R334, R335). -/
def enginesInService (s : State) : Nat := min 8 ((s.intake.engines.toList.filter fun g => !g.failed).length)

/-- decode.capacity (10 R334). -/
def decodeCapacity (s : State) : Nat := 1000000000 * enginesInService s

/-- Depth of a token bucket, in 1/500,000,000,000 sample (10 R334). -/
def bucketDepth (s : State) (c : Nat) : Nat := 4 * (cfgNat s (oCtxMaxLuma c) + 2000) * 500000000000

/-- Tokens of a context now: refilled at the declared load × 1.001 (10 R334). A tile cycle of 2 ns adds declared load × 1.001 × 2e-9 sample. -/
def tokensNow (s : State) (c : Nat) : Nat :=
  let x := ctxOf s c
  min (bucketDepth s c) (x.tokens + declaredLoad s c * 1001 * (s.cycle - x.tokensAt))

/-! Entries into WAIT_IDR. -/

/-- An entry into WAIT_IDR is counted, notified and written to the result stream (10 R327). stop sets whether the intake discards units too: where the decoder skips items that the intake has queued, the intake goes on queueing, and the next undamaged IDR unit is the one that it queues with RESYNC, the parameter sets and a new extension (10 R326, R327, R329, R332 and the worked loss of context 417; DEDUCED, notes/assumptions/27.md). -/
def enterWait (s : State) (c code auSeq : Nat) (stop : Bool) : State :=
  let s := roPut (roAdd s (oCtxResyncs c) 1) (oCtxLastCode c) code
  let s := streamEvent (notify s code 1 c (leBytes 4 auSeq)) c code auSeq
  modCtx s c fun x => { x with state := if stop && x.state = 3 then 2 else x.state, rewait := !stop, needParams := true, resync := true, rtpExt := if stop then none else x.rtpExt }

/-- A unit dropped or skipped (10 R320). -/
def countDropped (s : State) (c : Nat) : State := roAdd s (oCtxDropped c) 1

/-! NAL units. -/

/-- The start code of Annex B (10 R326). -/
def startCode : List Byte := [0, 0, 0, 1]

/-- What one RTP payload adds to its unit (10 R325, R326). -/
structure Depacket where
  /-- whole NAL units in Annex B form -/
  bytes : List Byte := []
  /-- bytes of the fragmented NAL unit, and whether they begin it and end it -/
  part : Option (Bool × Bool × List Byte) := none
  /-- the packet is refused -/
  bad : Bool := false
  deriving DecidableEq, Repr

/-- The NAL units of an aggregation packet, each behind its 2-byte length (RFC 6184, RFC 7798). -/
def aggregated : Nat → List Byte → Option (List Byte)
  | 0, _ => none
  | _, [] => some []
  | f + 1, b =>
    let n := beAt b 0 2
    if b.length < 2 + n || n = 0 then none
    else (aggregated f (b.drop (2 + n))).map fun r => startCode ++ slice b 2 n ++ r

/-- A fragment: start, end, the rebuilt NAL header and its bytes; one that is both is refused (RFC 6184, RFC 7798). -/
def fragment (start stop : Bool) (header bytes : List Byte) : Depacket :=
  if start && stop then { bad := true }
  else { part := some (start, stop, if start then startCode ++ header ++ bytes else bytes) }

/-- An H.264 payload under RFC 6184, packetization modes 0 and 1 (10 R325). -/
def depacketH264 (b : List Byte) : Depacket :=
  let h := leAt b 0 1
  let ty := h % 32
  if 1 ≤ ty && ty ≤ 23 then { bytes := startCode ++ b }
  else if ty = 24 then match aggregated b.length (b.drop 1) with
    | some r => { bytes := r, bad := r.isEmpty }
    | none => { bad := true }
  else if ty = 28 && 2 ≤ b.length then
    let f := leAt b 1 1
    fragment (bitAt 7 f) (bitAt 6 f) [BitVec.ofNat 8 (h / 32 * 32 + f % 32)] (b.drop 2)
  else { bad := true }

/-- An H.265 payload under RFC 7798 without DONL (10 R325). -/
def depacketH265 (b : List Byte) : Depacket :=
  let h := leAt b 0 1
  let ty := h / 2 % 64
  if b.length < 2 then { bad := true }
  else if ty < 48 then { bytes := startCode ++ b }
  else if ty = 48 then match aggregated b.length (b.drop 2) with
    | some r => { bytes := r, bad := r.isEmpty }
    | none => { bad := true }
  else if ty = 49 && 3 ≤ b.length then
    let f := leAt b 2 1
    fragment (bitAt 7 f) (bitAt 6 f) [BitVec.ofNat 8 (h / 128 * 128 + f % 64 * 2 + h % 2), b.getD 1 0] (b.drop 3)
  else { bad := true }

/-- A unit with what a payload adds. The bytes of a fragmented NAL unit join the unit with its last fragment; a fragment without its start, or one whose NAL unit is broken off by a gap, a new start or another payload, is dropped, and damages the unit (10 R325). -/
def joinPayload (u : AccessUnit) (gap idr : Bool) (d : Depacket) : AccessUnit :=
  let broken := u.frag && gap
  let u := { u with damaged := u.damaged || gap || d.bad, frag := u.frag && !broken, fragBytes := if broken then [] else u.fragBytes }
  match d.part with
  | none =>
    if d.bad then u
    else { u with bytes := u.bytes ++ d.bytes, idr := u.idr || idr, damaged := u.damaged || u.frag, frag := false, fragBytes := [] }
  | some (true, _, b) => { u with damaged := u.damaged || u.frag, frag := true, fragBytes := b, fragIdr := idr }
  | some (false, stop, b) =>
    if !u.frag then { u with damaged := true }
    else if stop then { u with bytes := u.bytes ++ u.fragBytes ++ b, idr := u.idr || u.fragIdr, frag := false, fragBytes := [] }
    else { u with fragBytes := u.fragBytes ++ b }

/-- The NAL unit type in the first byte of a header (10 R325). -/
def nalType (h264 : Bool) (h : Nat) : Nat := if h264 then h % 32 else h / 2 % 64

/-- The types of the NAL units of an aggregation packet. -/
def aggregatedTypes (h264 : Bool) : Nat → List Byte → List Nat
  | 0, _ => []
  | f + 1, x => if x.length < 3 then [] else nalType h264 (leAt x 2 1) :: aggregatedTypes h264 f (x.drop (2 + beAt x 0 2))

/-- The types of the NAL units that a payload begins (10 R325). -/
def payloadTypes (h264 : Bool) (b : List Byte) : List Nat :=
  let ty := nalType h264 (leAt b 0 1)
  if h264 then
    if 1 ≤ ty && ty ≤ 23 then [ty]
    else if ty = 28 then (if bitAt 7 (leAt b 1 1) then [leAt b 1 1 % 32] else [])
    else if ty = 24 then aggregatedTypes true b.length (b.drop 1)
    else []
  else if ty < 48 then [ty]
  else if ty = 49 then (if bitAt 7 (leAt b 2 1) then [leAt b 2 1 % 64] else [])
  else if ty = 48 then aggregatedTypes false b.length (b.drop 2)
  else []

/-- A NAL unit type of an IDR unit (10 R327). -/
def idrType (h264 : Bool) (ty : Nat) : Bool := if h264 then ty = 5 else ty = 19 || ty = 20

/-! RTP. -/

/-- The fixed header of an RTP packet: payload type, marker, sequence number, timestamp, SSRC (RFC 3550). -/
structure Rtp where
  /-- payload type -/
  pt : Nat
  /-- marker -/
  marker : Bool
  /-- sequence number -/
  seq : Nat
  /-- timestamp -/
  ts : BitVec 32
  /-- SSRC -/
  ssrc : Nat
  /-- payload without CSRC entries, header extension and padding -/
  payload : List Byte
  deriving DecidableEq, Repr

/-- An RTP version 2 packet taken apart (10 R325). -/
def parseRtp (b : List Byte) : Option Rtp :=
  let b0 := leAt b 0 1
  if b.length < 12 || b0 / 64 ≠ 2 then none
  else
    let body := b.drop (12 + 4 * (b0 % 16))
    let body := if bitAt 4 b0 then body.drop (4 + 4 * beAt body 2 2) else body
    let body := if bitAt 5 b0 then body.take (body.length - (body.getLast?.getD 0).toNat) else body
    some { pt := leAt b 1 1 % 128, marker := bitAt 7 (leAt b 1 1), seq := beAt b 2 2, ts := BitVec.ofNat 32 (beAt b 4 4), ssrc := beAt b 8 4, payload := body }

/-- The context that a packet matches: in WAIT_IDR or RUNNING, on its port, with its destination, UDP port, SSRC and payload type (01 R26, 10 R324). -/
def matchContext (s : State) (e : Fin 2) (f : InFrame) (r : Rtp) : Option Nat :=
  (s.intake.ctx.find? fun c =>
    (c.2.state = 2 || c.2.state = 3) && ctxOnPort s c.1 e.val && cfgBytes s (oCtxDstAddr c.1) = f.dst && cfgNat s (oCtxUdpPort c.1) = f.dport.toNat
      && cfgNat s (oCtxSsrc c.1) = r.ssrc && cfgNat s (oCtxPayloadType c.1) = r.pt).map (·.1)

/-! Units. -/

/-- A multiple of 2^32 added to a timestamp so that it lies nearest a reference (10 R329). -/
def nearest (reference ts : Nat) : Nat :=
  let base := reference / 2 ^ 32 * 2 ^ 32 + ts
  let far (x : Nat) : Nat := if x < reference then reference - x else x - reference
  let up := base + 2 ^ 32
  let low := base - 2 ^ 32
  if far up < far base then up % 2 ^ 64 else if 2 ^ 32 ≤ base && far low < far base then low else base

/-- Capture time (10 R329). -/
def captureTime (s : State) (c arrival rtpExt : Nat) : Nat :=
  if cfgNat s (oCtxCaptureMode c) = 1 then
    wrapTo 64 ((cfgNat s (oCtxAnchorTime c) : Int) + ((rtpExt : Int) - (cfgNat s (oCtxAnchorRtp c) : Int)) * 1000000000 / 90000)
  else wrapTo 64 ((arrival : Int) - (cfgNat s (oCtxCaptureLatency c) : Int))

/-- The out-of-band parameter sets in Annex B form (10 R326). -/
def paramSets (s : State) (c : Nat) : List Byte :=
  match smFind s.cfg (oCtxParamSets c) with
  | none => []
  | some b => (aggregated 1024 (slice b 2 (leAt b 0 2))).getD []

/-- Bytes written into a context's ring from an offset on, wrapping at its end (10 R326). -/
def ringWrite (s : State) (c off : Nat) (b : List Byte) : State :=
  let base := cfgNat s (oCtxRingBase c)
  let size := cfgNat s (oCtxRingSize c)
  let n := min b.length (size - off)
  hbmSet (hbmSet s (base + off) (b.take n)) base (b.drop n)

/-- Bytes of a context's ring from an offset on (10 R326). -/
def ringRead (s : State) (c off n : Nat) : Option (List Byte) × State :=
  let base := cfgNat s (oCtxRingBase c)
  let size := cfgNat s (oCtxRingSize c)
  let m := min n (size - off)
  let x := hbmReadMany (m / 64 + 2) s (base + off) m
  let y := hbmReadMany ((n - m) / 64 + 2) x.2 base (n - m)
  (match x.1, y.1 with | some a, some b => some (a ++ b) | _, _ => none, y.2)

/-- Bytes of a ring that units queued or being decoded hold, from the oldest one to the place of the next unit (10 R327). -/
def ringHeld (s : State) (c : Nat) : Nat :=
  let x := ctxOf s c
  match x.ring with
  | [] => 0
  | u :: _ =>
    let size := cfgNat s (oCtxRingSize c)
    let d := (x.ringPos + size - u.start) % size
    if d = 0 && x.ring.any (fun y => 0 < y.len) then size else d

/-- The 128-byte item of a unit (10 R328). -/
def unitItem (addr flags len seq rtpExt arrival capture : Nat) (digest : List Byte) : List Byte :=
  leBytes 6 addr ++ leBytes 2 flags ++ leBytes 4 len ++ leBytes 4 seq ++ leBytes 8 rtpExt ++ leBytes 8 arrival ++ leBytes 8 capture
    ++ List.replicate 24 0 ++ slice digest 0 48 ++ List.replicate 16 0

/-- The intake queue of a context admits one more unit: its limit holds with those on their way to it counted, and the pool keeps more than its reserve with every context's units counted (09 R308, 10 R327). -/
def unitAdmitted (s : State) (c : Nat) : Bool :=
  admits s c 2 && queueFill s c + 2 * (s.queues.intake.filter fun o => o.queue = c).length + 2 ≤ qLimit s c

/-- A unit that the intake keeps: written to the ring, numbered, and handed to the intake queue (01 R27; 10 R326 to R329). -/
def queueUnit (s : State) (c seq : Nat) (u : AccessUnit) (bytes : List Byte) (resync params : Bool) : State :=
  let x := ctxOf s c
  let ref := match x.rtpExt with | some r => if resync then cfgNat s (oCtxAnchorRtp c) else r | none => cfgNat s (oCtxAnchorRtp c)
  let ext := nearest ref u.rtp.toNat
  let flags := (if u.damaged then 1 else 0) + (if u.idr then 2 else 0) + (if params then 4 else 0) + (if resync then 8 else 0)
  let size := cfgNat s (oCtxRingSize c)
  let item := unitItem (cfgNat s (oCtxRingBase c) + x.ringPos) flags bytes.length seq ext u.arrival (captureTime s c u.arrival ext) (sha384 bytes)
  let s := ringWrite s c x.ringPos bytes
  let s := modCtx s c fun y => { y with
    state := 3
    ring := y.ring ++ [{ seq := seq, start := y.ringPos, len := bytes.length }]
    ringPos := (y.ringPos + bytes.length) % size
    rtpExt := some ext
    rewait := y.rewait && !resync
    needParams := y.needParams && !params }
  { s with queues := { s.queues with intake := s.queues.intake ++ [{ queue := c, bytes := item }] } }

/-- A unit completes: it is discarded while the context waits for an IDR unit, dropped where 10 R327 says so, and queued otherwise. Only a unit that is queued takes tokens of the bucket of 10 R334 (DESIGN CHOICE, notes/assumptions/27.md). -/
def completeUnit (s : State) (c : Nat) : State :=
  let x := ctxOf s c
  match x.unit with
  | none => s
  | some u0 =>
    let u := { u0 with damaged := u0.damaged || u0.frag || u0.bytes.isEmpty }
    let seq := x.seq
    let s := roPut (modCtx s c fun y => { y with unit := none, seq := (y.seq + 1) % 2 ^ 32 }) (oCtxUnits c) seq
    if x.state = 2 && !(u.idr && !u.damaged) then countDropped s c
    else
      let cost := (cfgNat s (oCtxMaxLuma c) + 2000) * 500000000000
      let have_ := tokensNow s c
      let sets := paramSets s c
      let params := x.needParams && u.idr && !sets.isEmpty
      let bytes := if params then sets ++ u.bytes else u.bytes
      let size := cfgNat s (oCtxRingSize c)
      let drop (code : Nat) : State := enterWait (countDropped s c) c code seq true
      if size < 4 * bytes.length then drop cStreamAuSize
      else if size < ringHeld s c + bytes.length then drop cStreamRingFull
      else if !unitAdmitted s c then drop cStreamQueueFull
      else if have_ < cost then drop cStreamDecodeOverload
      else queueUnit (modCtx s c fun y => { y with tokens := have_ - cost, tokensAt := s.cycle }) c seq u bytes (x.state = 2 || (x.rewait && u.idr && !u.damaged)) params

/-- A packet joins the unit of its timestamp (10 R325). -/
def addPacket (s : State) (c : Nat) (r : Rtp) (gap : Bool) : State :=
  let h264 := cfgNat s (oCtxCodec c) = 1
  modCtx s c fun x =>
    let u : AccessUnit := match x.unit with
      | some u => u
      | none => { rtp := r.ts, arrival := nowNs s, start := x.ringPos }
    { x with unit := some (joinPayload u gap ((payloadTypes h264 r.payload).any (idrType h264)) (if h264 then depacketH264 r.payload else depacketH265 r.payload)) }

/-- A timestamp is later than another, modulo 2^32 (01 R28). -/
def laterStamp (ts old : BitVec 32) : Bool := let d := (ts - old).toNat; 0 < d && d < 2 ^ 31

/-- A packet of a context: its place in the sequence, the units it completes, and its bytes (01 R28; 10 R324, R325). A packet whose timestamp is not later completes nothing and joins the unit in progress (DESIGN CHOICE, notes/assumptions/27.md). -/
def contextPacket (s : State) (c : Nat) (r : Rtp) : State :=
  let x := ctxOf s c
  let d := match x.high with | some h => (r.seq + 65536 - h) % 65536 | none => 1
  if d = 0 || 32768 < d then roAdd s (oCtxLatePackets c) 1
  else
    let gap := d ≠ 1
    let s := if gap then roAdd s (oCtxSeqGaps c) 1 else s
    let s := modCtx s c fun y => { y with high := some r.seq }
    let s := match x.unit with
      | some u =>
        if !laterStamp r.ts u.rtp then s
        else completeUnit (modCtx s c fun y => { y with unit := y.unit.map fun u => { u with damaged := u.damaged || gap } }) c
      | none => s
    let s := addPacket s c r gap
    if r.marker then completeUnit s c else s

/-- RTP_PACKET_RECEIVE: a frame through the port's checks, matched to a context and depacketised; one that matches none is counted for its port (01 R26 to R28). -/
def execRtpPacketReceive (e : Fin 2) (f : InFrame) (s : State) : Host.Outcome State Fault Refusal :=
  let i := udpIngress s e f
  if !i.1 then .next i.2
  else
    let s := i.2
    let unmatched := roAdd s (if e = 0 then oStreamUnmatchedEth0 else oStreamUnmatchedEth1) 1
    match parseRtp f.payload with
    | none => .next unmatched
    | some r =>
      match matchContext s e f r with
      | none => .next unmatched
      | some c => .next (contextPacket s c r)

/-! Decode. -/

/-- The engine is in service: the eight lowest that have not failed (10 R335). -/
def engineServes (s : State) (g : Fin 9) : Bool :=
  !(s.intake.engines[g]).failed && ((List.finRange 9).filter fun h => h.val < g.val && !(s.intake.engines[h]).failed).length < 8

/-- An engine changed. -/
def modEngine (s : State) (g : Fin 9) (f : Engine → Engine) : State :=
  { s with intake := { s.intake with engines := s.intake.engines.set g.val (f s.intake.engines[g]) g.isLt } }

/-- The head item of a context's queue with its ARRIVAL, for a context on no engine (10 R332). -/
def headOf (s : State) (c : Nat) : Option (Nat × QItem) :=
  if (ctxOf s c).engine.isSome then none
  else (headItem (queueOf s c)).map fun q => (leAt (readItem s q.cells).1 24 8, q)

/-- The context whose head item has the earliest ARRIVAL, ties to the lower number (10 R332). -/
def earliest (s : State) : Option (Nat × QItem) :=
  (s.intake.ctx.foldl (fun (a : Option (Nat × Nat × QItem)) c =>
    match headOf s c.1 with
    | none => a
    | some (t, q) => match a with
      | some (t0, _, _) => if t < t0 then some (t, c.1, q) else a
      | none => some (t, c.1, q)) none).map fun x => x.2

/-- A unit leaves the ring (10 R327). -/
def dropRing (s : State) (c seq : Nat) : State := modCtx s c fun x => { x with ring := x.ring.filter fun u => u.seq ≠ seq }

/-- One cell of the item that an engine takes is read and returned to the pool (09 R310, R315). -/
def decodeCell (s : State) (g : Fin 9) (j : DecodeJob) : State :=
  match j.cells with
  | [] => s
  | n :: rest =>
    let x := readCell s n
    let s := roAdd (freeCells (cellBank s n) [n]) oQueuePoisoned x.2
    modEngine s g fun e => { e with job := some { j with cells := rest, item := j.item ++ x.1, poison := j.poison + x.2 } }

/-- The free engine that chooses next: the lowest in service (10 R332, R335). -/
def freeEngine (s : State) : Option (Fin 9) := (List.finRange 9).find? fun g => engineServes s g && (s.intake.engines[g]).job.isNone

/-- The queue that the decode engines would unlink an item from in a slot. -/
def decodeQueue (s : State) : Option Nat :=
  if (List.finRange 9).any (fun g => match (s.intake.engines[g]).job with | some j => !j.cells.isEmpty | none => false) then none
  else match freeEngine s, earliest s with
    | some _, some (c, _) => some c
    | _, _ => none

/-- The decode engines' slot of the queue engine: the next cell of an item being read, or the unlink and first cell of the earliest head item, for the lowest free engine; the engine is occupied from the unlink on (09 R311; 10 R332, R333). The unit that the item names is the oldest of its context's ring. -/
def decodeSlot (s : State) : State :=
  match (List.finRange 9).findSome? fun g => (s.intake.engines[g]).job.bind fun j => if j.cells.isEmpty then none else some (g, j) with
  | some (g, j) => decodeCell s g j
  | none =>
    match freeEngine s, earliest s with
    | some g, some (c, q) =>
      let seq := match (ctxOf s c).ring with | u :: _ => u.seq | [] => 0
      let s := modCtx (unlinkItem s c q) c fun x => { x with engine := some g }
      decodeCell s g { ctx := c, start := s.cycle, cells := q.cells, seq := seq }
    | _, _ => s

/-- An engine whose item is read and not yet taken to decode or skipped. -/
def itemRead (s : State) : Option (Fin 9 × DecodeJob) :=
  (List.finRange 9).findSome? fun g => (s.intake.engines[g]).job.bind fun j => if j.cells.isEmpty && !j.taken then some (g, j) else none

/-- An item unlinked and skipped without decoding; its engine is free again (10 R332). -/
def skipUnit (s : State) (g : Fin 9) (c seq : Nat) : State :=
  modEngine (modCtx (dropRing (countDropped s c) c seq) c fun x => { x with engine := none }) g fun e => { e with job := none }

/-- DECODE_UNIT_TAKE: an engine that has read its item in the decode slots begins to decode it; a damaged item, and every one after it up to an undamaged IDR item, is skipped instead (09 R311, R315; 10 R332, R339). -/
def execDecodeUnitTake (s : State) : Host.Outcome State Fault Refusal :=
  match itemRead s with
  | none => .next s
  | some (g, j) =>
    let c := j.ctx
    let flags := leAt j.item 6 2
    if j.poison ≠ 0 || bitAt 0 flags then
      let s := if (ctxOf s c).gapSkip then s else enterWait s c (if j.poison ≠ 0 then cQueuePoison else cStreamGap) j.seq false
      .next (skipUnit (modCtx s c fun x => { x with gapSkip := true }) g c j.seq)
    else if (ctxOf s c).gapSkip && !bitAt 1 flags then .next (skipUnit s g c j.seq)
    else
      let s := modCtx s c fun x => { x with gapSkip := false, resync := x.resync || bitAt 3 flags }
      .next (modEngine s g fun e => { e with job := some { j with taken := true } })

/-- A picture whose slot is held (10 R337). newest is the newest complete picture not yet in an input set. -/
def pictureHeld (newest : Nat) (p : Picture) : Bool :=
  p.reference || p.awaiting || p.inSet || (p.complete.isSome && !p.taken && p.num = newest)

/-- The newest complete picture of a context not yet in an input set: the last in output order, by its number (01 R29, 10 R338). -/
def newestComplete (l : List Picture) : Nat :=
  (l.foldl (fun (a : Option (Nat × Nat)) p =>
    match p.complete with
    | some _ => if p.taken then a else match a with
      | some (o, _) => if o ≤ p.order then some (p.order, p.num) else a
      | none => some (p.order, p.num)
    | none => a) none).elim 0 (·.2)

/-- The lowest free slot of a context (10 R337). -/
def freeSlot (s : State) (c : Nat) : Option Nat :=
  let l := (ctxOf s c).pics
  lowestFree ((l.filter (pictureHeld (newestComplete l))).map (·.slot)) (cfgNat s (oCtxDpbSlots c))

/-- Rows of a plane written at a pitch (10 R336). -/
def planeWrite : Nat → State → Nat → Nat → Nat → List Byte → State
  | 0, s, _, _, _, _ => s
  | n + 1, s, a, width, pitch, b => planeWrite n (hbmSet s a (b.take width)) (a + pitch) width pitch (b.drop width)

/-- Bytes of a sample. -/
def sampleLen (tenBit : Bool) : Nat := if tenBit then 2 else 1

/-- The decode engines accept a stream of these parameters (10 R330). -/
def streamAccepted (h264 : Bool) (x : SeqParams) : Bool :=
  let depth (d : Nat) : Bool := x.depthLuma = d && (x.chromaFormat = 0 || x.depthChroma = d)
  let has (p : Nat) : Bool := x.profile = p || x.compatible.contains p
  if h264 then
    ((x.profile = 66 && x.constraint1) || x.profile = 77 || x.profile = 100) && x.level ≤ 51 && x.chromaFormat ≤ 1 && depth 8 && x.frameMbsOnly
  else
    (has 1 || has 2) && x.level ≤ 153 && x.chromaFormat = 1 && (depth 8 || (has 2 && depth 10)) && !x.fieldSeq && !x.rangeExt

/-- The check of an IDR unit's parameter set against the context: 0, or the code (10 R330, R331). -/
def spsCheck (s : State) (c : Nat) (x : SeqParams) : Nat :=
  let h264 := cfgNat s (oCtxCodec c) = 1
  let row := x.codedWidth * sampleLen x.tenBit
  let yp := cfgNat s (oCtxYPitch c)
  let cp := cfgNat s (oCtxCPitch c)
  let chroma := if x.mono then 0 else 2 * (cp * (x.codedHeight / 2))
  let need := if h264 then x.buffering + 3 else x.buffering + 1 + 2
  if !streamAccepted h264 x then cStreamUnsupported
  else if cfgNat s (oCtxMaxLuma c) < x.width * x.height then cStreamOversize
  else if cfgNat s (oCtxDpbSlots c) < need || yp < row || (!x.mono && cp < row / 2) || cfgNat s (oCtxSlotSize c) < yp * x.codedHeight + chroma then cStreamDpbShort
  else 0

/-- The NAL units of bytes in Annex B form, each without its start code; the first answer is what precedes the first start code (10 R326). -/
def nalSplit : List Byte → Nat → List (List Byte)
  | [], _ => [[]]
  | _ :: xs, k + 1 => nalSplit xs k
  | x :: xs, 0 =>
    if (x :: xs).take 4 = startCode then [] :: nalSplit xs 3
    else match nalSplit xs 0 with
      | h :: r => (x :: h) :: r
      | [] => [[x]]

/-- A NAL unit that the engines discard: H.264 types 14, 15 and 20; H.265 with nuh_layer_id above 0 (10 R330). -/
def nalDropped (h264 : Bool) (b : List Byte) : Bool :=
  if h264 then (let ty := leAt b 0 1 % 32; ty = 14 || ty = 15 || ty = 20) else 0 < leAt b 0 1 % 2 * 32 + leAt b 1 1 / 8

/-- The bytes of a unit as the base layer decodes them, and how many NAL units were discarded (10 R330). -/
def baseLayer (h264 : Bool) (b : List Byte) : List Byte × Nat :=
  let l := (nalSplit b 0).drop 1
  ((l.filter fun n => !nalDropped h264 n).flatMap (startCode ++ ·), (l.filter (nalDropped h264)).length)

/-- The planes of a picture written to a slot (10 R336). -/
def writePlanes (s : State) (c slot : Nat) (d : Decoded) : State :=
  let base := cfgNat s (oCtxDpbBase c) + slot * cfgNat s (oCtxSlotSize c)
  let yp := cfgNat s (oCtxYPitch c)
  let cp := cfgNat s (oCtxCPitch c)
  let x := d.sps
  let w := x.codedWidth * sampleLen x.tenBit
  let s := planeWrite x.codedHeight s base w yp d.y
  if x.mono then s
  else
    let cb := base + yp * x.codedHeight
    planeWrite (x.codedHeight / 2) (planeWrite (x.codedHeight / 2) s cb (w / 2) cp d.cb) (cb + cp * (x.codedHeight / 2)) (w / 2) cp d.cr

/-- A picture completes: the first one after an entry into WAIT_IDR carries RESYNC (10 R338, R341). -/
def completePicture (s : State) (c seq : Nat) : State :=
  if !((ctxOf s c).pics.any fun p => p.seq = seq && p.awaiting) then s
  else
    let resync := (ctxOf s c).resync
    let s := roAdd (roAdd s (oCtxPictures c) 1) oDecodePictures 1
    let o := s.intake.outputs
    modCtx { s with intake := { s.intake with outputs := o + 1 } } c fun x => { x with
      resync := false
      pics := x.pics.map fun p => if p.seq = seq && p.awaiting then { p with awaiting := false, complete := some s.cycle, order := o, resync := resync } else p }

/-- A decoded picture takes its slot; complete pictures that the slot still held are superseded (10 R337, R338). -/
def storePicture (s : State) (c : Nat) (item : List Byte) (chain : List Byte) (d : Decoded) (slot : Nat) : State :=
  let gone := (ctxOf s c).pics.filter fun p => p.slot = slot && p.complete.isSome && !p.taken
  let s := roAdd (writePlanes s c slot d) (oCtxSuperseded c) gone.length
  let n := s.intake.pictures
  let p : Picture :=
    { num := n, slot := slot, seq := leAt item 12 4, capture := leAt item 32 8, rtpExt := leAt item 16 8, chain := chain, width := d.sps.width, height := d.sps.height
      base := cfgNat s (oCtxDpbBase c) + slot * cfgNat s (oCtxSlotSize c), yPitch := cfgNat s (oCtxYPitch c), cPitch := cfgNat s (oCtxCPitch c)
      cropX := d.sps.left, cropY := d.sps.top, codedHeight := d.sps.codedHeight, tenBit := d.sps.tenBit, mono := d.sps.mono, awaiting := true }
  let s := modCtx { s with intake := { s.intake with pictures := n + 1 } } c fun x => { x with
    pics := ((x.pics.filter fun q => q.slot ≠ slot) ++ [p]).map fun q => { q with reference := d.refs.contains q.seq } }
  d.outputs.foldl (fun s q => completePicture s c q) s

/-- A unit whose decoding ends in an error: not delivered, and the context waits for an IDR unit (10 R331, R339). -/
def decodeError (s : State) (c code seq : Nat) : State :=
  enterWait (countDropped (modCtx s c fun x => { x with gapSkip := true, history := [] }) c) c code seq true

/-- A unit that an engine has decoded (10 R331, R333, R338). -/
def unitDecoded (s : State) (c : Nat) (item bytes : List Byte) (d : Decoded) : State :=
  let seq := leAt item 12 4
  let idr := bitAt 1 (leAt item 6 2)
  let check := if idr then spsCheck s c d.sps else 0
  if d.error then decodeError s c cStreamBitstream seq
  else if check ≠ 0 then decodeError s c check seq
  else
    let prev := (ctxOf s c).chain
    let chain := sha384 ((if idr then List.replicate 48 0 else slice prev 0 48) ++ slice item 64 48)
    let s := modCtx s c fun x => { x with chain := chain, history := (if idr then [] else x.history) ++ [(seq, bytes)] }
    match freeSlot s c with
    | some slot => storePicture s c item chain d slot
    | none => decodeError s c cStreamDpbShort seq

/-- DECODE_UNIT_DONE: an engine finishes its unit once its time t_dec has passed, writes its planes, and pictures complete in output order (10 R333, R338). A unit whose ring bytes HBM cannot correct is an error of the bitstream (notes/assumptions/27.md). -/
def execDecodeUnitDone (g : Fin 9) (s : State) : Host.Outcome State Fault Refusal :=
  match (s.intake.engines[g]).job with
  | none => .next s
  | some j =>
    let c := j.ctx
    let len := leAt j.item 8 4
    let h264 := cfgNat s (oCtxCodec c) = 1
    let r := ringRead s c (leAt j.item 0 6 - cfgNat s (oCtxRingBase c)) len
    let base := baseLayer h264 (r.1.getD [])
    let d := Config.decodeUnit h264 (ctxOf s c).history (j.seq, base.1)
    let t := 1000 + max (ceilDiv (d.sps.width * d.sps.height) 2) len
    if !j.taken || s.cycle < j.start + t then .next s
    else
      let s := roAdd (modEngine r.2 g fun e => { e with job := none }) (oDecodeEngineBusy g.val) t
      let s := dropRing (modCtx s c fun x => { x with engine := none, nals := x.nals + base.2 }) c j.seq
      .next (if r.1.isNone then decodeError s c cStreamBitstream j.seq else unitDecoded s c j.item base.1 d)

/-- What a port reports where a commit or a suspension left its memberships smaller: a group that no context uses any more, or sources that none asks for any more (10 R324, RFC 3376). old lists the memberships before the change. -/
def leaveGroups (s : State) (e : Fin 2) (old : List (List Byte × List (List Byte))) : State :=
  let now := memberships s e.val
  old.foldl (fun s g =>
    match now.find? fun h => h.1 = g.1 with
    | none => if g.2.isEmpty then joinReport s e 3 g.1 [] else joinReport s e 6 g.1 g.2
    | some h =>
      let gone := g.2.filter fun a => !h.2.contains a
      if h.2.isEmpty then s
      else if g.2.isEmpty then joinReport s e 3 h.1 h.2
      else if gone.isEmpty then s else joinReport s e 6 g.1 gone) s

/-- A context is set SUSPENDED: it matches no packet, and a join not yet sent is not sent (10 R335). -/
def suspendContext (s : State) (c : Nat) : State :=
  let s := roPut s (oCtxLastCode c) cStreamDecodeOverload
  let seq := (ctxOf s c).seq
  let s := { s with intake := { s.intake with joinAt := s.intake.joinAt.filter fun j => j.2.1 ≠ c } }
  streamEvent (notify (modCtx s c fun x => { x with state := 4, unit := none }) cStreamDecodeOverload 1 c) c cStreamDecodeOverload seq

/-- Contexts set SUSPENDED in descending number until the declared load fits the capacity (10 R335). -/
def suspendUntil : List Nat → State → State
  | [], s => s
  | c :: r, s =>
    let live := (liveContexts s).filter fun x => (ctxOf s x).state ≠ 4
    if loadSum s live ≤ 1000 * decodeCapacity s then s
    else suspendUntil r (if live.contains c then suspendContext s c else s)

/-- DECODE_ENGINE_FAULT: an engine in service fails its self-check; its unit is abandoned, the spare takes its place, and with too little capacity contexts are suspended (10 R335, 15 R488). -/
def execDecodeEngineFault (g : Fin 9) (s : State) : Host.Outcome State Fault Refusal :=
  if (s.intake.engines[g]).failed then .next s
  else
    let job := (s.intake.engines[g]).job
    let s := degrade (roAdd s oDecodeEngineFaults 1) cDecodeEngineFault
    let s := modEngine s g fun _ => { failed := true }
    let s := match job with
      | none => notify s cDecodeEngineFault 0 g.val
      | some j =>
        let s := dropRing (modCtx (freeCells s j.cells) j.ctx fun x => { x with engine := none }) j.ctx j.seq
        decodeError s j.ctx cDecodeEngineFault j.seq
    let t := suspendUntil (List.range 1024).reverse s
    .next (([0, 1] : List (Fin 2)).foldl (fun t e => leaveGroups t e (memberships s e.val)) t)

/-! Contexts at a boundary. -/

/-- Everything queued or in work for a context goes: its items' cells return to the pool, and a decode in progress is abandoned (10 R323). -/
def clearContext (s : State) (c : Nat) : State :=
  let cells := (queueOf s c).items.flatMap (·.cells) ++ (s.queues.intake.filter fun o => o.queue = c).flatMap (·.cells)
  let s := setQueue s c {}
  let s := freeCells { s with queues := { s.queues with intake := s.queues.intake.filter fun o => o.queue ≠ c } } cells
  match (ctxOf s c).engine with
  | some g => modEngine (freeCells s (match (s.intake.engines[g]).job with | some j => j.cells | none => [])) g fun e => { e with job := none }
  | none => s

/-- The ports of a context. -/
def ctxPorts (s : State) (c : Nat) : List (Fin 2) := [0, 1].filter fun e => ctxOnPort s c e.val

/-- A context whose configuration a commit changed starts again in the tile cycle of the boundary: DISABLED, EMPTY, or WAIT_IDR with a full bucket; pictures in the input set stay until the next boundary (10 R322, R323, R324). -/
def startContext (s : State) (c : Nat) : State :=
  let s := clearContext s c
  let kept := (ctxOf s c).pics.filter (·.inSet)
  let s := { s with intake := { s.intake with joinAt := s.intake.joinAt.filter fun j => j.2.1 ≠ c } }
  if !cfgOn s (oCtxEnable c) then modCtx s c fun _ => { pics := kept }
  else if ctxEmpty s c then modCtx s c fun _ => { state := 1, pics := kept }
  else
    let s := modCtx s c fun _ => { state := 2, tokens := bucketDepth s c, tokensAt := s.cycle, needParams := true, resync := true, pics := kept }
    if isGroup (cfgBytes s (oCtxDstAddr c)) then
      { s with intake := { s.intake with joinAt := s.intake.joinAt ++ (ctxPorts s c).map fun e => (e.val, c, false) } }
    else s

end Sys2Proof.Machine
end

