-- ==== Sys2Proof/Machine/Beryl.lean ====
section
/-! DEFINITION. The Beryl links: receive order and replay, routes, replies, remote windows, notices, frame slots and link faults (13 R412 to R437). -/

namespace Sys2Proof.Machine

open Sys2Proof

/-- A Beryl port. -/
def bport (s : State) (n : Fin 4) : BPort := s.beryl.port[n]

/-- A Beryl port changed. -/
def modBport (s : State) (n : Fin 4) (f : BPort → BPort) : State :=
  { s with beryl := { s.beryl with port := s.beryl.port.set n.val (f s.beryl.port[n]) n.isLt } }

/-- A window of this part. -/
def ownWin (s : State) (w : Fin 64) : OwnWin := s.beryl.win[w]

/-- A window of this part changed. -/
def modWin (s : State) (w : Fin 64) (f : OwnWin → OwnWin) : State :=
  { s with beryl := { s.beryl with win := s.beryl.win.set w.val (f s.beryl.win[w]) w.isLt } }

/-! Replies. -/

/-- A reply made: it joins the last one with the same TAG, window, code and destination up to a COUNT of 127 (13 R422). -/
def pushReply (l : List BReply) (r : BReply) : List BReply :=
  match l.getLast? with
  | some x =>
    if x.code = r.code && x.dst = r.dst && x.window = r.window && x.tag = r.tag && x.count + r.count ≤ 127 then l.dropLast ++ [{ x with count := x.count + r.count }] else l ++ [r]
  | none => [r]

/-- A channel whose active descriptor sends to a window. -/
def sendsTo (s : State) (p : PTile) (c : Fin 8) (w : RemoteWin) : Bool :=
  match (chan s p c).active with
  | some r => (match remoteEntry s p r.desc with | some x => x.device = w.device && x.window = w.window | none => false)
  | none => false

/-- Every channel that waits on a window stops with WINDOW_CLOSED: one that has frames of it left to send (13 R433). -/
def stopWaiters (s : State) (w : RemoteWin) : State :=
  (List.finRange 72).foldl (fun s p => (List.finRange 8).foldl (fun s c =>
    match (chan s p c).active with
    | some r => if sendsTo s p c w && r.written < patTotal (dstPattern r.desc) && r.stopping = 0 then busError s p c cWindowClosed (dstPattern r.desc).addr none else s
    | none => s) s) s

/-- A window leaves the credit table, and the channels waiting on it stop (13 R433). -/
def dropRemote (s : State) (w : RemoteWin) : State :=
  let s := stopWaiters s w
  { s with beryl := { s.beryl with remote := s.beryl.remote.filter fun x => !(x.device = w.device && x.window = w.window) } }

/-- The first n frame lengths in flight of a channel are answered. -/
def answerFrames (s : State) (p : PTile) (c : Fin 8) (n : Nat) (ok : Bool) : State :=
  modRunOf s p c fun r => { r with
    inFlight := r.inFlight.drop n
    accepted := if ok then r.accepted + (r.inFlight.take n).foldl (· + ·) 0 else r.accepted
    effect := s.cycle }

/-- A reply to a frame of this part (13 R415, R430, R433, R437): 1 ACCEPTED, 2 ACCEPTED_NO_CREDIT, 3 WINDOW_CLOSED, 4 LINK_DOWN, 5 UNROUTABLE. -/
def takeReply (s : State) (r : BReply) : State :=
  let c : Fin 8 := ⟨r.tag % 8, by omega⟩
  let holder := holderOf s (r.tag / 8 % 64)
  let entry := match holder with
    | some p => (match (chan s p c).active with
      | some a => (match remoteEntry s p a.desc with
        | some e => if e.window = r.window % 64 then some e else none
        | none => none)
      | none => none)
    | none => none
  let entry := match entry with
    | some e => some e
    | none => s.beryl.remote.find? fun e => e.window = r.window % 64 && e.gen = r.window / 64
  let sending := match holder with | some p => (match (chan s p c).active with | some a => !a.inFlight.isEmpty | none => false) | none => false
  let answered (s : State) (ok : Bool) : State := match holder with | some p => if sending then answerFrames s p c r.count ok else s | none => s
  let stop (s : State) (code : Nat) : State :=
    match holder with
    | some p => (match (chan s p c).active with
      | some a => if sending && a.stopping = 0 then busError s p c code (dstPattern a.desc).addr none else s
      | none => s)
    | none => s
  if r.code = 1 then
    let s := answered s true
    match entry with
    | some e => { s with beryl := { s.beryl with remote := s.beryl.remote.map fun x => if x.device = e.device && x.window = e.window then { x with pool := x.pool + r.count } else x } }
    | none => s
  else if r.code = 2 then answered s true
  else if r.code = 3 then
    let s := stop (answered s false) cWindowClosed
    match entry with
    | some e => dropRemote s e
    | none => s
  else if r.code = 4 then stop (answered s false) cLinkDown
  else if r.code = 5 then stop (answered s false) cUnroutable
  else s

/-- A reply on its way: taken here, or kept for the next frame toward its device (13 R422). -/
def routeReply (s : State) (r : BReply) : State :=
  if r.code = 0 then s
  else if r.dst = deviceId s then takeReply s r
  else { s with beryl := { s.beryl with replies := pushReply s.beryl.replies r } }

/-- A reply in the header of a frame received: one for this part acts 40 ns after its last bit, any other goes on (13 R422, R424). -/
def replyArrives (s : State) (r : BReply) : State :=
  if r.code ≠ 0 && r.dst = deviceId s then { s with beryl := { s.beryl with replyIn := s.beryl.replyIn ++ [(s.cycle + 20, r)] } }
  else routeReply s r

/-! Link faults. -/

/-- A WRITE frame lost with its port: its SRC gets LINK_DOWN (13 R437). -/
def lostFrame (s : State) (f : BFrame) : State :=
  if f.kind = 1 then routeReply s { code := 4, dst := f.src, window := f.gen * 64 + f.window, tag := f.tag, count := 1 } else s

/-- A port enters DOWN: what it holds is dropped and answered with LINK_DOWN, a notification names the port, the code and the peer, and a part that follows ticks through it enters HOLDOVER (13 R437). -/
def portGoesDown (s : State) (n : Fin 4) (code : Nat) (lost : Bool) : State :=
  let p := bport s n
  let held := p.replay.filterMap (fun x => x.2.frame) ++ p.pass1.map (·.2) ++ p.pass0.map (·.2) ++ p.own ++ (s.beryl.writes.filter fun w => w.port = n).map (·.frame)
  let s := modBport s n fun _ => { lost := lost }
  let s := { s with beryl := { s.beryl with writes := s.beryl.writes.filter fun w => w.port ≠ n } }
  let s := roAdd s (oLinkDropped n.val) held.length
  let s := held.foldl lostFrame s
  let s := notify s code 4 n.val (leBytes 1 (roGet s (oLinkPeer n.val)))
  let route := ((cfgBytes s oBerylRoutes)[cfgNat s oTickMasterDevice]?).getD 0
  if cfgNat s oTickSource = 3 && s.ctrl.lock ≠ 0 && route.toNat % 4 = n.val then setLock s 3 else s

/-- BERYL_DOWN_LIMIT: training has not ended within down_limit, and the port enters DOWN (13 R418). -/
def execBerylDownLimit (n : Fin 4) (s : State) : Host.Outcome State Fault Refusal :=
  if (bport s n).state = 1 then .next (portGoesDown s n cLinkDown false) else .next s

/-- BERYL_LANE_SPARE: a lane with its threshold of parity errors in one second moves to the spare lane, once (13 R413, 15 R488). -/
def execBerylLaneSpare (n : Fin 4) (s : State) : Host.Outcome State Fault Refusal :=
  if roGet s (oLinkLaneSpared n.val) = 1 then .next s
  else .next (degrade (notify (roPut s (oLinkLaneSpared n.val) 1) cBerylLaneSpared 4 n.val) cBerylLaneSpared)

/-- LSIN_LOSS: every enabled port enters DOWN; one that is DOWN already stays so (13 R412). -/
def execLsinLoss (s : State) : Host.Outcome State Fault Refusal :=
  let s := notify (roPut s oBerylLaserOk 0) cBerylLaserLoss 0 0
  .next ((List.finRange 4).foldl (fun s n => if !cfgOn s (oLinkEnable n.val) then s
    else if (bport s n).state = 0 then modBport s n fun p => { p with lost := true }
    else portGoesDown s n cBerylLaserLoss true) s)

/-- An enabled port trains while light is present (13 R412, R419). -/
def startTraining (s : State) (n : Fin 4) : State :=
  if cfgOn s (oLinkEnable n.val) && roGet s oBerylLaserOk = 1 && (bport s n).state = 0 then modBport s n fun p => { p with state := 1, lost := false } else s

/-- LSIN_RESTORE: the light is back, and the ports start training again (13 R412). -/
def execLsinRestore (s : State) : Host.Outcome State Fault Refusal :=
  .next ((List.finRange 4).foldl startTraining (roPut s oBerylLaserOk 1))

/-- LINK_TRAINING_DONE: device ids are exchanged and the delay is measured; the port is UP, or DOWN when the peer reports the part's own id. A port that retrained sends its replay buffer again (13 R418, R419). -/
def execLinkTrainingDone (n : Fin 4) (peer : BitVec 8) (delay : BitVec 32) (loop_ : Bool) (s : State) : Host.Outcome State Fault Refusal :=
  if (bport s n).state ≠ 1 then .next s
  else
    let s := roPut (roPut s (oLinkPeer n.val) peer.toNat) (oLinkDelay n.val) delay.toNat
    if peer.toNat = deviceId s then .next (portGoesDown s n (if loop_ then cBerylSelfLoop else cBerylIdConflict) false)
    else
      let s := if (bport s n).replay.isEmpty then s else roAdd s (oLinkReplays n.val) 1
      .next (modBport s n fun p => { p with state := 2, resend := p.replay.map (·.2), replayRow := 0 })

/-! Receiving. -/

/-- Frames from sequence number a to before b, modulo 2^16. -/
def seqBefore (x a : Nat) : Bool := (a + 65536 - x) % 65536 < 32768

/-- LINK_ACK of a received frame: what it acknowledges leaves the replay buffer; the same value twice in a row asks for a replay, and after 8 replays of one frame the port retrains (13 R417, R418). -/
def takeAck (s : State) (n : Fin 4) (ack : Nat) : State :=
  let p := bport s n
  let known := p.rxAcks.isSome || p.replay.any fun x => x.1 = ack
  if !known then s
  else if p.rxAcks = some ack then
    if p.replay.isEmpty || !p.resend.isEmpty then s
    else
      let row := p.replayRow + 1
      if 8 < row then modBport s n fun p => { p with state := 1, replayRow := 0 }
      else modBport (roAdd s (oLinkReplays n.val) 1) n fun p => { p with resend := p.replay.map (·.2), replayRow := row }
  else modBport s n fun p => { p with rxAcks := some ack, replayRow := 0, replay := p.replay.filter fun x => !seqBefore x.1 ack, resend := p.resend.filter fun x => !seqBefore x.seq ack }

/-- The link layer of a received frame: only the next frame in order is delivered; its acknowledgement, credits and reply are taken (13 R415, R417, R422). -/
def linkReceive (s : State) (n : Fin 4) (h : BLinkHead) : Option State :=
  if (bport s n).state ≠ 2 || h.seq.toNat ≠ (bport s n).rxNext then none
  else
    let s := modBport s n fun p => { p with
      rxNext := (p.rxNext + 1) % 65536
      credit0 := min 64 (p.credit0 + h.credit0.toNat)
      credit1 := min 64 (p.credit1 + h.credit1.toNat) }
    let s := takeAck s n h.ack.toNat
    some (replyArrives s { code := h.code.toNat, dst := h.rdst.toNat, window := h.rwindow.toNat, tag := h.rtag.toNat, count := h.count.toNat })

/-- A receive buffer of a port is free again; LINK_CREDIT returns it (13 R415, R422). -/
def freeBuffer (s : State) (n : Fin 4) (vc : Bool) : State :=
  modBport s n fun p => if vc then { p with freed1 := p.freed1 + 1 } else { p with freed0 := p.freed0 + 1 }

/-- A frame for another device passes through: onto its route's port, with the larger VC, one hop further and after 140 ns; dropped and answered with UNROUTABLE where it cannot (13 R421, R424). -/
def passFrame (s : State) (n : Fin 4) (f : BFrame) : State :=
  let entry := (((cfgBytes s oBerylRoutes)[f.dst]?).getD 0).toNat
  match routePort s f.dst with
  | none =>
    let s := roAdd (freeBuffer s n f.vc) (oLinkDropped n.val) 1
    routeReply s { code := 5, dst := f.src, window := f.gen * 64 + f.window, tag := f.tag, count := 1 }
  | some m =>
    if 32 ≤ f.hops then
      let s := roAdd (freeBuffer s n f.vc) (oLinkDropped n.val) 1
      routeReply s { code := 5, dst := f.src, window := f.gen * 64 + f.window, tag := f.tag, count := 1 }
    else
      let g := { f with vc := f.vc || bitAt 2 entry, hops := f.hops + 1, at_ := s.cycle + 70 }
      modBport s m fun p => if g.vc then { p with pass1 := p.pass1 ++ [(n, g)] } else { p with pass0 := p.pass0 ++ [(n, g)] }

/-- The arrival is accepted: its window is OPEN or CLOSING with this generation, the source may write, and the bytes lie in the window (13 R425, R429, R432; notes/assumptions/28.md). -/
def accepts (w : OwnWin) (src gen offset len : Nat) : Bool :=
  w.state ≠ 0 && w.gen = gen && w.sources.contains src && w.offset ≤ offset && offset + len ≤ w.offset + w.size

/-- A write to a window of this device that the running plan reads, granted at or after the deadline step of its region record: it is counted, and TIMING_VARIED is set in every item of the tick (14 R448; notes/assumptions/33.md). -/
def lateWrite (s : State) (w : Nat) : State :=
  match s.ctrl.plan with
  | none => s
  | some p =>
    if s.ctrl.runs && p.regions.any fun r => r.kind = 6 && r.device = deviceId s && r.arg = w && r.deadline ≠ 0 && r.deadline ≠ 0xFFFFFFFF && r.deadline ≤ s.ctrl.step then
      roAdd { s with ctrl := { s.ctrl with items := s.ctrl.items.map fun i => if i.2.tick = s.ctrl.tick then (i.1, { i.2 with marks := i.2.marks ||| 32 }) else i } } oDetLateRemote 1
    else s

/-- The reply to a WRITE frame. -/
def replyTo (f : BFrame) (code : Nat) : BReply := { code := code, dst := f.src, window := f.gen * 64 + f.window, tag := f.tag, count := 1 }

/-- A WRITE frame for a window of this part: accepted, it is granted in memory from 120 ns on and answered then; else it is dropped with WINDOW_CLOSED (13 R424, R429, R430, R432). -/
def ownWrite (s : State) (n : Fin 4) (f : BFrame) : State :=
  let w : Fin 64 := ⟨f.window % 64, by omega⟩
  let x := ownWin s w
  if accepts x f.src f.gen f.offset f.payload.length then
    { s with beryl := { s.beryl with landing := s.beryl.landing ++
        [{ due := s.cycle + 60, port := n, window := w, at_ := x.target + (f.offset - x.offset), bytes := f.payload, size := f.payload.length, reply := replyTo f (if x.state = 2 then 2 else 1) }] } }
  else routeReply (roAdd s (oWindowClosedDrops w.val) 1) (replyTo f 3)

/-- Bytes of an accepted write that its next grant takes: those in one Meadow slot or one HBM granule (08 R253, R254). -/
def landLen (x : BLanding) : Nat :=
  let unit := if meadowBase ≤ x.at_ then 128 else 64
  min x.bytes.length (unit - x.at_ % unit)

/-- The memory can take the next bytes of an accepted write in the present cycle: its Meadow bank has served no tile, or the pseudo-channel has a system cycle free (08 R254, R256, R270; 13 R429). -/
def landFree (s : State) (x : BLanding) : Bool :=
  if meadowBase ≤ x.at_ then !bankBusy s (meadowBank ((x.at_ - meadowBase) / 128))
  else
    let g := granuleOf x.at_
    sysUsable s (pseudoOf g) && !granuleHeld s g && !writebackDue s none (pseudoOf g)

/-- The next bytes of an accepted write are granted; nothing of a granule that cannot be corrected is written (08 R254, R275; 13 R429). -/
def landGrant (s : State) (x : BLanding) : State :=
  let b := x.bytes.take (landLen x)
  if meadowBase ≤ x.at_ then bankTake (meadowWrite s (x.at_ - meadowBase) b) (meadowBank ((x.at_ - meadowBase) / 128))
  else
    let w := granuleWrite s x.at_ b none 0
    sysTake (w.1.getD w.2) (pseudoOf (granuleOf x.at_))

/-- The last byte of an accepted write is granted: its bytes are counted and its reply is made (13 R430, R432, R438; 14 R448). -/
def landDone (s : State) (x : BLanding) (n : Nat) : State :=
  let s := lateWrite (roAdd s (oWindowBytes x.window.val) n) x.window.val
  let s := if x.reply.code = 2 then modWin s x.window fun w => { w with credits := smMod 0 w.credits x.reply.dst (· - 1) } else s
  routeReply s x.reply

/-- One port's oldest accepted write in the present cycle: its next bytes are granted, or it waits for its bank (08 R256, 13 R429). -/
def landPort (s : State) (n : Fin 4) : State :=
  match s.beryl.landing.find? fun x => x.port = n && x.due ≤ s.cycle with
  | none => s
  | some x =>
    if !landFree s x then (if meadowBase ≤ x.at_ then roAdd s oMeadowWaits 1 else s)
    else
      let k := landLen x
      let rest := s.beryl.landing.erase x
      let s := landGrant s x
      if x.bytes.length ≤ k then landDone { s with beryl := { s.beryl with landing := rest } } x x.size
      else { s with beryl := { s.beryl with landing := { x with at_ := x.at_ + k, bytes := x.bytes.drop k } :: rest } }

/-- The accepted writes of the four ports in the present cycle, after every tile's accesses, in ascending port order (08 R256, 13 R429). -/
def berylMemory (s : State) : State := if s.beryl.landing.isEmpty then s else (List.finRange 4).foldl landPort s

/-- The replies whose 40 ns have passed act (13 R424). -/
def berylReplies (s : State) : State :=
  let due := s.beryl.replyIn.filter fun r => r.1 ≤ s.cycle
  if due.isEmpty then s
  else due.foldl (fun s r => takeReply s r.2) { s with beryl := { s.beryl with replyIn := s.beryl.replyIn.filter fun r => s.cycle < r.1 } }

/-- A frame's fields. -/
def frameOf (kind : Nat) (a : BAddr) : BFrame :=
  { kind := kind, vc := a.vc, dst := a.dst.toNat, src := a.src.toNat, hops := a.hops.toNat, window := a.window.toNat, gen := a.gen.toNat }

/-- BERYL_WRITE_FRAME (13 R421, R429). -/
def execBerylWriteFrame (n : Fin 4) (h : BLinkHead) (a : BAddr) (last : Bool) (offset : BitVec 32) (tag : BitVec 9) (payload : List Byte) (s : State) : Host.Outcome State Fault Refusal :=
  match linkReceive s n h with
  | none => .next s
  | some s =>
    let f := { frameOf 1 a with last := last, offset := offset.toNat, tag := tag.toNat, payload := payload.take 256 }
    if f.dst = deviceId s then .next (ownWrite (freeBuffer s n f.vc) n f) else .next (passFrame s n f)

/-- BERYL_IDLE_FRAME (13 R414). -/
def execBerylIdleFrame (n : Fin 4) (h : BLinkHead) (s : State) : Host.Outcome State Fault Refusal :=
  match linkReceive s n h with
  | none => .next s
  | some s => .next s

/-- BERYL_BAD_FRAME: a frame with a bad CRC is discarded and counted; LINK_ACK stays at the last good frame (13 R417). -/
def execBerylBadFrame (n : Fin 4) (s : State) : Host.Outcome State Fault Refusal :=
  if (bport s n).state = 2 then .next (roAdd s (oLinkCrcErrors n.val) 1) else .next s

/-! CONTROL frames. -/

/-- The payload of a CONTROL frame: 1 GRANT, 2 CLOSE, 3 FINAL, 4 a grant refused, and the fields of a grant; the spec gives no layout (notes/assumptions/28.md). -/
def controlPayload (kind offset size credits : Nat) : List Byte := leBytes 1 kind ++ leBytes 4 offset ++ leBytes 4 size ++ leBytes 2 credits

/-- A CONTROL frame of this part queued on its route's port (13 R422, R426). -/
def sendControl (s : State) (dst window gen kind offset size credits : Nat) : State :=
  match routePort s dst with
  | none => s
  | some m =>
    let vc := bitAt 2 (((cfgBytes s oBerylRoutes)[dst]?).getD 0).toNat
    modBport s m fun p => { p with own := p.own ++ [{ kind := 3, vc := vc, dst := dst, src := deviceId s, window := window, gen := gen, payload := controlPayload kind offset size credits }] }

/-- A CONTROL frame received: passed on, or acted on here. -/
def controlFrame (s : State) (n : Fin 4) (h : BLinkHead) (a : BAddr) (payload : List Byte) (f : State → State) : State :=
  match linkReceive s n h with
  | none => s
  | some s => if a.dst.toNat = deviceId s then f (freeBuffer s n a.vc) else passFrame s n { frameOf 3 a with payload := payload }

/-- WINDOW_GRANT: a grant enters its window with its credits into the credit table, or is refused when the table is full, which a notice tells the owner (13 R426; the notice is a DESIGN CHOICE, notes/assumptions/28.md). -/
def execWindowGrant (n : Fin 4) (h : BLinkHead) (a : BAddr) (offset size : BitVec 32) (credits : BitVec 16) (s : State) : Host.Outcome State Fault Refusal :=
  .next (controlFrame s n h a (controlPayload 1 offset.toNat size.toNat credits.toNat) fun s =>
    let rest := s.beryl.remote.filter fun x => !(x.device = a.src.toNat && x.window = a.window.toNat)
    if 256 ≤ rest.length then sendControl s a.src.toNat a.window.toNat a.gen.toNat 4 0 0 0
    else { s with beryl := { s.beryl with remote := rest ++ [{ device := a.src.toNat, window := a.window.toNat, gen := a.gen.toNat, offset := offset.toNat, size := size.toNat, pool := credits.toNat }] } })

/-- WINDOW_CLOSE_NOTICE: no new credits come for the window; the credits left may still be used (13 R433). -/
def execWindowCloseNotice (n : Fin 4) (h : BLinkHead) (a : BAddr) (s : State) : Host.Outcome State Fault Refusal :=
  .next (controlFrame s n h a (controlPayload 2 0 0 0) fun s =>
    { s with beryl := { s.beryl with remote := s.beryl.remote.map fun x => if x.device = a.src.toNat && x.window = a.window.toNat && x.gen = a.gen.toNat then { x with closing := true } else x } })

/-- WINDOW_FINAL_NOTICE: the window leaves the credit table, and channels waiting on it stop (13 R433). -/
def execWindowFinalNotice (n : Fin 4) (h : BLinkHead) (a : BAddr) (s : State) : Host.Outcome State Fault Refusal :=
  .next (controlFrame s n h a (controlPayload 3 0 0 0) fun s =>
    match s.beryl.remote.find? fun x => x.device = a.src.toNat && x.window = a.window.toNat && x.gen = a.gen.toNat with
    | some w => dropRemote s w
    | none => s)

/-! Ticks. -/

/-- The payload of a TICK frame (13 R435). -/
def tickPayload (tick period master hops : Nat) : List Byte := leBytes 8 tick ++ leBytes 8 period ++ leBytes 1 master ++ leBytes 1 hops

/-- The TICK frames of a boundary, 160 ns after it: on every UP port, of a part that is not following or is LOCKED (13 R435). -/
def sendTicks (s : State) : State :=
  let follows := cfgNat s oTickSource = 3
  if follows && s.ctrl.lock ≠ 2 then s
  else
    let master := if follows then cfgNat s oTickMasterDevice else deviceId s
    let body := tickPayload s.ctrl.tick (cfgNat s oTickPeriod) master (if follows then s.beryl.tickHops + 1 else 0)
    (List.finRange 4).foldl (fun s n =>
      if (bport s n).state = 2 then modBport s n fun p => { p with own := p.own ++ [{ kind := 2, dst := roGet s (oLinkPeer n.val), src := deviceId s, payload := body, at_ := s.cycle + 80 }] } else s) s

/-- The tile cycle of the master's boundary, from the cycle of the last bit of its TICK frame: 160 ns to the first bit, 102.4 ns on the fiber's end and the measured delay of the link (13 R424, R435). -/
def masterCycle (s : State) (n : Fin 4) : Nat := s.cycle - (262 + roGet s (oLinkDelay n.val)) / 2

/-- A TICK frame on the port that the part follows: it takes the master's number and the place of its boundary, or reports why it stays ACQUIRING; LOCKED within 1 µs, before the first boundary at once (02 R52; 13 R435, R436). -/
def followTick (s : State) (n : Fin 4) (tick period hops : Nat) : State :=
  if period ≠ cfgNat s oTickPeriod then setLock (notify s cBerylTickMismatch 5 (tick % 2 ^ 32)) 1
  else if s.ctrl.lock ≠ 2 && tick + 1 ≤ s.ctrl.tick then setLock (notify s cBerylTickBehind 5 (tick % 2 ^ 32)) 1
  else
    let s := sourceEdge { s with ctrl := { s.ctrl with nextTick := some (tick + 1) }, beryl := { s.beryl with tickHops := hops } } (masterCycle s n)
    setLock s (if s.power.phase = 7 || (phaseError s).natAbs ≤ 1000 then 2 else 1)

/-- BERYL_TICK_FRAME (13 R435, R436). -/
def execBerylTickFrame (n : Fin 4) (h : BLinkHead) (a : BAddr) (tick period : Word) (hops : BitVec 8) (s : State) : Host.Outcome State Fault Refusal :=
  match linkReceive s n h with
  | none => .next s
  | some s =>
    let s := freeBuffer s n a.vc
    if cfgNat s oTickSource = 3 && routePort s (cfgNat s oTickMasterDevice) = some n then .next (followTick s n tick.toNat period.toNat hops.toNat) else .next s

/-- TICK_FRAME_LOSS: tick_in_loss expected TICK frames in a row are missing, and a part that follows Beryl ticks enters HOLDOVER (13 R436). -/
def execTickFrameLoss (s : State) : Host.Outcome State Fault Refusal :=
  if cfgNat s oTickSource = 3 && s.ctrl.lock ≠ 3 && cfgNat s oTickTickInLoss ≤ s.ctrl.edgesMissed then .next (setLock s 3) else .next s

/-! Frame slots. -/

/-- The WRITE frame of this part's tiles that a slot takes, 160 ns or more after it was handed to egress: from logical tile k on by ascending id, within a tile by ascending channel (13 R422, R424). -/
def slotWrite (s : State) (n : Fin 4) (k : Nat) : Option BWrite :=
  let m := gradeTiles s
  let rank (w : BWrite) : Nat := ((tile s w.tile).logical + m - k % m) % m * 8 + w.ch.val
  (s.beryl.writes.filter fun w => w.port = n && w.frame.at_ ≤ s.cycle).foldl (fun (a : Option BWrite) w => match a with
    | some x => if rank w < rank x then some w else a
    | none => some w) none

/-- A frame may leave: its VC has a receive buffer at the peer (13 R422). -/
def hasBuffer (p : BPort) (f : BFrame) : Bool := if f.vc then 0 < p.credit1 else 0 < p.credit0

/-- The next frame passing through on a VC of a port that has reached its egress and has a buffer at the peer (13 R422, R424). -/
def slotPass (s : State) (n : Fin 4) (vc : Bool) : Option (Fin 4 × BFrame) :=
  let p := bport s n
  (if vc then p.pass1 else p.pass0).head?.filter fun x => x.2.at_ ≤ s.cycle && (if vc then 0 < p.credit1 else 0 < p.credit0)

/-- The frame that slot k of a port takes from the first non-empty source, and the state without it: VC1 passing through, VC0 passing through, CONTROL and TICK frames, WRITE frames of this part's tiles (13 R422). -/
def slotFrame (s : State) (n : Fin 4) (k : Nat) : Option BFrame × State :=
  let p := bport s n
  match slotPass s n true, slotPass s n false, p.own.find? fun f => f.at_ ≤ s.cycle, slotWrite s n k with
  | some x, _, _, _ => (some x.2, freeBuffer (modBport s n fun p => { p with pass1 := p.pass1.tail }) x.1 x.2.vc)
  | none, some x, _, _ => (some x.2, freeBuffer (modBport s n fun p => { p with pass0 := p.pass0.tail }) x.1 x.2.vc)
  | none, none, some f, _ => if hasBuffer p f then (some f, modBport s n fun p => { p with own := p.own.erase f }) else (none, s)
  | none, none, none, some w =>
    if hasBuffer p w.frame then (some w.frame, roAdd { s with beryl := { s.beryl with writes := s.beryl.writes.erase w } } (oLinkFrames n.val) 1) else (none, s)
  | none, none, none, none => (none, s)

/-- The reply that the next frame on a port carries: the first made whose route is this port (13 R422). -/
def slotReply (s : State) (n : Fin 4) : Option BReply := s.beryl.replies.find? fun r => routePort s r.dst = some n

/-- The 24 bytes of a frame's header (13 R415). An IDLE frame carries this part's id and zeros beside the link fields (DESIGN CHOICE, notes/assumptions/28.md). -/
def frameHeader (self : Nat) (x : BSent) : List Byte :=
  let f := x.frame.getD { kind := 0, src := self }
  let r := x.reply.getD { code := 0, count := 0 }
  leBytes 1 f.kind ++ leBytes 1 ((if f.last then 1 else 0) + (if f.vc then 2 else 0)) ++ leBytes 1 f.dst ++ leBytes 1 f.src ++ leBytes 1 f.hops
    ++ leBytes 1 (f.window + 64 * f.gen) ++ leBytes 2 (if f.kind = 1 then f.payload.length else 0) ++ leBytes 4 f.offset ++ leBytes 2 f.tag
    ++ leBytes 2 x.seq ++ leBytes 2 x.ack ++ leBytes 1 (x.credit0 + 16 * x.credit1) ++ leBytes 1 r.code ++ leBytes 1 r.dst ++ leBytes 1 r.window ++ leBytes 2 (r.tag * 128 + r.count)

/-- Header, payload filled with zeros to 256 bytes, and the CRC over both (13 R414, R416). -/
def frameBody (self : Nat) (x : BSent) : List Byte :=
  let payload := match x.frame with | some f => f.payload.take 256 | none => []
  let body := frameHeader self x ++ payload ++ List.replicate (256 - payload.length) 0
  body ++ leBytes 4 (crc32 body)

/-- One bit through the scrambler x^58 + x^39 + 1: the bit sent is the input with the bits sent 39 and 58 earlier (13 R416). -/
def scrambleBit (st : BitVec 58) (b : Bool) : BitVec 58 × Bool :=
  let o := b ^^ st.getLsbD 38 ^^ st.getLsbD 57
  ((st <<< 1) ||| BitVec.ofNat 58 o.toNat, o)

/-- A run of bits through the scrambler, the first bit first. -/
def scramble : BitVec 58 → List Bool → BitVec 58 × List Bool
  | st, [] => (st, [])
  | st, b :: bs =>
    let x := scrambleBit st b
    let r := scramble x.1 bs
    (r.1, x.2 :: r.2)

/-- What the receiver makes of a run of scrambled bits: its register holds the bits received (13 R416). -/
def descramble : BitVec 58 → List Bool → List Bool
  | _, [] => []
  | st, o :: os => (o ^^ st.getLsbD 38 ^^ st.getLsbD 57) :: descramble ((st <<< 1) ||| BitVec.ofNat 58 o.toNat) os

/-- The bits of bytes, each byte's least significant bit first (DESIGN CHOICE, notes/assumptions/28.md). -/
def byteBits (bs : List Byte) : List Bool := bs.flatMap fun b => (List.range 8).map b.getLsbD

/-- Bytes of a run of bits. -/
def bitBytes : Nat → List Bool → List Byte
  | 0, _ => []
  | k + 1, bs => BitVec.ofNat 8 ((bs.take 8).foldr (fun b n => b.toNat + 2 * n) 0) :: bitBytes k (bs.drop 8)

/-- A frame as it stands on the fiber: the marker 0x5A3C_96E1 unscrambled, then the scrambled header, payload and CRC; and the scrambler after it (13 R416). -/
def frameWire (self : Nat) (scr : BitVec 58) (x : BSent) : BitVec 58 × List Byte :=
  let r := scramble scr (byteBits (frameBody self x))
  (r.1, leBytes 4 0x5A3C96E1 ++ bitBytes 284 r.2)

/-- A frame goes onto the fiber of a port. -/
def sendOut (s : State) (n : Fin 4) (x : BSent) : State :=
  let w := frameWire (deviceId s) (bport s n).scr x
  modBport { s with beryl := { s.beryl with sent := { x with wire := w.2 } :: s.beryl.sent } } n fun p => { p with scr := w.1 }

/-- BERYL_EGRESS_SLOT: a frame slot of a port, 102.4 ns after the last one: a replay goes first, then the first non-empty source, else IDLE; its header carries LINK_ACK, freed buffers and a reply (13 R414, R415, R417, R422). -/
def execBerylEgressSlot (n : Fin 4) (s : State) : Host.Outcome State Fault Refusal :=
  let p := bport s n
  if p.state ≠ 2 || 5 * s.cycle + 5 ≤ p.slotAt then .next s
  else
    let s := modBport s n fun p => { p with slot := p.slot + 1, slotAt := max p.slotAt (5 * s.cycle) + 256 }
    match p.resend with
    | x :: r => .next (sendOut (modBport s n fun p => { p with resend := r }) n x)
    | [] =>
      if 64 ≤ p.replay.length then .next s
      else
        let f := slotFrame s n p.slot
        let s := f.2
        let reply := slotReply s n
        let q := bport s n
        let x : BSent := { port := n, frame := f.1, reply := reply, seq := q.txSeq, ack := (q.rxNext + 65535) % 65536, credit0 := min 15 q.freed0, credit1 := min 15 q.freed1 }
        let s := modBport s n fun q => { q with
          txSeq := (q.txSeq + 1) % 65536
          replay := q.replay ++ [(q.txSeq, x)]
          freed0 := q.freed0 - min 15 q.freed0
          freed1 := q.freed1 - min 15 q.freed1
          credit0 := (match f.1 with | some g => if g.vc then q.credit0 else q.credit0 - 1 | none => q.credit0)
          credit1 := (match f.1 with | some g => if g.vc then q.credit1 - 1 else q.credit1 | none => q.credit1) }
        .next (sendOut { s with beryl := { s.beryl with
          replies := match reply with | some r => s.beryl.replies.erase r | none => s.beryl.replies } } n x)

/-! Windows at a boundary. -/

/-- Source devices of a window's configuration. -/
def sourcesOf (s : State) (w : Nat) : List Nat :=
  match smFind s.cfg (oWindowSources w) with
  | none => []
  | some b => (List.range 256).filter fun d => bitAt (d % 8) (b.getD (d / 8) 0).toNat

/-- A window opens: its generation rises, and each source gets its grant (13 R426). -/
def openWindow (s : State) (w : Fin 64) : State :=
  let src := sourcesOf s w.val
  let credits := cfgNat s (oWindowCredits w.val)
  let s := modWin s w fun x =>
    { state := 1, gen := (x.gen + 1) % 4, target := cfgNat s (oWindowTarget w.val), offset := cfgNat s (oWindowOffset w.val), size := cfgNat s (oWindowSize w.val)
      sources := src, credits := src.map fun d => (d, credits) }
  let x := ownWin s w
  src.foldl (fun s d => sendControl s d w.val x.gen 1 x.offset x.size credits) s

/-- A window begins to close (13 R432). -/
def closeWindow (s : State) (w : Fin 64) : State :=
  let s := modWin s w fun x => { x with state := 2, since := nowNs s }
  let x := ownWin s w
  x.sources.foldl (fun s d => sendControl s d w.val x.gen 2 0 0 0) s

/-- window.outstanding (13 R430). -/
def outstanding (x : OwnWin) : Nat := x.credits.foldl (fun n c => n + c.2) 0

/-- The final close of a window (13 R432). -/
def finalClose (s : State) (w : Fin 64) : State :=
  let x := ownWin s w
  let s := modWin s w fun x => { x with state := 0, credits := [] }
  x.sources.foldl (fun s d => sendControl s d w.val x.gen 3 0 0 0) s

/-- The windows at a boundary: final closes that are due, then windows that the applied configuration opens or closes (13 R426, R432). -/
def windowsAtBoundary (s : State) : State :=
  (List.finRange 64).foldl (fun s w =>
    let x := ownWin s w
    let size := cfgNat s (oWindowSize w.val)
    let s := if x.state = 2 && (outstanding x = 0 || x.since + cfgNat s (oWindowCloseLimit w.val) ≤ nowNs s) then finalClose s w else s
    if (ownWin s w).state = 0 && size ≠ 0 then openWindow s w
    else if (ownWin s w).state = 1 && size = 0 then closeWindow s w
    else s) s

/-- The link ports at a boundary: an enabled port trains, a disabled one is down (13 R419). -/
def linksAtBoundary (s : State) : State :=
  (List.finRange 4).foldl (fun s n =>
    if cfgOn s (oLinkEnable n.val) then startTraining s n
    else if (bport s n).state = 0 then s
    else portGoesDown s n cLinkDown false) s

end Sys2Proof.Machine
end

