-- ==== Sys2Proof/Machine/VecMath.lean ====
section
/-! DEFINITION. The arithmetic of the vector engine: what each operation makes of its elements, and of one lane (04 R125, R133 to R145, R164). -/

namespace Sys2Proof.Machine

/-- Element i of width w of a vector register (04 R125). -/
def vElemAt (w i : Nat) (v : BitVec 2048) : Nat := v.toNat / 2 ^ (i * w) % 2 ^ w

/-- The bits of element i of width w. -/
def vElemMask (w i : Nat) : BitVec 2048 := BitVec.ofNat 2048 ((2 ^ w - 1) * 2 ^ (i * w))

/-- A register with the bits of mask replaced by those of bits. -/
def vMerge (old mask bits : BitVec 2048) : BitVec 2048 := (old &&& ~~~mask) ||| (bits &&& mask)

/-- The lane k of a register: bits [256k + 255:256k] (04 R125). -/
def laneMask (k : Nat) : BitVec 2048 := BitVec.ofNat 2048 ((2 ^ 256 - 1) * 2 ^ (256 * k))

/-- VLMAX of an element width (04 R125). -/
def vlMax (ew : Nat) : Nat := 2048 / ew

/-- Whether a comparison of two elements of width w holds, signed or unsigned less-than. -/
def eLt (sgn : Bool) (w x y : Nat) : Bool := if sgn then signedOf w x < signedOf w y else x < y

/-- The opcode 0x10 operations, x2 op x1 at width w (04 R136, R164). -/
def eBasic (sub w x2 x1 : Nat) : Nat :=
  let sh := x1 % w
  match sub with
  | 0 => (x2 + x1) % 2 ^ w
  | 1 => (x2 + 2 ^ w - x1) % 2 ^ w
  | 2 => (x1 + 2 ^ w - x2) % 2 ^ w
  | 3 => x2 &&& x1
  | 4 => x2 ||| x1
  | 5 => x2 ^^^ x1
  | 6 => x2 * 2 ^ sh % 2 ^ w
  | 7 => x2 / 2 ^ sh
  | 8 => wrapTo w (floorShift (signedOf w x2) sh)
  | 9 => if eLt true w x2 x1 then x2 else x1
  | 10 => min x2 x1
  | 11 => if eLt true w x2 x1 then x1 else x2
  | _ => max x2 x1

/-- The saturating operations of opcode 0x11 (04 R140). -/
def eSat (sub w x2 x1 : Nat) : Nat :=
  match sub with
  | 0 => wrapTo w (clipSigned w (signedOf w x2 + signedOf w x1))
  | 1 => wrapTo w (clipUnsigned w ((x2 : Int) + x1))
  | 2 => wrapTo w (clipSigned w (signedOf w x2 - signedOf w x1))
  | _ => wrapTo w (clipUnsigned w ((x2 : Int) - x1))

/-- The multiplies of opcode 0x12: e.mla adds vs2 × src1 to vd, e.mls subtracts it (04 R164). -/
def eMul (sub w x2 x1 xd : Nat) : Nat :=
  match sub with
  | 0 => x2 * x1 % 2 ^ w
  | 1 => wrapTo w (floorShift (signedOf w x2 * signedOf w x1) w)
  | 2 => x2 * x1 / 2 ^ w
  | 3 => (xd + x2 * x1) % 2 ^ w
  | _ => wrapTo w ((xd : Int) - (x2 * x1 : Nat))

/-- The widening operations of opcode 0x13: sources of width w, result of width 2w (04 R141). -/
def eWiden (sub w x2 x1 xd : Nat) : Nat :=
  let s2 := signedOf w x2
  let s1 := signedOf w x1
  match sub with
  | 0 => wrapTo (2 * w) (s2 + s1)
  | 1 => (x2 + x1) % 2 ^ (2 * w)
  | 2 => wrapTo (2 * w) (s2 - s1)
  | 3 => wrapTo (2 * w) ((x2 : Int) - x1)
  | 4 => wrapTo (2 * w) (s2 * s1)
  | 5 => x2 * x1
  | 6 => wrapTo (2 * w) (s2 * (x1 : Int))
  | 7 => wrapTo (2 * w) ((xd : Int) + s2 * s1)
  | _ => (xd + x2 * x1) % 2 ^ (2 * w)

/-- The narrowing operations of opcode 0x14: a source of width 2w, shifted by the low log2(2w) bits of src1 (04 R136, R140). -/
def eNarrow (sub w x2 x1 : Nat) : Nat :=
  let sh := x1 % (2 * w)
  let s2 := signedOf (2 * w) x2
  match sub with
  | 0 => x2 / 2 ^ sh % 2 ^ w
  | 1 => wrapTo w (floorShift s2 sh)
  | 2 => wrapTo w (clipSigned w (roundConvergent s2 sh))
  | _ => wrapTo w (clipUnsigned w (roundConvergent s2 sh))

/-- Part j of width p of an element, read signed or unsigned. -/
def partOf (sgn : Bool) (p j x : Nat) : Int :=
  let v := x / 2 ^ (p * j) % 2 ^ p
  if sgn then signedOf p v else v

/-- The dot products of opcode 0x15 (04 R142). -/
def eDot (sub w x2 x1 xd : Nat) : Nat :=
  let four := sub < 3
  let p := if four then 8 else w / 2
  let n := if four then 4 else 2
  let s2 := sub % 3 ≠ 1
  let s1 := sub % 3 = 0
  wrapTo w ((List.range n).foldl (fun a j => a + partOf s2 p j x2 * partOf s1 p j x1) (xd : Int))

/-- The compares of opcode 0x16: vs2[i] xx src1[i] (04 R136). -/
def eCompare (sub w x2 x1 : Nat) : Bool :=
  match sub with
  | 0 => x2 = x1
  | 1 => x2 ≠ x1
  | 2 => eLt true w x2 x1
  | 3 => x2 < x1
  | 4 => !eLt true w x1 x2
  | _ => x2 ≤ x1

/-- The floating-point operations of opcode 0x20 (04 R143, R164). -/
def efBasic (f : FloatFmt) (frm sub x2 x1 xd : Nat) : FRes :=
  match sub with
  | 0 => fAdd f frm x2 x1
  | 1 => fSub f frm x2 x1
  | 2 => fMul f frm x2 x1
  | 3 => fFma f frm x2 x1 xd
  | 4 => fNegFma f frm x2 x1 xd
  | 5 => fMls f frm x2 x1 xd
  | 6 => fMin f x2 x1
  | 7 => fMax f x2 x1
  | 8 => (fWithSign f x2 (fNegBit f x1), 0)
  | 9 => (fWithSign f x2 (!fNegBit f x1), 0)
  | _ => (fWithSign f x2 (fNegBit f x2 != fNegBit f x1), 0)

/-- The limits of an integer of width w. -/
def intLimits (sgn : Bool) (w : Nat) : Int × Int :=
  if sgn then (-((2 ^ (w - 1) : Nat) : Int), ((2 ^ (w - 1) : Nat) : Int) - 1) else (0, ((2 ^ w : Nat) : Int) - 1)

/-- The conversions of opcode 0x23 at one width (04 R143, R164). -/
def efConvert (f : FloatFmt) (frm sub w x2 : Nat) : FRes :=
  match sub with
  | 0 => fOfInt f frm (signedOf w x2)
  | 1 => fOfInt f frm x2
  | 2 =>
    let l := intLimits true w
    let r := fToInt f frm l.1 l.2 x2
    (wrapTo w r.1, r.2)
  | _ =>
    let l := intLimits false w
    let r := fToInt f frm l.1 l.2 x2
    (wrapTo w r.1, r.2)

/-- The floating-point compares of opcode 0x22 (04 R164). -/
def efCompare (f : FloatFmt) (sub x2 x1 : Nat) : Bool × BitVec 32 :=
  match sub with
  | 0 => fEq f x2 x1
  | 1 => fLt f x2 x1
  | _ => fLe f x2 x1

/-- wf.mla: an exact BF16 product added to binary32 and rounded once (04 R143). -/
def wfMla (frm x2 x1 xd : Nat) : FRes :=
  vFma binary32 frm (fUnpack bf16 x2) (fUnpack bf16 x1) (fUnpack binary32 xd)

/-- The format twice as wide: BF16 to FP32, FP32 to FP64 (04 R164). -/
def wideFmt (ew : Nat) : FloatFmt := if ew = 16 then binary32 else binary64

/-- The result element of a lane-local arithmetic operation and the flags it sets (04 R164). -/
def vElemOp (opc sub ew frm : Nat) (x2 x1 xd : Nat) (blend : Bool) : FRes :=
  let f := fmtOfWidth ew
  if opc = 0x10 then (eBasic sub ew x2 x1, 0)
  else if opc = 0x11 then (eSat sub ew x2 x1, 0)
  else if opc = 0x12 then (eMul sub ew x2 x1 xd, 0)
  else if opc = 0x13 then (eWiden sub ew x2 x1 xd, 0)
  else if opc = 0x14 then (eNarrow sub ew x2 x1, 0)
  else if opc = 0x15 then (eDot sub ew x2 x1 xd, 0)
  else if opc = 0x17 then (if sub = 1 || blend then x1 else x2, 0)
  else if opc = 0x20 then efBasic f frm sub x2 x1 xd
  else if opc = 0x21 then (if sub = 0 then fDiv f frm x2 x1 else fSqrt f frm x2)
  else if opc = 0x23 then efConvert f frm sub ew x2
  else if opc = 0x24 then (if sub = 0 then fConvert f (wideFmt ew) frm x2 else wfMla frm x2 x1 xd)
  else fConvert (wideFmt ew) f frm x2

/-- The destination is a pair of registers of wide elements. -/
def vWidens (opc : Nat) : Bool := opc = 0x13 || opc = 0x24
/-- The source vs2 is a pair of registers of wide elements. -/
def vNarrows (opc : Nat) : Bool := opc = 0x14 || opc = 0x25

/-- The wide element of narrow element i at narrow width ew: (in the odd register, element index), by 04 R141. -/
def wideIndex (ew i : Nat) : Bool × Nat :=
  let q := 256 / ew
  let k := i / q
  let p := i % q
  if p < q / 2 then (false, k * (q / 2) + p) else (true, k * (q / 2) + p - q / 2)

/-- The values of rf.tree, the tree of 04 R144 over positions that may be absent: one level. -/
def treeLevel (add : Nat → Nat → FRes) : List (Option Nat) → List (Option Nat) × BitVec 32
  | [] => ([], 0)
  | [x] => ([x], 0)
  | x :: y :: r =>
    let t := treeLevel add r
    match x, y with
    | some a, some b => let s := add a b; (some s.1 :: t.1, s.2 ||| t.2)
    | some a, none => (some a :: t.1, t.2)
    | none, some b => (some b :: t.1, t.2)
    | none, none => (none :: t.1, t.2)

/-- The tree of 04 R144: levels until one position is left. -/
def treeSum (add : Nat → Nat → FRes) : Nat → List (Option Nat) → Option Nat × BitVec 32
  | 0, x => ((x.head?).getD none, 0)
  | n + 1, x =>
    if x.length ≤ 1 then ((x.head?).getD none, 0)
    else
      let l := treeLevel add x
      let r := treeSum add n l.1
      (r.1, l.2 ||| r.2)

/-- rf.tree, rf.seq, rf.max and rf.min over the elements of vs2, absent where inactive, from vs1[0] (04 R144). -/
def rfReduce (f : FloatFmt) (frm sub x1 : Nat) (xs : List (Option Nat)) : FRes :=
  match sub with
  | 0 =>
    let t := treeSum (fAdd f frm) 8 xs
    match t.1 with
    | none => (x1, t.2)
    | some s => let r := fAdd f frm x1 s; (r.1, r.2 ||| t.2)
  | _ =>
    let op := if sub = 1 then fAdd f frm else if sub = 2 then fMax f else fMin f
    xs.foldl (fun a x => match x with
      | none => a
      | some y => let r := op a.1 y; (r.1, a.2 ||| r.2)) (x1, 0)

/-- The integer reductions of opcode 0x19 (04 R144, R164). -/
def rReduce (sub w x1 : Nat) (xs : List (Option Nat)) : Nat :=
  let op : Nat → Nat → Nat := fun a y => match sub with
    | 0 => (a + y) % 2 ^ w
    | 1 => if eLt true w a y then y else a
    | 2 => max a y
    | 3 => if eLt true w a y then a else y
    | 4 => min a y
    | 5 => a &&& y
    | 6 => a ||| y
    | _ => a ^^^ y
  xs.foldl (fun a x => match x with | none => a | some y => op a y) x1

/-- The latency L of a V-slot operation that is neither a memory operation nor vsettle (04 R164). -/
def vLatency (opc sub ew : Nat) : Nat :=
  if opc = 0x0A || opc = 0x0B then 9
  else if opc = 0x0C then 2
  else if opc = 0x10 || opc = 0x11 || opc = 0x17 then 2
  else if opc = 0x12 || opc = 0x13 || opc = 0x14 || opc = 0x15 || opc = 0x23 || opc = 0x25 then 4
  else if opc = 0x16 || opc = 0x22 then 9
  else if opc = 0x18 then 10
  else if opc = 0x19 then 12
  else if opc = 0x20 || opc = 0x24 then 5
  else if opc = 0x21 then 16
  else if opc = 0x26 then
    (if sub = 0 then 5 * ((vlMax ew).log2 + 1) + 7 else if sub = 1 then 5 * (vlMax ew + 1) + 7 else 12)
  else if opc = 0x30 then (if sub ≤ 5 then 5 else 16)
  else if opc = 0x31 then (if sub ≤ 1 then 2 else 4)
  else 1

/-- The operation is cross-lane (04 R152, R164). -/
def vCross (opc : Nat) : Bool := opc = 0x16 || opc = 0x22 || opc = 0x18 || opc = 0x19 || opc = 0x26

end Sys2Proof.Machine
end

