-- ==== Sys2Proof/Machine/Vector.lean ====
section
/-! DEFINITION. The V slot: encodings, lanes in time, memory operations and vector faults (04). -/

namespace Sys2Proof.Machine

open Sys2Proof

/-- EW of a tile in bits (04 R129). -/
def ewOf (t : Tile) : Nat := 8 * 2 ^ field 1 0 t.vew.toNat

/-- FRM of a tile (04 R129). -/
def frmOf (t : Tile) : Nat := field 5 4 t.vew.toNat

/-- Opcode of a V-slot word (04 R136). -/
def vOpc (w : BitVec 32) : Nat := field 31 26 w.toNat
/-- Field [25:21]. -/
def vVd (w : BitVec 32) : Fin 32 := ⟨field 25 21 w.toNat % 32, by omega⟩
/-- Field [20:16]. -/
def vSrc1 (w : BitVec 32) : Fin 32 := ⟨field 20 16 w.toNat % 32, by omega⟩
/-- Field [15:11]. -/
def vVs2 (w : BitVec 32) : Fin 32 := ⟨field 15 11 w.toNat % 32, by omega⟩
/-- Field [13:9]. -/
def vVs2Low (w : BitVec 32) : Fin 32 := ⟨field 13 9 w.toNat % 32, by omega⟩
/-- Field [25:20]: a g register. -/
def vGd (w : BitVec 32) : Fin 64 := ⟨field 25 20 w.toNat % 64, by omega⟩
/-- Sub-operation of a V-slot word. -/
def vSub (w : BitVec 32) : Nat :=
  let o := vOpc w
  if o = 0x30 || o = 0x31 then field 4 0 w.toNat else field 7 0 w.toNat
/-- The register that follows one of a pair. -/
def vNext (r : Fin 32) : Fin 32 := r + 1

/-- A result of an operation issued at cycle issue, put in flight for cycle due. -/
def landAt (t : Tile) (due issue : Nat) (act : Act) : Tile := { t with sched := t.sched ++ [{ due := due, issue := issue, act := act }] }

/-- Sticky flags of VEW raised with a result (04 R143). -/
def landVew (t : Tile) (due issue : Nat) (bits : BitVec 32) : Tile := if bits = 0 then t else landAt t due issue (.vewSticky bits)

/-- A value at element i of width w. -/
def vElemPut (w i v : Nat) : BitVec 2048 := BitVec.ofNat 2048 ((v % 2 ^ w) * 2 ^ (i * w))

/-- Elements of lane k that an operation processes: below VL and enabled by the mask, unless the operation ignores it (04 R134). -/
def laneElems (op : VOp) (k : Nat) : List Nat :=
  let q := 256 / op.ew
  let masked := bitAt 10 op.word.toNat && !(vOpc op.word = 0x17 && vSub op.word = 0)
  ((List.range q).map (q * k + ·)).filter fun i => i < op.vl && (!masked || op.mask.getLsbD i)

/-- The second operand of element i: of the captured register, or the scalar (04 R136). -/
def vX1 (op : VOp) (src1 : BitVec 2048) (i : Nat) : Nat :=
  if field 9 8 op.word.toNat = 0 then vElemAt op.ew i src1 else op.scalar.toNat % 2 ^ op.ew

/-- What a lane-local operation lands from lane k: mask and bits for vd, for vd + 1, and the flags (04 R141, R152). -/
def vLaneBits (op : VOp) (t : Tile) (k : Nat) : (BitVec 2048 × BitVec 2048) × (BitVec 2048 × BitVec 2048) × BitVec 32 :=
  let w := op.word
  let opc := vOpc w
  let ew := op.ew
  let v2 := t.v[vVs2 w]
  let v2' := t.v[vNext (vVs2 w)]
  let v1 := t.v[vSrc1 w]
  let vd := t.v[vVd w]
  let vd' := t.v[vNext (vVd w)]
  (laneElems op k).foldl (fun a i =>
    let wi := wideIndex ew i
    let x2 := if vNarrows opc then vElemAt (2 * ew) wi.2 (if wi.1 then v2' else v2) else vElemAt ew i v2
    let xd := if vWidens opc then vElemAt (2 * ew) wi.2 (if wi.1 then vd' else vd) else vElemAt ew i vd
    let r := vElemOp opc (vSub w) ew op.frm x2 (vX1 op v1 i) xd (op.mask.getLsbD i)
    if vWidens opc then
      let m := vElemMask (2 * ew) wi.2
      let b := vElemPut (2 * ew) wi.2 r.1
      if wi.1 then (a.1, (a.2.1.1 ||| m, a.2.1.2 ||| b), a.2.2 ||| r.2)
      else ((a.1.1 ||| m, a.1.2 ||| b), a.2.1, a.2.2 ||| r.2)
    else ((a.1.1 ||| vElemMask ew i, a.1.2 ||| vElemPut ew i r.1), a.2.1, a.2.2 ||| r.2))
    ((0, 0), (0, 0), 0)

/-- All elements that an operation processes. -/
def allElems (op : VOp) : List Nat := (List.range 8).flatMap (laneElems op)

/-- What a cross-lane operation lands in vd once every lane of its sources is read, with its flags (04 R144, R164). An element that x.up or x.down vacates is a free value of the operation's inputs, old the present vd among them; the amount is the unsigned EW-bit reading of src1 (DESIGN CHOICE, notes/assumptions/20.md). -/
def vCrossBits (op : VOp) (old : BitVec 2048) : BitVec 2048 × BitVec 2048 × BitVec 32 :=
  let w := op.word
  let opc := vOpc w
  let sub := vSub w
  let ew := op.ew
  let es := allElems op
  let f := fmtOfWidth ew
  if opc = 0x16 || opc = 0x22 then
    es.foldl (fun a i =>
      let r := if opc = 0x16 then (eCompare sub ew (vElemAt ew i op.src2) (vX1 op op.src1 i), 0)
               else efCompare f sub (vElemAt ew i op.src2) (vX1 op op.src1 i)
      (a.1 ||| vElemMask 1 i, if r.1 then a.2.1 ||| vElemMask 1 i else a.2.1, a.2.2 ||| r.2)) (0, 0, 0)
  else if opc = 0x18 then
    let n := op.scalar.toNat % 2 ^ ew
    let vm := op.vlen / ew
    let vacated (i : Nat) : Nat := (Config.vacated (sub = 0) ew n op.src2 old i).toNat
    es.foldl (fun a i =>
      let x := if sub = 2 then (let j := vElemAt ew i op.src1; if j < vm then vElemAt ew j op.src2 else 0)
        else if sub = 0 then (if n ≤ i then vElemAt ew (i - n) op.src2 else vacated i)
        else (if i + n < vm then vElemAt ew (i + n) op.src2 else vacated i)
      (a.1 ||| vElemMask ew i, a.2.1 ||| vElemPut ew i x, a.2.2)) (0, 0, 0)
  else
    let xs := (List.range op.vl).map fun i => if es.contains i then some (vElemAt ew i op.src2) else none
    let x1 := vElemAt ew 0 op.src1
    let r : FRes := if opc = 0x19 then (rReduce sub ew x1 xs, 0) else rfReduce f op.frm sub x1 xs
    (vElemMask ew 0, vElemPut ew 0 r.1, r.2)

/-- A lane of a register captured. -/
def capture (old new : BitVec 2048) (k : Nat) : BitVec 2048 := vMerge old (laneMask k) new

/-- The operation adds to its destination or subtracts from it: it reads vd (04 R142, R164). -/
def vAccumulates (opc sub : Nat) : Bool :=
  (opc = 0x12 && 3 ≤ sub) || (opc = 0x13 && 7 ≤ sub) || opc = 0x15 || (opc = 0x20 && 3 ≤ sub && sub ≤ 5) || (opc = 0x24 && sub = 1)

/-- The operation has one source, vs2 (04 R164). -/
def vUnary (opc sub : Nat) : Bool := opc = 0x23 || opc = 0x25 || (opc = 0x21 && sub = 1) || (opc = 0x24 && sub = 0)

/-- The registers whose lanes a vector operation reads, lane k in the cycle of lane k (04 R152). -/
def vReads (w : BitVec 32) : List Nat :=
  let opc := vOpc w
  let sub := vSub w
  if opc = 0x0A then [(vVs2Low w).val]
  else if opc = 0x0B then []
  else
    (if opc = 0x17 && sub = 1 then [] else (vVs2 w).val :: if vNarrows opc then [(vNext (vVs2 w)).val] else [])
      ++ (if field 9 8 w.toNat = 0 && !vUnary opc sub then [(vSrc1 w).val] else [])
      ++ (if vAccumulates opc sub then (vVd w).val :: (if vWidens opc then [(vNext (vVd w)).val] else []) else [])

/-- The registers of which a lane-local or cross-lane operation reads lane 0 at its issue: the mask v0 and the f operand (04 R134, R136). -/
def vReadsAtIssue (w : BitVec 32) : List Nat :=
  let opc := vOpc w
  if opc = 0x0A || opc = 0x0B then []
  else
    (if bitAt 10 w.toNat || (opc = 0x17 && vSub w = 0) then [0] else [])
      ++ (if field 9 8 w.toNat = 2 && !vUnary opc (vSub w) then [(vSrc1 w).val] else [])

/-- Lane k of a register holds a byte of bad parity (01 R18). -/
def laneBad (t : Tile) (k r : Nat) : Bool := t.vBad.any fun b => b / 32 = 8 * r + k

/-- Lane k of a vector operation is read in the present cycle; a lane-local operation computes it and lands it L cycles on, a cross-lane one captures it and lands its result with lane 7 read (04 R152). A lane element of bad parity raises VLANE_PARITY (04 R156). -/
def vExecLane (s : State) (p : PTile) (issue : Nat) (op : VOp) (k : Nat) : State :=
  let t := tile s p
  let w := op.word
  let opc := vOpc w
  let now := s.cycle
  let bad := (vReads w).any (laneBad t k) || (k = 0 && (vReadsAtIssue w).any (laneBad t 0))
  let l := vLatency opc (vSub w) op.ew
  let go (t : Tile) (op : VOp) : Tile := if k < 7 then landAt t (now + 1) issue (.vExec op (k + 1)) else t
  let s' :=
    if vCross opc || opc = 0x0A || opc = 0x0B then
      let op := { op with src2 := capture op.src2 t.v[if opc = 0x0A then vVs2Low w else vVs2 w] k, src1 := capture op.src1 t.v[vSrc1 w] k }
      if k < 7 then modTile s p fun t => go t op
      else if opc = 0x0A then
        let i := op.scalar.toNat
        let v : Word := if i < vlMax op.ew then BitVec.ofInt 64 (signedOf op.ew (vElemAt op.ew i op.src2)) else 0
        modTile s p fun t => if op.dst.val = 0 then t else landAt t (issue + l) issue (.vgReg op.dst v)
      else
        let r := vCrossBits op t.v[vVd w]
        modTile s p fun t => landVew (landAt t (issue + l) issue (.vLane (vVd w) r.1 r.2.1)) (issue + l) issue r.2.2
    else
      let r := vLaneBits op t k
      modTile s p fun t =>
        let t := if r.1.1 = 0 then t else landAt t (now + l) issue (.vLane (vVd w) r.1.1 r.1.2)
        let t := if r.2.1.1 = 0 then t else landAt t (now + l) issue (.vLane (vNext (vVd w)) r.2.1.1 r.2.1.2)
        go (landVew t (now + l) issue r.2.2) op
  if bad then stepFault s' p cVlaneParity 0 else s'

/-- Bytes of one element. -/
def ewBytes (ew : Nat) : Nat := ew / 8

/-- One port cycle of a vector load: the elements (register, index, address) read now, landing together or lane by lane from cycle due on (04 R148, R150). A byte of bad parity raises CORE_PARITY or OPBUF_PARITY (08 R260). -/
def vReadNow (s : State) (p : PTile) (issue : Nat) (vob : Bool) (ew : Nat) (elems : List (Nat × Nat × Nat)) (due : Nat) (skew : Bool) : State :=
  let t := tile s p
  let m := if vob then t.vob else t.core
  let badList := if vob then t.vobBad else t.coreBad
  let s' := modTile s p fun t => elems.foldl (fun t e =>
    let v := leNat (memRead m e.2.2 (ewBytes ew))
    let lane := e.2.1 * ew / 256
    landAt t (if skew then due + lane else due) issue (.vLane ⟨e.1 % 32, by omega⟩ (vElemMask ew e.2.1) (vElemPut ew e.2.1 v))) t
  match elems.findSome? fun e => badByte badList e.2.2 (ewBytes ew) with
  | none => s'
  | some b => if vob then stepFault s' p cOpbufParity (coreGlobal t (0x280000 + b)) else stepFault s' p cCoreParity (coreGlobal t b)

/-- The data of a vector store read from its register now, to be written in cycle at_ (04 R147, R148). -/
def vStoreRead (t : Tile) (issue : Nat) (vob : Bool) (vr : Fin 32) (ew : Nat) (elems : List (Nat × Nat)) (at_ : Nat) : Tile :=
  let bytes := elems.flatMap fun e =>
    (leBytes (ewBytes ew) (vElemAt ew e.1 t.v[vr])).zipIdx.map fun b => (e.2 + b.2, b.1)
  if bytes.isEmpty then t else landAt t at_ issue (.vWriteMem vob bytes)

/-- The bytes of a vector store granted in the present cycle; they take effect at its end, over those of port 0 and 1. Fetch still sees the old bytes up to twelve cycles after the issue of the store (03 R94, 04 R150). -/
def vWriteNow (t : Tile) (now issue : Nat) (vob : Bool) (bytes : List (Nat × Byte)) : Tile :=
  { t with
    fetchLog := if vob then t.fetchLog else (t.fetchLog.filter fun o => now < o.at_ + 12) ++
      bytes.map fun b => { addr := b.1, old := memGet t.core b.1, at_ := issue }
    commits := t.commits ++ bytes.map fun b => { space := if vob then .vob else .core, addr := b.1, bytes := [b.2], rank := 2 } }

/-- A V-slot memory operation as issue resolves it (04 R137, R146, R148). -/
structure VMem where
  /-- a store -/
  store : Bool
  /-- vector operand buffer -/
  vob : Bool
  /-- unit-stride or structure form: lanes land and are read one cycle apart -/
  unit : Bool
  /-- fields, 1 but for a structure load -/
  nf : Nat
  /-- EW in force -/
  ew : Nat
  /-- VL in force -/
  vl : Nat
  /-- bytes from one element to the next, for the update of an -/
  stride : Int
  /-- offset of element i, field f -/
  off : Nat → Nat → Int
  /-- element i is enabled -/
  on : Nat → Bool

/-- A V-slot word names a memory operation. -/
def vIsMem (w : BitVec 32) : Bool := 2 ≤ vOpc w && vOpc w ≤ 8

/-- The address register of a memory form. -/
def vA (w : BitVec 32) : Fin 8 := ⟨field 20 18 w.toNat % 8, by omega⟩

/-- The stride register of a strided form. -/
def vStrideG (w : BitVec 32) : Fin 64 := ⟨field 13 8 w.toNat % 64, by omega⟩

/-- The memory operation of a V-slot word on a tile (04 R146). -/
def vMemOf (t : Tile) (w : BitVec 32) : VMem :=
  let o := vOpc w
  let ew := ewOf t
  let n := ewBytes ew
  let nf := if o = 5 then field 7 6 w.toNat + 1 else 1
  let strided := o = 3 || o = 7
  let indexed := o = 4 || o = 8
  let st : Int := if strided then (gVal t (vStrideG w)).toInt else (nf * n : Nat)
  let idx := t.v[(⟨field 12 8 w.toNat % 32, by omega⟩ : Fin 32)]
  { store := 6 ≤ o
    vob := bitAt 16 w.toNat
    unit := !strided && !indexed
    nf := nf
    ew := ew
    vl := t.vl
    stride := st
    off := fun i f => if indexed then (vElemAt ew i idx * 2 ^ field 1 0 w.toNat : Nat) else if strided then st * i else (((i * nf + f) * n : Nat) : Int)
    on := fun i => !bitAt 15 w.toNat || t.v[0].getLsbD i }

/-- Effective address of a byte offset from an, by 03 R91 and R92 in mode 0b000; in linear mode the sum is taken modulo 2^64 (DESIGN CHOICE, notes/assumptions/44.md). -/
def vEa (t : Tile) (a : Fin 8) (off : Int) : Nat :=
  let an := (aVal t a).toNat
  let cb := (bankOf t).cb[a].toNat
  let len := field 53 32 cb
  let base := field 20 0 cb
  if len = 0 then wrapTo 64 ((an : Int) + off) else base + (((an : Int) - base + off) % len).toNat

/-- The cause with which an element's address fails, 0 none (04 R156). -/
def vCause (m : VMem) (ea : Nat) : Nat :=
  if m.vob then (if 0x10000 ≤ ea then 3 else if ea % ewBytes m.ew ≠ 0 then 2 else 0)
  else if coreSize ≤ ea || (m.store && descArea ≤ ea) then 1
  else if ea % ewBytes m.ew ≠ 0 then 2
  else 0

/-- The first element from start on whose address fails (04 R156). -/
def vFaultOf (t : Tile) (w : BitVec 32) (start : Nat) : Option VFault :=
  let m := vMemOf t w
  ((List.range m.vl).filter fun i => start ≤ i && m.on i).findSome? fun i =>
    (List.range m.nf).findSome? fun f =>
      let ea := vEa t (vA w) (m.off i f)
      let c := vCause m ea
      if c = 0 then none else some { cause := c, elem := i, vob := m.vob, addr := ea }

/-- Elements from start up to the first that fails: how many port cycles an operation counts (04 R148, R156). -/
def vCount (t : Tile) (w : BitVec 32) (start : Nat) : Nat :=
  match vFaultOf t w start with
  | some f => f.elem - start
  | none => t.vl - start

/-- The cycles, counted from issue, in which a memory operation holds its port (04 R135, R148). -/
def vPortCycles (t : Tile) (w : BitVec 32) (start : Nat) : List Nat :=
  let m := vMemOf t w
  let n := vCount t w start
  if t.vl ≤ start then []
  else
    let first := if m.store then 8 else 1
    let len := if m.unit then (if m.vob then 1 else 4 * m.nf) else if m.vob then ceilDiv n 8 else n
    (List.range len).map (first + ·)

/-- The words of the memory forms that 04 R139 refuses. -/
def vMemIllegal (w : BitVec 32) : Bool :=
  let x := w.toNat
  let o := vOpc w
  let strided := o = 3 || o = 7
  let indexed := o = 4 || o = 8
  bitAt 14 x || field 5 2 x ≠ 0
    || (!strided && !indexed && field 13 8 x ≠ 0) || (indexed && bitAt 13 x)
    || (!indexed && field 1 0 x ≠ 0)
    || (o ≠ 5 && field 7 6 x ≠ 0)
    || (o = 5 && (field 7 6 x = 0 || 31 < (vVd w).val + field 7 6 x || bitAt 16 x))
    || (indexed && bitAt 17 x)

/-- A memory operation issues: reads and captures are scheduled in the port cycles of 04 R148, and an is updated unless an element fails (04 R156). Port cycle j of a unit-stride or structure load reads the elements in bytes 64 j to 64 j + 63 of the order they lie in (DESIGN CHOICE, notes/assumptions/44.md). -/
def vMemAct (t : Tile) (now : Nat) (w : BitVec 32) (start : Nat) : Tile :=
  let m := vMemOf t w
  let n := vCount t w start
  let a := vA w
  let vd := vVd w
  let ports := (vPortCycles t w start).map (now + ·)
  let done := (List.range n).map (start + ·) |>.filter m.on
  let addr (i f : Nat) : Nat := vEa t a (m.off i f)
  let bytes := ewBytes m.ew
  let t0 := if m.vob then { t with portV := t.portV ++ ports } else { t with port0 := t.port0 ++ ports }
  let t1 :=
    if m.vl ≤ start then t
    else if !m.store then
      if m.unit then
        let blocks := if m.vob then 1 else 4 * m.nf
        let due := if m.vob then now + 4 else now + 4 * m.nf + (if m.nf = 1 then 3 else 6)
        (List.range blocks).foldl (fun t j =>
          let es := done.flatMap fun i => ((List.range m.nf).filter fun f => m.vob || (i * m.nf + f) * bytes / 64 = j).map fun f => (vd.val + f, i, addr i f)
          if es.isEmpty then t else landAt t (now + 1 + j) now (.vReadMem m.vob m.ew es due true)) t0
      else
        let per := if m.vob then 8 else 1
        let len := ceilDiv n per
        let due := now + len + (if m.vob then 3 else 6)
        (List.range len).foldl (fun t j =>
          let es := (done.filter fun i => (i - start) / per = j).map fun i => (vd.val, i, addr i 0)
          if es.isEmpty then t else landAt t (now + 1 + j) now (.vReadMem m.vob m.ew es due false)) t0
    else if m.unit then
      (List.range 8).foldl (fun t k =>
        let es := (done.filter fun i => i * m.ew / 256 = k).map fun i => (i, addr i 0)
        let at_ := if m.vob then now + 8 else now + 8 + k / 2
        if es.isEmpty then t
        else if k = 0 then vStoreRead t now m.vob vd m.ew es at_
        else landAt t (now + k) now (.vStoreLanes m.vob vd m.ew es at_)) t0
    else
      let per := if m.vob then 8 else 1
      (List.range (ceilDiv n per)).foldl (fun t j =>
        let es := (done.filter fun i => (i - start) / per = j).map fun i => (i, addr i 0)
        if es.isEmpty then t else vStoreRead t now m.vob vd m.ew es (now + 8 + j)) t0
  match vFaultOf t w start, bitAt 17 w.toNat with
  | none, true =>
    if t.vl = 0 then t1
    else
      let an := (aVal t a).toNat
      let cb := (bankOf t).cb[a].toNat
      let len := field 53 32 cb
      let base := field 20 0 cb
      let step : Int := m.stride * t.vl
      let v := if len = 0 then BitVec.ofInt 32 ((an : Int) + step) else BitVec.ofNat 32 (base + (((an : Int) - base + step) % len).toNat)
      land t1 now 1 (.aReg t.inC0 a v)
  | _, _ => t1

/-- What a memory operation reads at its issue: the mask, the index register, and the data of a store that is not unit-stride, every lane; of a unit-stride store lane 0 (04 R147). -/
def vMemBad (t : Tile) (w : BitVec 32) : Bool :=
  let o := vOpc w
  let whole (r : Nat) : Bool := (List.range 8).any fun k => laneBad t k r
  (t.vl ≠ 0) && ((bitAt 15 w.toNat && laneBad t 0 0) || ((o = 4 || o = 8) && whole (field 12 8 w.toNat))
    || ((o = 7 || o = 8) && whole (vVd w).val) || (o = 6 && laneBad t 0 (vVd w).val))

/-- The registers of which an operation on lane 0 reads that lane at its issue (04 R153). -/
def vLane0Reads (w : BitVec 32) : List Nat :=
  let o := vOpc w
  let x := w.toNat
  let sub := vSub w
  if o = 0x0C then [(vVs2Low w).val]
  else if o = 0x30 then field 20 16 x :: (if sub = 7 then [] else [field 15 11 x]) ++ (if sub = 3 then [field 10 6 x] else [])
  else if o = 0x31 && (sub = 0 || sub = 2) then [field 19 15 x]
  else []

/-- The words of the arithmetic and remaining forms that 04 R139 refuses at an element width. fs2 and fs3 of a scalar operation that has no use for them may hold any register (DESIGN CHOICE, notes/assumptions/44.md). -/
def vArithIllegal (ew : Nat) (w : BitVec 32) : Bool :=
  let x := w.toNat
  let o := vOpc w
  let sub := vSub w
  let form := field 9 8 x
  let v := form = 0
  let g := form = 1
  let f := form = 2
  let k := form = 3
  let oddD := (vVd w).val % 2 = 1
  let odd2 := (vVs2 w).val % 2 = 1
  !(if o = 0x10 then sub < 13 && (v || g || k)
    else if o = 0x11 then sub < 4 && (v || g || k)
    else if o = 0x12 then sub < 5 && (v || g)
    else if o = 0x13 then sub < 9 && (v || g) && ew ≠ 64 && !oddD
    else if o = 0x14 then sub < 4 && (v || g || k) && ew ≠ 64 && !odd2
    else if o = 0x15 then v && ((sub < 3 && ew = 32) || (3 ≤ sub && sub < 6 && (ew = 32 || ew = 64)))
    else if o = 0x16 then sub < 6 && (v || g || k)
    else if o = 0x17 then sub < 2 && (v || g || k)
    else if o = 0x18 then (sub < 2 && (g || k)) || (sub = 2 && v)
    else if o = 0x19 then sub < 8 && v
    else if o = 0x20 then sub < 11 && (v || f) && ew ≠ 8
    else if o = 0x21 then sub < 2 && (v || f) && ew ≠ 8
    else if o = 0x22 then sub < 3 && (v || f) && ew ≠ 8
    else if o = 0x23 then sub < 4 && v && ew ≠ 8
    else if o = 0x24 then (v || f) && !oddD && ((sub = 0 && (ew = 16 || ew = 32)) || (sub = 1 && ew = 16))
    else if o = 0x25 then sub = 0 && v && !odd2 && (ew = 16 || ew = 32)
    else if o = 0x26 then sub < 4 && v && ew ≠ 8
    else if o = 0x30 then sub < 8
    else if o = 0x31 then sub < 4 && field 14 5 x = 0
    else if o = 0x01 then field 11 0 x = 0
    else if o = 0x09 then field 25 0 x = 0
    else if o = 0x0A || o = 0x0B then field 8 0 x = 0
    else if o = 0x0C then field 19 14 x = 0 && field 8 0 x = 0
    else false)

/-- Registers that a V-slot word names: g registers, and its destinations (03 R81, R113). -/
def vNamesOf (w : BitVec 32) : List (Fin 64) × List Dest :=
  let o := vOpc w
  let x := w.toNat
  let vd := Dest.v (vVd w)
  let gAt (hi lo : Nat) : Fin 64 := ⟨field hi lo x % 64, by omega⟩
  if o = 0x01 then ([vGd w, gAt 19 14], [.g (vGd w)])
  else if o = 0x0A then ([vGd w, gAt 19 14], [.g (vGd w)])
  else if o = 0x0B then ([gAt 20 15, gAt 14 9], [vd])
  else if o = 0x0C then ([vGd w], [.g (vGd w)])
  else if o = 0x09 then ([], [])
  else if o = 0x31 then
    (if vSub w = 0 || vSub w = 2 then ([vGd w], [.g (vGd w)]) else ([vGd w], [.v ⟨field 19 15 x % 32, by omega⟩]))
  else if vIsMem w then
    ((if o = 3 || o = 7 then [vStrideG w] else []),
     (if bitAt 17 x then [.a (vA w)] else []) ++ (if o ≤ 5 then [vd] else []))
  else ((if 0x10 ≤ o && o ≤ 0x26 && field 9 8 x = 1 then [⟨(vSrc1 w).val, by omega⟩] else []), [vd])

/-- The scalar operand of the arithmetic forms :g, :f and :k (04 R136). -/
def vScalar (t : Tile) (w : BitVec 32) : Word :=
  let form := field 9 8 w.toNat
  if form = 1 then gVal t ⟨(vSrc1 w).val, by omega⟩
  else if form = 2 then (t.v[vSrc1 w]).setWidth 64
  else if form = 3 then BitVec.ofInt 64 (signedOf 5 (vSrc1 w).val)
  else 0

/-- A scalar floating-point result: bits [63:0] of lane 0 at L, zeros in the rest of lane 0, and zeros in lane k at L + k (04 R126, R153). -/
def landF (t : Tile) (now l : Nat) (fd : Fin 32) (v : Nat) : Tile :=
  (List.range 8).foldl (fun t k => landAt t (now + l + k) now (.vLane fd (laneMask k) (if k = 0 then BitVec.ofNat 2048 (v % 2 ^ 64) else 0))) t

/-- The scalar floating-point arithmetic (04 R138, R164): fmt64 picks binary64. -/
def scalarFp (frm sub : Nat) (fmt64 : Bool) (x y z : Nat) : FRes :=
  let f := if fmt64 then binary64 else binary32
  let c (v : Nat) := v % 2 ^ (if fmt64 then 64 else 32)
  match sub with
  | 0 => fAdd f frm (c x) (c y)
  | 1 => fSub f frm (c x) (c y)
  | 2 => fMul f frm (c x) (c y)
  | 3 => fFma f frm (c x) (c y) (c z)
  | 4 => fMin f (c x) (c y)
  | 5 => fMax f (c x) (c y)
  | 6 => fDiv f frm (c x) (c y)
  | _ => fSqrt f frm (c x)

/-- VEW with EW replaced (04 R133). -/
def vewWithEw (old : BitVec 32) (ew : Nat) : BitVec 32 :=
  (old &&& ~~~3#32) ||| BitVec.ofNat 32 (if ew = 8 then 0 else if ew = 16 then 1 else if ew = 32 then 2 else 3)

/-- What a V-slot word that is not a memory operation does at issue (04 R133, R152, R153, R162). -/
def vArithAct (s : State) (p : PTile) (w : BitVec 32) : State :=
  let t := tile s p
  let now := s.cycle
  let o := vOpc w
  let x := w.toNat
  let sub := vSub w
  let l := vLatency o sub (ewOf t)
  let gAt (hi lo : Nat) : Word := gVal t ⟨field hi lo x % 64, by omega⟩
  if o = 0x01 then
    let ew := 8 * 2 ^ field 13 12 x
    let vl := min (gAt 19 14).toNat (vlMax ew)
    modTile s p fun t => landVG (land t now 1 (.setVl vl ew)) now 2 (vGd w) (BitVec.ofNat 64 vl)
  else if o = 0x09 then modTile s p fun t => modBank t fun b => { b with hold := .vsettle }
  else if o = 0x0C then
    let v : Word := BitVec.ofInt 64 (signedOf (ewOf t) (vElemAt (ewOf t) 0 t.v[vVs2Low w]))
    modTile s p fun t => landVG t now 2 (vGd w) v
  else if o = 0x30 then
    let fs (hi lo : Nat) : Nat := (t.v[(⟨field hi lo x % 32, by omega⟩ : Fin 32)]).toNat % 2 ^ 64
    let r := scalarFp (frmOf t) sub (bitAt 5 x) (fs 20 16) (fs 15 11) (fs 10 6)
    modTile s p fun t => landVew (landF t now l (vVd w) r.1) (now + l) now r.2
  else if o = 0x31 then
    let fr : Fin 32 := ⟨field 19 15 x % 32, by omega⟩
    let fv := (t.v[fr]).toNat % 2 ^ 64
    if sub = 0 then modTile s p fun t => landVG t now l (vGd w) (BitVec.ofNat 64 fv)
    else if sub = 1 then modTile s p fun t => landF t now l fr (gVal t (vGd w)).toNat
    else if sub = 2 then
      let lim := intLimits true 64
      let r := fToInt binary64 (frmOf t) lim.1 lim.2 fv
      modTile s p fun t => landVew (landVG t now l (vGd w) (BitVec.ofInt 64 r.1)) (now + l) now r.2
    else
      let r := fOfInt binary64 (frmOf t) (gVal t (vGd w)).toInt
      modTile s p fun t => landVew (landF t now l fr r.1) (now + l) now r.2
  else if o = 0x0B then
    let i := (gAt 14 9).toNat
    let ew := ewOf t
    modTile s p fun t => if i < vlMax ew then landAt t (now + l) now (.vLane (vVd w) (vElemMask ew i) (vElemPut ew i (gAt 20 15).toNat)) else t
  else if t.vl = 0 && o ≠ 0x0A then s
  else
    let op : VOp := { word := w, vl := t.vl, ew := ewOf t, frm := frmOf t, mask := (t.v[0]).setWidth 256,
                      scalar := if o = 0x0A then gAt 19 14 else vScalar t w, dst := gPhys t (vGd w) }
    vExecLane s p now op 0

/-- The operation of a V-slot word whose first element is start: 0, or VRESUME.START at a reissue (04 R136 to R139, R159). -/
def opVFrom (p : PTile) (w : BitVec 32) (start : State → Nat) : TileOp :=
  { names := (vNamesOf w).1
    dests := (vNamesOf w).2
    barC0 := true
    illegal := fun t => if vIsMem w then vMemIllegal w else vArithIllegal (ewOf t) w
    conflict := fun s =>
      let t := tile s p
      vIsMem w && (vPortCycles t w (start s)).any fun c => if bitAt 16 w.toNat then t.portV.contains (s.cycle + c) else t.port0.contains (s.cycle + c)
    vfault := fun s => if vIsMem w then (vFaultOf (tile s p) w (start s)).map fun f => (w, f) else none
    act := fun s =>
      let t := tile s p
      let bad := if vIsMem w then vMemBad t w else (vLane0Reads w).any (laneBad t 0)
      let s := if vIsMem w then modTile s p fun t => vMemAct t s.cycle w (start s) else vArithAct s p w
      if bad then stepFault s p cVlaneParity 0 else s }

/-- The operation of a V-slot word; opcode 0 is the no-operation (03 R77). -/
def opV (p : PTile) (w : BitVec 32) : TileOp :=
  if vOpc w = 0 then { illegal := fun _ => w.toNat ≠ 0, act := id } else opVFrom p w fun _ => 0

/-- The word of an arithmetic form (04 R136). -/
def vArithWord (opc sub : Nat) (vd src1 vs2 : Fin 32) (masked : Bool) (form : Fin 4) : BitVec 32 :=
  BitVec.ofNat 32 (opc * 2 ^ 26 + vd.val * 2 ^ 21 + src1.val * 2 ^ 16 + vs2.val * 2 ^ 11 + (if masked then 1024 else 0) + form.val * 256 + sub)

/-- The word of a memory form; low holds bits [13:0] (04 R137). -/
def vMemWord (opc : Nat) (v : Fin 32) (a : Fin 8) (upd vob masked : Bool) (low : Nat) : BitVec 32 :=
  BitVec.ofNat 32 (opc * 2 ^ 26 + v.val * 2 ^ 21 + a.val * 2 ^ 18 + (if upd then 2 ^ 17 else 0) + (if vob then 2 ^ 16 else 0) + (if masked then 2 ^ 15 else 0) + low)

/-- The word of a scalar floating-point operation (04 R138). -/
def vFpWord (sub : Nat) (fd fs1 fs2 fs3 : Fin 32) (fmt64 : Bool) : BitVec 32 :=
  BitVec.ofNat 32 (0x30 * 2 ^ 26 + fd.val * 2 ^ 21 + fs1.val * 2 ^ 16 + fs2.val * 2 ^ 11 + fs3.val * 64 + (if fmt64 then 32 else 0) + sub)

/-- The word of fget, fput, fcvt.gf and fcvt.fg (04 R138). -/
def vMoveWord (sub : Nat) (g : Fin 64) (f : Fin 32) : BitVec 32 :=
  BitVec.ofNat 32 (0x31 * 2 ^ 26 + g.val * 2 ^ 20 + f.val * 2 ^ 15 + sub)

end Sys2Proof.Machine
end

