-- ==== Sys2Proof/Machine/CtrlUnit.lean ====
section
/-! DEFINITION. The vector unit of the system controller (04 R155): VLEN 256, one lane, controller memory only. Firmware gives it V-slot words; no row of the table does (notes/assumptions/46.md). -/

namespace Sys2Proof.Machine

open Sys2Proof

/-- VLEN of the unit (04 R155). -/
def unitVlen : Nat := 256

/-- Size of controller memory (08 R248). -/
def unitMemSize : Nat := 0x200000

/-- The unit as a tile's engine would hold it: lane 0 of each register, without register rotation (04 R155). -/
def unitTile (u : CtrlUnit) : Tile :=
  { v := u.v.map (·.setWidth 2048), vl := u.vl, vew := u.vew, core := u.mem, job := { g := u.g, a := u.a, cb := u.cb } }

/-- The latency of an operation of the unit: a tile's figure without its lane skew (04 R155, R164). -/
def unitLatency (opc sub ew : Nat) : Nat :=
  if vCross opc || opc = 0x0A || opc = 0x0B then vLatency opc sub ew - 7 else vLatency opc sub ew

/-- A result put in flight on the unit. -/
def unitLand (u : CtrlUnit) (due issue : Nat) (act : Act) : CtrlUnit :=
  { u with sched := u.sched ++ [{ due := due, issue := issue, act := act }] }

/-- A result for a g register of the unit; g0 is never written. -/
def unitLandG (u : CtrlUnit) (due issue : Nat) (r : Fin 64) (v : Word) : CtrlUnit :=
  if r.val = 0 then u else unitLand u due issue (.gReg false r v)

/-- The cycles, counted from issue, in which a memory operation holds the unit's one access: 256 bits for a unit-stride form, one element otherwise (04 R148, R155). -/
def unitPort (t : Tile) (w : BitVec 32) : List Nat :=
  let m := vMemOf t w
  if m.vl = 0 then [] else (List.range (if m.unit then 1 else m.vl)).map ((if m.store then 8 else 1) + ·)

/-- Words that take no effect on the unit: those of 04 R139, structure loads (R151), the operand buffer, which the unit does not reach, a port that an earlier operation holds (R149), and an address outside controller memory or misaligned. -/
def unitRefuses (u : CtrlUnit) (now : Nat) (w : BitVec 32) : Bool :=
  let t := unitTile u
  if vOpc w = 0 then w.toNat ≠ 0
  else if vIsMem w then
    let m := vMemOf t w
    vOpc w = 5 || vMemIllegal w || bitAt 16 w.toNat || ((unitPort t w).any fun c => u.port.contains (now + c))
      || ((List.range m.vl).any fun i => m.on i && (let ea := vEa t (vA w) (m.off i 0); unitMemSize < ea + ewBytes m.ew || ea % ewBytes m.ew ≠ 0))
  else vArithIllegal (ewOf t) w

/-- A memory operation of the unit. A load reads its elements in their port cycle and lands whole; a store's data are read at issue (04 R147, R148, R155). -/
def unitMem (u : CtrlUnit) (now : Nat) (w : BitVec 32) : CtrlUnit :=
  let t := unitTile u
  let m := vMemOf t w
  let es := ((List.range m.vl).filter m.on).map fun i => (if m.unit then 0 else i, i, vEa t (vA w) (m.off i 0))
  let u := { u with port := u.port ++ (unitPort t w).map (now + ·) }
  let u := es.foldl (fun u e =>
    if m.store then unitLand u (now + 8 + e.1) now (.vWriteMem false ((leBytes (ewBytes m.ew) (vElemAt m.ew e.2.1 t.v[vVd w])).zipIdx.map fun b => (e.2.2 + b.2, b.1)))
    else unitLand u (now + 1 + e.1) now (.vReadMem false m.ew [((vVd w).val, e.2.1, e.2.2)] (if m.unit then now + 7 else now + m.vl + 6) false)) u
  if m.vl = 0 || !bitAt 17 w.toNat then u
  else
    let an := (aVal t (vA w)).toNat
    let cb := u.cb[vA w].toNat
    let len := field 53 32 cb
    let base := field 20 0 cb
    let step : Int := m.stride * m.vl
    unitLand u (now + 1) now (.aReg false (vA w) (if len = 0 then BitVec.ofInt 32 ((an : Int) + step) else BitVec.ofNat 32 (base + (((an : Int) - base + step) % len).toNat)))

/-- An operation of the unit that is no memory operation: what a tile's engine computes for the same VL, EW and inputs, its whole result at t + L (04 R155). -/
def unitArith (u : CtrlUnit) (now : Nat) (w : BitVec 32) : CtrlUnit :=
  let t := unitTile u
  let o := vOpc w
  let x := w.toNat
  let sub := vSub w
  let ew := ewOf t
  let due := now + unitLatency o sub ew
  let gAt (hi lo : Nat) : Word := gVal t ⟨field hi lo x % 64, by omega⟩
  let fAt (hi lo : Nat) : Nat := (t.v[(⟨field hi lo x % 32, by omega⟩ : Fin 32)]).toNat % 2 ^ 64
  let sx (e : Nat) : Word := BitVec.ofInt 64 (signedOf ew e)
  let flags (u : CtrlUnit) (b : BitVec 32) : CtrlUnit := if b = 0 then u else unitLand u due now (.vewSticky b)
  let whole (u : CtrlUnit) (r : Fin 32) (v : Nat) : CtrlUnit := unitLand u due now (.vLane r (laneMask 0) (BitVec.ofNat 2048 (v % 2 ^ 64)))
  let lanes (u : CtrlUnit) (r : Fin 32) (m b : BitVec 2048) : CtrlUnit := if m = 0 then u else unitLand u due now (.vLane r m b)
  if o = 0 || o = 0x09 then u
  else if o = 0x01 then
    let ew := 8 * 2 ^ field 13 12 x
    let vl := min (gAt 19 14).toNat (unitVlen / ew)
    unitLandG (unitLand u (now + 1) now (.setVl vl ew)) (now + 2) now (vGd w) (BitVec.ofNat 64 vl)
  else if o = 0x0C then unitLandG u due now (vGd w) (sx (vElemAt ew 0 t.v[vVs2Low w]))
  else if o = 0x0A then
    let i := (gAt 19 14).toNat
    unitLandG u due now (vGd w) (if i < unitVlen / ew then sx (vElemAt ew i t.v[vVs2Low w]) else 0)
  else if o = 0x0B then
    let i := (gAt 14 9).toNat
    if i < unitVlen / ew then lanes u (vVd w) (vElemMask ew i) (vElemPut ew i (gAt 20 15).toNat) else u
  else if o = 0x30 then
    let r := scalarFp (frmOf t) sub (bitAt 5 x) (fAt 20 16) (fAt 15 11) (fAt 10 6)
    flags (whole u (vVd w) r.1) r.2
  else if o = 0x31 then
    let fr : Fin 32 := ⟨field 19 15 x % 32, by omega⟩
    if sub = 0 then unitLandG u due now (vGd w) (BitVec.ofNat 64 (fAt 19 15))
    else if sub = 1 then whole u fr (gVal t (vGd w)).toNat
    else if sub = 2 then
      let lim := intLimits true 64
      let r := fToInt binary64 (frmOf t) lim.1 lim.2 (fAt 19 15)
      flags (unitLandG u due now (vGd w) (BitVec.ofInt 64 r.1)) r.2
    else
      let r := fOfInt binary64 (frmOf t) (gVal t (vGd w)).toInt
      flags (whole u fr r.1) r.2
  else if t.vl = 0 then u
  else
    let op : VOp := { word := w, vl := t.vl, vlen := unitVlen, ew := ew, frm := frmOf t, mask := (t.v[0]).setWidth 256, scalar := vScalar t w, src2 := t.v[vVs2 w], src1 := t.v[vSrc1 w] }
    if vCross o then
      let r := vCrossBits op t.v[vVd w]
      flags (lanes u (vVd w) r.1 r.2.1) r.2.2
    else
      let r := vLaneBits op t 0
      flags (lanes (lanes u (vVd w) r.1.1 r.1.2) (vNext (vVd w)) r.2.1.1 r.2.1.2) r.2.2

/-- The front word issues; vsettle waits until every earlier result has landed (04 R155, R162). -/
def unitIssue (u : CtrlUnit) (now : Nat) : CtrlUnit :=
  match u.words with
  | [] => u
  | w :: r =>
    if vOpc w = 0x09 && !u.sched.isEmpty then u
    else
      let u := { u with words := r }
      if unitRefuses u now w then { u with refused := u.refused + 1 }
      else if vIsMem w then unitMem u now w else unitArith u now w

/-- A result of the unit lands. A load element from an ECC word that no longer corrects is a free value (08 R248; notes/assumptions/46.md). -/
def unitAct (u : CtrlUnit) (e : Sched) : CtrlUnit :=
  match e.act with
  | .gReg _ r v => { u with g := u.g.set r v }
  | .aReg _ r v => { u with a := u.a.set r v }
  | .setVl vl ew => { u with vl := vl, vew := vewWithEw u.vew ew }
  | .vLane r m b => { u with v := u.v.set r ((vMerge (u.v[r].setWidth 2048) m b).setWidth 256) }
  | .vewSticky b => { u with vew := u.vew ||| b }
  | .vReadMem _ ew es due _ => es.foldl (fun u x =>
      let v := match badByte u.bad x.2.2 (ewBytes ew) with
        | none => leNat (memRead u.mem x.2.2 (ewBytes ew))
        | some b => Config.ctrlUncorrected b e.issue
      unitLand u due e.issue (.vLane ⟨x.1 % 32, by omega⟩ (vElemMask ew x.2.1) (vElemPut ew x.2.1 v))) u
  | .vWriteMem _ bytes =>
      { u with mem := bytes.foldl (fun m b => memPut m b.1 b.2) u.mem, bad := u.bad.filter fun a => !bytes.any fun b => b.1 = a }
  | _ => u

/-- A tile cycle on the unit: reads and results due take effect in the order of their issue, writes last, and the front word issues (04 R150, R154, R155). -/
def unitTick (u : CtrlUnit) (now : Nat) : CtrlUnit :=
  let isStore (e : Sched) : Bool := match e.act with | .vWriteMem _ _ => true | _ => false
  let due := u.sched.filter fun e => e.due ≤ now
  let u := { u with sched := u.sched.filter (fun e => now < e.due), port := u.port.filter (now < ·) }
  let u := (byIssue (due.filter fun e => !isStore e)).foldl unitAct u
  (due.filter isStore).foldl unitAct (unitIssue u now)

end Sys2Proof.Machine
end

