-- ==== Sys2Proof/Machine/Array.lean ====
section
/-! DEFINITION. The Sward array of a tile: descriptors, loads, entries, accumulators, drains, range monitors and crop-and-resize (05, 06, 07). -/

namespace Sys2Proof.Machine

open Sys2Proof

/-- What the schedule of 05 R182 carries from one descriptor to the next. -/
structure ArrCarry where
  /-- first cycle of the last span so far -/
  lastSpan : Nat
  /-- prev_end -/
  prevEnd : Nat
  /-- d_end -/
  dEnd : Nat
  /-- set_ready of set 0 -/
  ready0 : Nat
  /-- set_ready of set 1 -/
  ready1 : Nat
  /-- the schedule of a crop-and-resize descriptor whose list is not read yet is not known -/
  known : Bool
  deriving DecidableEq, Repr

/-- The boxes of a read list that produce output (07 R236, R241). -/
def liveBoxes (r : ArrRun) : List (List Byte) := r.boxes.filter fun e => !bitAt 0 (leAt e 12 1)

/-- First cycle of a descriptor's load or box-list read: l0 of 05 R182, b0 of 07 R237. -/
def arrL0 (c : ArrCarry) (r : ArrRun) : Nat := max (r.t0 + 5) c.lastSpan

/-- set_ready of the descriptor's set (05 R182). -/
def arrReady (c : ArrCarry) (r : ArrRun) : Nat := if dAccSet r.desc = 0 then c.ready0 else c.ready1

/-- s0 of 05 R182, or k0 of 07 R241. -/
def arrS0 (c : ArrCarry) (r : ArrRun) : Nat :=
  if dKind r.desc = 0 then max (arrL0 c r + dLw r.desc) (max c.prevEnd (arrReady c r))
  else max (arrL0 c r + ceilDiv (dBoxes r.desc) 16) (max c.prevEnd c.dEnd)

/-- u of 05 R182: the cycle in which the last accumulator update lands. -/
def arrU (c : ArrCarry) (r : ArrRun) : Nat := arrS0 c r + (dNSpans r.desc - 1) * dSpan r.desc + dE r.desc - 1 + 14

/-- The carry after a descriptor; an empty one is passed over (05 R182). A crop-and-resize descriptor whose boxes all have SKIP runs none and has no last box: the next load begins after its list is read, and its other terms pass over it (DESIGN CHOICE, notes/assumptions/51.md). -/
def arrNext (c : ArrCarry) (r : ArrRun) : ArrCarry :=
  let d := r.desc
  if dEmpty d then c
  else if dKind d = 1 && r.boxesRead && (liveBoxes r).isEmpty then { c with lastSpan := arrL0 c r + ceilDiv (dBoxes d) 16 }
  else if dKind d = 0 then
    let s0 := arrS0 c r
    let q := if dDrain d then arrU c r + dNd d else 0
    let ready := q - 13
    { c with
      lastSpan := s0 + (dNSpans d - 1) * dSpan d
      prevEnd := s0 + dNSpans d * dSpan d
      dEnd := if dDrain d then max c.dEnd (q + 1) else c.dEnd
      ready0 := if dAccSet d = 0 then ready else c.ready0
      ready1 := if dAccSet d = 1 then ready else c.ready1 }
  else
    let n := (liveBoxes r).length
    { c with lastSpan := arrS0 c r + (n - 1) * dBoxLen d, prevEnd := arrS0 c r + n * dBoxLen d, known := c.known && r.boxesRead }

/-- The carry of the descriptors already complete. -/
def arrCarry (u : ArrayUnit) : ArrCarry :=
  { lastSpan := u.lastSpanStart, prevEnd := u.prevEnd, dEnd := u.dEnd, ready0 := u.setReady[0], ready1 := u.setReady[1], known := true }

/-- The descriptors held with the carry each one meets. -/
def arrWithCarry : ArrCarry → List ArrRun → List (ArrCarry × ArrRun)
  | _, [] => []
  | c, r :: rs => (c, r) :: arrWithCarry (arrNext c r) rs

/-- The held descriptors and their carries. -/
def arrPlan (u : ArrayUnit) : List (ArrCarry × ArrRun) := arrWithCarry (arrCarry u) u.descs

/-- Whether a descriptor is pending in a cycle: from its arr.start until its last span or last box begins; an empty one until t0 + 5 (05 R177, R198; 07 R241). -/
def arrPending (now : Nat) (x : ArrCarry × ArrRun) : Bool :=
  let c := x.1
  let r := x.2
  if r.done then false
  else if !r.valid then true
  else if dEmpty r.desc then now < r.t0 + 5
  else if dKind r.desc = 0 then r.spans < dNSpans r.desc
  else !c.known || !r.boxesRead || now < arrS0 c r + ((liveBoxes r).length - 1) * dBoxLen r.desc

/-- Number of pending descriptors (05 R177). -/
def arrPendings (t : Tile) (now : Nat) : Nat := ((arrPlan t.arr).filter (arrPending now)).length

/-- Sums of a descriptor that must land. -/
def arrEntries (d : BitVec 1024) : Nat := dNSpans d * (dS d * dMCount d)

/-- A descriptor whose sums have all landed and that has drain reads left. -/
def arrDraining (r : ArrRun) : Bool :=
  r.valid && !r.done && dKind r.desc = 0 && !dEmpty r.desc && dDrain r.desc && arrEntries r.desc ≤ r.landed && r.drained < dNd r.desc

/-- A held descriptor changed, named by its arr.start cycle. -/
def modRun (t : Tile) (t0 : Nat) (f : ArrRun → ArrRun) : Tile :=
  { t with arr := { t.arr with descs := t.arr.descs.map fun r => if r.t0 = t0 then f r else r } }

/-- The first bad byte of a read of an operand buffer. -/
def bufBad (t : Tile) (sp : Space) (a n : Nat) : Option Nat :=
  badByte (match sp with | .weight => t.wbufBad | .act => t.abufBad | .vob => t.vobBad | .core => t.coreBad) a n

/-- The global address of a byte of a tile's memory: the window of its logical id (08 R250, R251). -/
def spaceGlobal (t : Tile) (sp : Space) (a : Nat) : Nat :=
  coreGlobal t (match sp with | .core => a | .weight => 0x200000 + a | .act => 0x240000 + a | .vob => 0x280000 + a)

/-- Bytes of the grid that the first load cycle of a descriptor reads: none with GRID = 0 or for a later block (06 R200, R201). -/
def gridLoad (d : BitVec 1024) (block k : Nat) : Nat := if block = 0 && k = 0 && bitAt 53 d.toNat then (if dWFmt d = 3 then 16 else 8) else 0

/-- The bytes of a scale block that a load cycle reads: first byte and number. The 256-byte half of the port that carries it carries the grid first, in the cycle l0 (05 R174, 06 R201). -/
def scalePart (d : BitVec 1024) (block k : Nat) : Nat × Nat :=
  let g := gridLoad d block 0
  let lo := 256 * k - (if k = 0 then 0 else g)
  (lo, min (256 - gridLoad d block k) (dScaleBytes d - lo))

/-- The first bad byte of a part of a scale block; the array does not read bytes 1 to 15 of its header (06 R203, R204). -/
def scaleBadByte (t : Tile) (base lo n : Nat) : Option Nat :=
  badByte (t.wbufBad.filter fun b => !(base + 1 ≤ b && b < base + 16)) (base + lo) n

/-- The check of a scale block once its last byte is read: BSEQ, then every d in entry order (06 R204). -/
def scaleCheck (d : BitVec 1024) (block : Nat) (scale : List Byte) : Nat × Nat :=
  let base := dSAddr d + block * dScaleBytes d
  if leAt scale 0 1 != (dField d 327 320 + block) % 256 then (cScaleSkew, base)
  else match (List.range (256 * (128 / dGroup d))).find? fun i => 23 < leAt scale (17 + 2 * i) 1 with
    | some i => (cScaleRange, base + 17 + 2 * i)
    | none => (0, 0)

/-- One load cycle of a descriptor: 256 bytes of its weight block, and in the other half of the port the grid and its scale block (05 R174, R181, R184; 06 R201, R204). The answer's second part is the fault met: OPBUF_PARITY, SCALE_SKEW or SCALE_RANGE, with its address. A block's sequence number and shifts are judged in the cycle that reads its last byte, since the parity of every word goes first (DEDUCED, notes/assumptions/51.md). -/
def loadCycle (t : Tile) (r : ArrRun) (block k : Nat) : ArrRun × Nat × Nat :=
  let d := r.desc
  let wa := dWAddr d + block * dBlockBytes d + 256 * k
  let base := dSAddr d + block * dScaleBytes d
  let part := scalePart d block k
  let ga := dGridAddr d
  let gn := gridLoad d block k
  let old := if k = 0 then { r with load := [], loadScale := [] } else r
  let r' := { old with
    load := old.load ++ memRead t.wbuf wa 256
    loadScale := old.loadScale ++ memRead t.wbuf (base + part.1) part.2
    grid := if gn = 0 then old.grid else memRead t.wbuf ga gn }
  let fault :=
    match bufBad t .weight wa 256, scaleBadByte t base part.1 part.2, bufBad t .weight ga gn with
    | some b, _, _ | none, some b, _ | none, none, some b => (cOpbufParity, spaceGlobal t .weight b)
    | none, none, none =>
      if 0 < part.2 && part.1 + part.2 = dScaleBytes d then
        let e := scaleCheck d block r'.loadScale
        (e.1, if e.1 = 0 then 0 else spaceGlobal t .weight e.2)
      else (0, 0)
  (r', fault)

/-- The weight block that loads in a cycle, with the load cycle within it: block 0 from l0, block j + 1 from the first cycle of span j (05 R182, R184). -/
def loadAt (c : ArrCarry) (r : ArrRun) (now : Nat) : Option (Nat × Nat) :=
  let lw := dLw r.desc
  if r.spans = 0 then (if arrL0 c r ≤ now && now < arrL0 c r + lw then some (0, now - arrL0 c r) else none)
  else if r.spans < dNSpans r.desc && r.spanAt ≤ now && now < r.spanAt + lw then some (r.spans, now - r.spanAt)
  else none

/-- A span or a weight load of a descriptor is in progress; the boxes of a crop-and-resize descriptor count as its spans, its list read as no weight load (05 R192, 07 R241; DEDUCED, notes/assumptions/51.md). -/
def arrActive (now : Nat) (x : ArrCarry × ArrRun) : Bool :=
  let r := x.2
  r.valid && !r.done && !dEmpty r.desc && x.1.known &&
    (if dKind r.desc = 0 then (loadAt x.1 r now).isSome || (0 < r.spans && r.spanAt ≤ now && now < r.spanAt + dSpan r.desc)
     else r.boxesRead && arrS0 x.1 r ≤ now && now < arrS0 x.1 r + (liveBoxes r).length * dBoxLen r.desc)

/-- The drain of a descriptor's set is at work: from its first read, in u + 1, to its last write, in u + nd + 10 (05 R183, R192; DEDUCED, notes/assumptions/51.md). -/
def arrDrainBusy (now : Nat) (r : ArrRun) : Bool :=
  r.valid && !r.done && dKind r.desc = 0 && !dEmpty r.desc && dDrain r.desc && arrEntries r.desc ≤ r.landed
    && r.lastLand < now && now ≤ r.lastLand + dNd r.desc + 10

/-- ARR_STATE (05 R192). -/
def arrStateWord (t : Tile) (now : Nat) : BitVec 64 :=
  let active := (arrPlan t.arr).any (arrActive now)
  let dr (n : Fin 2) := t.arr.descs.any fun r => arrDrainBusy now r && dAccSet r.desc == n
  BitVec.ofNat 64 ((if active then 1 else 0) + (if dr 0 then 2 else 0) + (if dr 1 then 4 else 0) + 8 * arrPendings t now)

/-- The activations of one entry as rows 0 to 127 take them, and the first bad byte read (05 R169, R180; 07 R227 to R231). -/
def entryActs (t : Tile) (d : BitVec 1024) (span slice m : Nat) : List (Option Int) × Option Nat :=
  let tap := spanTap d span
  let row (r : Nat) : Option Int × Option Nat :=
    if dKTotal d ≤ 128 * tap.1 + r then (some 0, none)
    else match winSample d tap.1 tap.2.1 tap.2.2 m with
      | .inr bs => (actInt (dAFmt d) slice bs, none)
      | .inl o =>
        let a := 2048 * r + o
        (actInt (dAFmt d) slice [memGet t.abuf a, memGet t.abuf (a + 1)], bufBad t .act (a + slice) 1)
  let rows := (List.range 128).map row
  (rows.map (·.1), rows.findSome? (·.2))

/-- The residue of a term modulo 3 (15 R477). -/
def sumResidue (x : Int) : Nat := (x % 3).toNat

/-- An entry uses a cell weight register of bad parity, or a table entry of bad parity that a code of its row selects (05 R194, 06 R202). -/
def cellsBad (t : Tile) (d : BitVec 1024) : Bool :=
  !t.arr.weightBad.isEmpty ||
    (dCode d && t.arr.tableBad.any fun x =>
      let row := (t.arr.weights.drop (x / 16 * dRowBytes d)).take (dRowBytes d)
      (List.range 256).any fun j => rowCode d row j = x % 16)

/-- One entry cycle: in the first cycle of an entry its activations are read, and its column sums are due 14 cycles after its last cycle (05 R182, R194). -/
def entryCycle (t : Tile) (r : ArrRun) (now : Nat) : ArrRun × Nat × Nat :=
  let d := r.desc
  let x := now - r.spanAt
  if r.spans = 0 || now < r.spanAt || dE d ≤ x || x % dC d != 0 then (r, 0, 0)
  else
    let i := x / dC d
    let slice := i / dMCount d
    let m := i % dMCount d
    let a := entryActs t d (r.spans - 1) slice m
    let terms := entryTerms d t.arr.grid t.arr.scales t.arr.weights slice a.1
    let sum : EntrySum := { due := now + dC d - 1 + 14, m := m, first := bitAt 43 d.toNat && r.spans = 1 && slice = 0, terms := terms, res := terms.map (sumResidue ·.1) }
    let r' := { r with sums := r.sums ++ [sum] }
    match a.2 with
    | some b => (r', cOpbufParity, spaceGlobal t .act b)
    | none => (r', if cellsBad t d then cArrayParity else 0, 0)

/-- The output index, box and neighbour byte that a crop-and-resize descriptor reads in a cycle (07 R241). -/
def cropAt (c : ArrCarry) (r : ArrRun) (now : Nat) : Option (Nat × Nat × Nat) :=
  let d := r.desc
  let k0 := arrS0 c r
  let len := dBoxLen d
  if !r.boxesRead || !c.known || now < k0 || (liveBoxes r).length * len ≤ now - k0 then none
  else
    let x := now - k0
    some (x / len, x % len / dC1 d, x % len % dC1 d)

/-- Source coordinates and fractions of output (u, v) of a box (07 R238). -/
def boxSample (d : BitVec 1024) (e : List Byte) (u v : Nat) : Int × Int × Nat × Nat :=
  let sx := cropCoord (leAt e 0 2) (leAt e 4 2) u (dOW d)
  let sy := cropCoord (leAt e 2 2) (leAt e 6 2) v (dOH d)
  (sx / 256, sy / 256, (sx % 256).toNat, (sy % 256).toNat)

/-- One read cycle of crop-and-resize: one byte of one neighbour from every bank (07 R234, R239, R241). -/
def cropCycle (t : Tile) (c : ArrCarry) (r : ArrRun) (now : Nat) : ArrRun × Nat × Nat :=
  match cropAt c r now with
  | none => (r, 0, 0)
  | some (box, out, byte) =>
    let d := r.desc
    let e := (liveBoxes r).getD box []
    let per := dOW d * dOH d
    let cb := out / per
    let m := out % per
    let s := boxSample d e (m % dOW d) (m / dOW d)
    let nb := byte / dASize d
    let half := byte % dASize d
    let src := cropSample d cb (leAt e 8 2) (s.1 + (nb % 2 : Nat)) (s.2.1 + (nb / 2 : Nat))
    let row (i : Nat) : Byte × Option Nat :=
      match src with
      | .inr bs => (bs.getD half 0, none)
      | .inl o => (memGet t.abuf (2048 * i + o + half), bufBad t .act (2048 * i + o + half) 1)
    let rows := (List.range (min 128 (dKTotal d - 128 * cb))).map row
    let bytes := rows.map (·.1)
    let r' :=
      if byte = 0 then
        { r with crops := r.crops ++ [{ due := now + dC1 d - 1 + 10, box := box, cb := cb, m := m, fx := s.2.2.1, fy := s.2.2.2, reads := [bytes] }] }
      else { r with crops := r.crops.dropLast ++ r.crops.getLast?.toList.map fun o => { o with reads := o.reads ++ [bytes] } }
    match rows.findSome? (·.2) with
    | some b => (r', cOpbufParity, spaceGlobal t .act b)
    | none => (r', 0, 0)

/-- What one descriptor reads in a tile cycle. -/
def runCycle (t : Tile) (now : Nat) (x : ArrCarry × ArrRun) : ArrRun × Nat × Nat :=
  let r := x.2
  if !r.valid || r.done || dEmpty r.desc || !x.1.known then (r, 0, 0)
  else if dKind r.desc = 0 then
    let e := entryCycle t r now
    match loadAt x.1 e.1 now with
    | none => e
    | some (b, k) =>
      let l := loadCycle t e.1 b k
      (l.1, if e.2.1 = 0 then l.2 else e.2)
  else cropCycle t x.1 r now

/-- The reads of the array in one tile cycle, before the cycle's writes take effect (05 R173, R184); the first fault found stops the job or re-runs the step (05 R194). -/
def arrayTick (s : State) (p : PTile) : State :=
  let t := tile s p
  if t.arr.descs.isEmpty then s else
  let rs := (arrPlan t.arr).map (runCycle t s.cycle)
  let s' := modTile s p fun t => { t with arr := { t.arr with descs := rs.map (·.1) } }
  match rs.find? fun r => r.2.1 != 0 with
  | none => s'
  | some r => if isStepCode r.2.1 then stepFault s' p r.2.1 r.2.2 else jobFault s' p r.2.1 r.2.2

/-- arr.start takes a descriptor, whose lanes 0 to 3 are read at t to t + 3 and which is validated by t + 4; with two pending it is ARRAY_OVERRUN (05 R176 to R178). -/
def arrStart (s : State) (p : PTile) (vs : Fin 32) : State :=
  let lanes := [1, 2, 3].map fun k => ({ due := s.cycle + k, issue := s.cycle, act := .arrLane vs k } : Sched)
  modTile s p fun t =>
    { t with
      arr := { t.arr with descs := t.arr.descs ++ [{ t0 := s.cycle, desc := (t.v[vs]).setWidth 256 |>.setWidth 1024 }] }
      sched := t.sched ++ lanes ++ [{ due := s.cycle + 4, issue := s.cycle, act := .arrCheck }] }

/-- A lane of a descriptor read (05 R176). -/
def arrLaneRead (t : Tile) (t0 : Nat) (vr : Fin 32) (k : Nat) : Tile :=
  modRun t t0 fun r => { r with desc := r.desc ||| BitVec.ofNat 1024 ((t.v[vr].toNat / 2 ^ (256 * k) % 2 ^ 256) * 2 ^ (256 * k)) }

/-- The validation of a descriptor: ARRAY_DESC_INVALID names the first failing field by its high bit (05 R178). -/
def arrValidate (s : State) (p : PTile) (t0 : Nat) : State :=
  match (tile s p).arr.descs.find? fun r => r.t0 = t0 with
  | none => s
  | some r =>
    match arrInvalid r.desc with
    | some f => jobFault s p cArrayDescInvalid f
    | none => modTile s p fun t => modRun t t0 fun r => { r with valid := true }

/-- The oldest span that is due: its descriptor with its carry (05 R182). -/
def spanDue (t : Tile) (now : Nat) : Option ArrRun :=
  ((arrPlan t.arr).find? fun x =>
    let r := x.2
    r.valid && !r.done && dKind r.desc = 0 && !dEmpty r.desc && x.1.known && r.spans < dNSpans r.desc
      && r.load.length = dBlockBytes r.desc && arrS0 x.1 r + r.spans * dSpan r.desc ≤ now
      && (r.spans = 0 || r.spanAt + dSpan r.desc ≤ now)).map (·.2)

/-- A span begins: the shadow weights, scales and, at a descriptor's first span, the grid become active in one tile cycle (05 R174, R182; 06 R201). -/
def spanStart (s : State) (p : PTile) : State :=
  match spanDue (tile s p) s.cycle with
  | none => s
  | some r => modTile s p fun t =>
    let t := { t with arr := { t.arr with weights := r.load, scales := r.loadScale, weightBad := [], grid := if r.spans = 0 then r.grid else t.arr.grid } }
    modRun t r.t0 fun r => { r with spans := r.spans + 1, spanAt := s.cycle, load := [], loadScale := [] }

/-- The key of accumulator (m, n) in its set (05 R170). -/
def accKey (m n : Nat) : Nat := 256 * m + n

/-- The accumulators of a set after the column sums of one entry: integer addition modulo 2^96, the invalid tag an OR; with ACC_CLEAR the first term replaces (05 R170, R179). -/
def landTerms (acc : SMap Accum) (m : Nat) (first : Bool) : Nat → List (Int × Bool) → SMap Accum
  | _, [] => acc
  | n, t :: ts =>
    let old := smGet {} acc (accKey m n)
    let val := BitVec.ofInt 96 t.1 + (if first then 0 else old.val)
    let new : Accum := { val := val, inv := t.2 || (!first && old.inv), bad := !first && old.bad, res := val.toNat % 3 }
    landTerms (if new = {} then smDel acc (accKey m n) else smPut acc (accKey m n) new) m first (n + 1) ts

/-- One landed entry: its accumulators take their terms; a parity error of one is ARRAY_PARITY (05 R182, R194). -/
def landEntry (t : Tile) (t0 : Nat) (set_ : Fin 2) (e : EntrySum) (now : Nat) : Tile :=
  let t := { t with arr := { t.arr with acc := t.arr.acc.set set_.val (landTerms t.arr.acc[set_] e.m e.first 0 e.terms) set_.isLt } }
  modRun t t0 fun r => { r with landed := r.landed + 1, lastLand := now }

/-- A sum reads an accumulator of bad parity: the first term of a cleared accumulator reads nothing. -/
def sumBad (t : Tile) (set_ : Fin 2) (e : EntrySum) : Bool :=
  !e.first && (List.range e.terms.length).any fun n => (smGet {} t.arr.acc[set_] (accKey e.m n)).bad

/-- A residue check of a sum fails: that of the adder tree of a column, or that of an accumulator it is added into (15 R477). -/
def sumResidueBad (t : Tile) (set_ : Fin 2) (e : EntrySum) : Bool :=
  e.res ≠ e.terms.map (sumResidue ·.1) ||
    (!e.first && (List.range e.terms.length).any fun n => let a := smGet {} t.arr.acc[set_] (accKey e.m n); a.res ≠ a.val.toNat % 3)

/-- Every column sum that is due lands in its accumulators; a residue mismatch raises ARITH_CHECK in that cycle (05 R182, 15 R477). -/
def accUpdate (s : State) (p : PTile) : State :=
  let t := tile s p
  let due := t.arr.descs.flatMap fun r => (r.sums.filter fun e => e.due ≤ s.cycle).map fun e => (r.t0, dAccSet r.desc, e)
  if due.any fun x => sumBad t x.2.1 x.2.2 then jobFault s p cArrayParity 0
  else
    let s := modTile s p fun t => due.foldl (fun t x => landEntry t x.1 x.2.1 x.2.2 x.2.2.due) t
    let s := modTile s p fun t => { t with arr := { t.arr with descs := t.arr.descs.map fun r => { r with sums := r.sums.filter fun e => !(e.due ≤ s.cycle) } } }
    if due.any fun x => sumResidueBad t x.2.1 x.2.2 then jobFault s p cArithCheck 0 else s

/-- The drain parameters of a channel, read from the vector operand buffer in this cycle (05 R184, R185). -/
def drainParams (t : Tile) (d : BitVec 1024) (m n : Nat) : Nat × Nat × Nat :=
  let rd (a : Nat) : Nat := leNat (memRead t.vob a 4)
  (rd (dField d 447 432 + 4 * n), if bitAt 34 d.toNat then rd (dField d 415 400 + 4 * m) else 0, if bitAt 35 d.toNat then rd (dField d 431 416 + 4 * n) else 0)

/-- The first bad byte among the drain parameters of a channel. -/
def paramsBad (t : Tile) (d : BitVec 1024) (m n : Nat) : Option Nat :=
  let b (a : Nat) := bufBad t .vob a 4
  ((b (dField d 447 432 + 4 * n)).orElse fun _ => if bitAt 34 d.toNat then b (dField d 415 400 + 4 * m) else none).orElse fun _ =>
    if bitAt 35 d.toNat then b (dField d 431 416 + 4 * n) else none

/-- A range monitor changed. -/
def modMon (t : Tile) (i : Fin 2) (f : RangeMon → RangeMon) : Tile :=
  { t with arr := { t.arr with mon := t.arr.mon.set i.val (f t.arr.mon[i]) i.isLt } }

/-- The monitor a descriptor names (06 R206). -/
def dMon (d : BitVec 1024) : Fin 2 := if bitAt 766 d.toNat then 1 else 0

/-- One drain position of a set is read: from u + 1 on, one a cycle, block by block and m ascending; CLR acts in the first read cycle, whatever EN is (05 R183, 06 R206, R211). -/
def drainRead (s : State) (p : PTile) (set_ : Fin 2) : State :=
  let t := tile s p
  match t.arr.descs.find? fun r => arrDraining r && dAccSet r.desc == set_ && r.lastLand + 1 + r.drained ≤ s.cycle with
  | none => s
  | some r =>
    let d := r.desc
    let m := r.drained % dMCount d
    let nb := r.drained / dMCount d
    let ns := (List.range (min 128 (dNCols d - 128 * nb))).map (128 * nb + ·)
    let vals := ns.map fun n => smGet {} t.arr.acc[set_] (accKey m n)
    let x : DrainRead := { t0 := r.t0, due := s.cycle + 10, m := m, nb := nb, vals := vals, params := ns.map (drainParams t d m) }
    let s := modTile s p fun t =>
      let t := if r.drained = 0 && bitAt 765 d.toNat then modMon t (dMon d) fun _ => {} else t
      modRun { t with arr := { t.arr with drains := t.arr.drains ++ [x] } } r.t0 fun r => { r with drained := r.drained + 1 }
    if vals.any (·.bad) then jobFault s p cArrayParity 0
    else match ns.findSome? (paramsBad t d m) with
      | some b => stepFault s p cOpbufParity (spaceGlobal t .vob b)
      | none => s

/-- A sum that saturates at 2^64 - 1 (06 R208). -/
def sat64 (a b : Nat) : Nat := min (2 ^ 64 - 1) (a + b)

/-- One output added to a range monitor, and its flags (06 R208, R209). -/
def monAdd (d : BitVec 1024) (o : DrainOut) (m : RangeMon) : RangeMon :=
  match o.value with
  | none => m
  | some v =>
    let fmt := dOutFmt d
    let int := fmt = 4 || fmt = 5 || fmt = 6
    let out : Int := if fmt = 5 then o.bits else signedOf (8 * dOutSize d) o.bits
    let m := { m with count := sat64 m.count 1, sat := sat64 m.sat (if o.sat then 1 else 0) }
    let m := if int then
        { m with sse := sat64 m.sse (squaredError (dField d 807 792) o.sat v out), ssq := sat64 m.ssq (out * out).natAbs, maxabs := max m.maxabs out.natAbs }
      else m
    let limit := if fmt = 4 then 127 else if fmt = 5 then 255 else 32767
    let satTrip := decide (dField d 831 816 < m.sat)
    let noise := decide (m.ssq * 65536 < m.sse * 2 ^ dField d 813 808)
    let low := decide (0 < m.count) && int && decide (m.maxabs * 16 < limit)
    { m with trips := BitVec.ofNat 3 ((if satTrip then 1 else 0) + (if noise then 2 else 0) + (if low then 4 else 0)) }

/-- The space an output goes to (05 R187). -/
def outSpace (d : BitVec 1024) : Space := if dOutVob d then .vob else .act

/-- One drained position written: its outputs, SAT, INVALID, digest and monitor (05 R185 to R189, 06 R208). -/
def drainWrite1 (now : Nat) (t : Tile) (x : DrainRead) : Tile :=
  match t.arr.descs.find? fun r => r.t0 = x.t0 with
  | none => t
  | some r =>
    let d := r.desc
    let outs := (List.range x.vals.length).map fun i =>
      let a := x.vals.getD i {}
      let q := x.params.getD i (0, 0, 0)
      (128 * x.nb + i, drainOut d a.val.toInt a.inv q.1 q.2.1 q.2.2)
    let writes := outs.map fun o => ({ space := outSpace d, addr := outAddr d x.m o.1, bytes := leBytes (dOutSize d) o.2.bits, rank := 3 } : Commit)
    let t := { t with commits := t.commits ++ writes }
    let t := if bitAt 767 d.toNat then modMon t (dMon d) fun m => outs.foldl (fun m o => monAdd d o.2 m) m else t
    modRun t x.t0 fun r => { r with
      written := r.written + 1
      lastWrite := now
      sat := min 0xFFFFFF (r.sat + (outs.filter fun o => o.2.sat).length)
      invalid := min 0xFFFF (r.invalid + (outs.filter fun o => o.2.invalid).length)
      digest := if dDigestEn d then outs.foldl (fun g o => g + outDigest d x.m o.1 o.2.bits) r.digest else r.digest }

/-- Every drain position whose write is due is written, 10 tile cycles after its read (05 R183). -/
def drainWrite (s : State) (p : PTile) : State :=
  modTile s p fun t =>
    let due := t.arr.drains.filter fun x => x.due ≤ s.cycle
    due.foldl (drainWrite1 s.cycle) { t with arr := { t.arr with drains := t.arr.drains.filter fun x => !(x.due ≤ s.cycle) } }

/-- A descriptor may complete in a cycle: an empty one at t0 + 5, one that drains in the cycle after its last write, any other in the cycle after its last update (05 R183, R198; 07 R241). -/
def arrCompletes (now : Nat) (x : ArrCarry × ArrRun) : Bool :=
  let r := x.2
  let d := r.desc
  r.valid && !r.done &&
    (if dEmpty d then decide (r.t0 + 5 ≤ now)
     else if dKind d = 0 then
       (if dDrain d then decide (dNd d ≤ r.written) && decide (r.lastWrite + 1 ≤ now) else decide (arrEntries d ≤ r.landed) && decide (r.lastLand + 1 ≤ now))
     else r.boxesRead && x.1.known && decide ((liveBoxes r).length * (dBoxLen d / dC1 d) ≤ r.written)
       && decide (r.lastWrite + 1 ≤ now) && decide (arrS0 x.1 r ≤ now))

/-- The descriptors that are done at the head of the list leave it, and their schedule stays in the carry. -/
def arrPrune (u : ArrayUnit) : ArrayUnit :=
  match u.descs with
  | r :: rs =>
    if r.done then
      let c := arrNext (arrCarry u) r
      { u with descs := rs, lastSpanStart := c.lastSpan, prevEnd := c.prevEnd, dEnd := c.dEnd, setReady := #v[c.ready0, c.ready1] }
    else u
  | [] => u

/-- The next descriptor completes: ARR_STATUS and ARR_DIGEST of its set are written and source 10 is raised when IRQ is set (05 R183, R193). -/
def arrComplete (s : State) (p : PTile) : State :=
  match (arrPlan (tile s p).arr).find? (arrCompletes s.cycle) with
  | none => s
  | some x =>
    let r := x.2
    let d := r.desc
    let set_ := dAccSet d
    let drained := dDrain d && !dEmpty d
    let status := BitVec.ofNat 64 ((if drained then r.sat * 2 ^ 40 + r.invalid * 2 ^ 16 else 0) + (if dEmpty d then cEmpty else cDone))
    modTile s p fun t =>
      let u := { t.arr with
        status := t.arr.status.set set_.val status set_.isLt
        digest := t.arr.digest.set set_.val (if drained then r.digest else 0) set_.isLt
        descs := t.arr.descs.map fun q => if q.t0 = r.t0 then { q with done := true } else q }
      { t with arr := arrPrune (arrPrune (arrPrune u)), intPending := if dIrq d then t.intPending ||| 0x400 else t.intPending }

/-- The crop-and-resize descriptor whose list is being read (07 R237). -/
def boxDue (t : Tile) (now : Nat) : Option ArrRun :=
  ((arrPlan t.arr).find? fun x =>
    let r := x.2
    r.valid && !r.done && dKind r.desc = 1 && !dEmpty r.desc && x.1.known && !r.boxesRead && arrL0 x.1 r + r.boxes.length / 16 ≤ now).map (·.2)

/-- Sixteen entries of a box list are read and checked; a failing entry is ARRAY_DESC_INVALID naming its index (07 R237). -/
def boxListRead (s : State) (p : PTile) : State :=
  let t := tile s p
  match boxDue t s.cycle with
  | none => s
  | some r =>
    let d := r.desc
    let n := min 16 (dBoxes d - r.boxes.length)
    let a := dBoxAddr d + 16 * r.boxes.length
    let es := (List.range n).map fun i => memRead t.wbuf (a + 16 * i) 16
    let s := modTile s p fun t => modRun t r.t0 fun r => { r with boxes := r.boxes ++ es, boxesRead := dBoxes d ≤ r.boxes.length + n }
    match bufBad t .weight a (16 * n) with
    | some b => stepFault s p cOpbufParity (spaceGlobal t .weight b)
    | none => match (List.range n).find? fun i => !boxOk d (es.getD i []) with
      | some i => jobFault s p cArrayDescInvalid (r.boxes.length + i)
      | none => s

/-- The value of one channel of a crop-and-resize output (07 R238). -/
def cropValue (d : BitVec 1024) (o : CropOut) (ch : Nat) : Nat :=
  let sz := dASize d
  let nbr (k : Nat) : Int :=
    let v := leNat ((List.range sz).map fun h => (o.reads.getD (k * sz + h) []).getD ch 0)
    if dAFmt d = 1 then v else signedOf (8 * sz) v
  wrapTo (8 * sz) (cropMix o.fx o.fy (nbr 0) (nbr 1) (nbr 2) (nbr 3))

/-- One crop-and-resize output written, every channel of its block, with its digest terms (07 R240). -/
def cropWrite1 (now : Nat) (t : Tile) (x : Nat × CropOut) : Tile :=
  match t.arr.descs.find? fun r => r.t0 = x.1 with
  | none => t
  | some r =>
    let d := r.desc
    let o := x.2
    let slot := leAt ((liveBoxes r).getD o.box []) 10 2
    let outs := (List.range (min 128 (dKTotal d - 128 * o.cb))).map fun ch => (128 * o.cb + ch, cropValue d o ch)
    let writes := outs.map fun q => ({ space := outSpace d, addr := cropAddr d slot o.m q.1, bytes := leBytes (dOutSize d) q.2, rank := 3 } : Commit)
    modRun { t with commits := t.commits ++ writes } x.1 fun r => { r with
      written := r.written + 1
      lastWrite := now
      digest := if dDigestEn d then outs.foldl (fun g q => g + outDigest d (slot * dOW d * dOH d + o.m) q.1 q.2) r.digest else r.digest }

/-- Every crop-and-resize output that is due is written, 10 tile cycles after the last read of its neighbours (07 R241). -/
def cropWrite (s : State) (p : PTile) : State :=
  modTile s p fun t =>
    let due := t.arr.descs.flatMap fun r => (r.crops.filter fun o => o.due ≤ s.cycle && o.reads.length = dC1 r.desc).map fun o => (r.t0, o)
    let t := due.foldl (cropWrite1 s.cycle) t
    { t with arr := { t.arr with descs := t.arr.descs.map fun r => { r with crops := r.crops.filter fun o => !(o.due ≤ s.cycle && o.reads.length = dC1 r.desc) } } }

/-- ARRAY_SPAN_START: a span of a descriptor begins its entry cycles, and its shadow weights and grid become active (05 R182). -/
def execArraySpanStart (p : PTile) (s : State) : Host.Outcome State Fault Refusal := .next (spanStart s p)

/-- ARRAY_ACC_UPDATE: column sums land in their accumulators 14 tile cycles after their entry (05 R182). -/
def execArrayAccUpdate (p : PTile) (s : State) : Host.Outcome State Fault Refusal := .next (accUpdate s p)

/-- ARRAY_DRAIN_READ: the drain of a set reads one position of accumulators (05 R183). -/
def execArrayDrainRead (p : PTile) (n : Fin 2) (s : State) : Host.Outcome State Fault Refusal := .next (drainRead s p n)

/-- ARRAY_DRAIN_WRITE: a drained position is rescaled, converted and written (05 R183, R185). -/
def execArrayDrainWrite (p : PTile) (s : State) : Host.Outcome State Fault Refusal := .next (drainWrite s p)

/-- ARRAY_COMPLETE: ARR_STATUS and ARR_DIGEST of a descriptor are written (05 R183). -/
def execArrayComplete (p : PTile) (s : State) : Host.Outcome State Fault Refusal := .next (arrComplete s p)

/-- ARRAY_BOX_LIST_READ: sixteen entries of a box list are read and checked (07 R237). -/
def execArrayBoxListRead (p : PTile) (s : State) : Host.Outcome State Fault Refusal := .next (boxListRead s p)

/-- CROP_OUTPUT_WRITE: crop-and-resize outputs are written (07 R240, R241). -/
def execCropOutputWrite (p : PTile) (s : State) : Host.Outcome State Fault Refusal := .next (cropWrite s p)

end Sys2Proof.Machine
end

