-- ==== Sys2Proof/Machine/Control.lean ====
section
/-! DEFINITION. The C slot: branches, loops, control registers, waits, interrupts, doorbells and the class-0 operations (03 R86 to R123). -/

namespace Sys2Proof.Machine

open Sys2Proof

/-- A range monitor's PEAK register (06 R206, R209). -/
def peakWord (m : RangeMon) : Word := BitVec.ofNat 64 (m.trips.toNat * 65536 + m.maxabs % 65536)

/-- INT_CTRL, INT_ENABLE and the other registers that the class-0 context bars (03 R113). -/
def isIntReg (n : Nat) : Bool := 0x10 ≤ n && n ≤ 0x17

/-- The control registers an mfc may read: in the class-0 context the banked ones, C0_WINDOW and those shared read-only (03 R86, R87, R113; 04 R127; 05 R192; 06 R206; 09 R296). -/
def mfcListed (c0 : Bool) (n : Nat) : Bool :=
  n = 0x00 || n = 0x02 || (0x04 ≤ n && n ≤ 0x0A && n ≠ 0x07) || n = 0x18 || (0x20 ≤ n && n ≤ 0x24) || n = 0x30 || n = 0x31
    || (!c0 && (n = 0x01 || isIntReg n || (0x40 ≤ n && n ≤ 0x44) || (0x48 ≤ n && n ≤ 0x54) || (0x58 ≤ n && n ≤ 0x5C) || (0x60 ≤ n && n ≤ 0x6F)))

/-- The control registers an mtc may write (03 R87). -/
def mtcListed (c0 : Bool) (n : Nat) : Bool :=
  n = 0x00 || (!c0 && (n = 0x01 || n = 0x10 || n = 0x11 || n = 0x12 || n = 0x13 || n = 0x14 || n = 0x16 || n = 0x41 || n = 0x42 || (0x4D ≤ n && n ≤ 0x4F)))

/-- A control register as an mfc reads it, zero-extended (03 R87). -/
def ctlRead (s : State) (p : PTile) (n : Nat) : Word :=
  let t := tile s p
  let b := bankOf t
  let z {w : Nat} (x : BitVec w) : Word := x.setWidth 64
  let ch : Fin 8 := ⟨n % 8, by omega⟩
  if n = 0x00 then z b.dsp
  else if n = 0x01 then z t.rot
  else if n = 0x02 then z b.loopCtrl
  else if n = 0x04 then z b.loopCount[0]
  else if n = 0x05 then z b.loopStart[0]
  else if n = 0x06 then z b.loopEnd[0]
  else if n = 0x08 then z b.loopCount[1]
  else if n = 0x09 then z b.loopStart[1]
  else if n = 0x0A then z b.loopEnd[1]
  else if n = 0x10 then z t.intCtrl
  else if n = 0x11 then z t.intEnable
  else if n = 0x12 then z t.intPending
  else if n = 0x13 then z t.intPc
  else if n = 0x14 then z t.intVector
  else if n = 0x15 then z t.intCause
  else if n = 0x16 then t.bellFrom
  else if n = 0x17 then z t.intWait
  else if n = 0x18 then z t.c0Window
  else if n = 0x20 then BitVec.ofNat 64 (s.ctrl.tick % 2 ^ 32)
  else if n = 0x21 then BitVec.ofNat 64 (s.ctrl.step % 2 ^ 32)
  else if n = 0x22 then t.seed
  else if n = 0x23 then z t.jobId
  else if n = 0x24 then z t.ctxId
  else if n = 0x30 then 0x00200000
  else if n = 0x31 then 0x10000000
  else if n = 0x40 then BitVec.ofNat 64 t.vl
  else if n = 0x41 then z t.vew
  else if n = 0x42 then t.vresume
  else if n = 0x43 then z t.vfaultIdx
  else if n = 0x44 then z t.vfaultAddr
  else if n = 0x48 then arrStateWord t s.cycle
  else if n = 0x49 then t.arr.status[0]
  else if n = 0x4A then t.arr.status[1]
  else if n = 0x4B then t.arr.digest[0]
  else if n = 0x4C then t.arr.digest[1]
  else if n = 0x4D then z (qcrossWord t.dma)
  else if n = 0x4E then z (dmaEngineWord t.dma)
  else if 0x50 ≤ n && n ≤ 0x5C then
    let m := if n < 0x58 then t.arr.mon[0] else t.arr.mon[1]
    match n % 8 with
    | 0 => BitVec.ofNat 64 m.count
    | 1 => BitVec.ofNat 64 m.sat
    | 2 => BitVec.ofNat 64 m.sse
    | 3 => BitVec.ofNat 64 m.ssq
    | _ => peakWord m
  else if 0x60 ≤ n && n ≤ 0x67 then z (dmaStatus s p ch)
  else if 0x68 ≤ n && n ≤ 0x6F then dmaResidue s p ch
  else 0

/-- VEW after an mtc: FRM taken, sticky flags cleared where a 1 is written, EW unchanged (04 R129). -/
def vewWrite (old new : BitVec 32) : BitVec 32 := ((old &&& ~~~0x30#32) ||| (new &&& 0x30#32)) &&& ~~~(new &&& 0x1F00#32)

/-- VRESUME after an mtc: RP, VFE and START taken, OP unchanged (04 R130). -/
def vresumeWrite (old new : Word) : Word := (new &&& 0xC00001FF00000000#64) ||| (old &&& 0xFFFFFFFF#64)

/-- An mtc lands (03 R87; 09 R299, R301, R313): the write takes effect on the register. -/
def ctlWrite (s : State) (p : PTile) (c0 : Bool) (n : Nat) (v : Word) : State :=
  let v32 : BitVec 32 := v.setWidth 32
  if n = 0x00 then modTile s p fun t => modBankOf t c0 fun b => { b with dsp := dspWrite b.dsp v32 }
  else if n = 0x01 then modTile s p fun t => { t with rot := v.setWidth 5 }
  else if n = 0x11 then modTile s p fun t => { t with intEnable := v.setWidth 16 &&& 0x8FFF#16 }
  else if n = 0x12 then modTile s p fun t => { t with intPending := t.intPending &&& ~~~(v.setWidth 16) }
  else if n = 0x13 then modTile s p fun t => { t with intPc := v32 }
  else if n = 0x14 then modTile s p fun t => { t with intVector := v32 }
  else if n = 0x16 then modTile s p fun t => { t with bellFrom := t.bellFrom &&& ~~~v }
  else if n = 0x41 then modTile s p fun t => { t with vew := vewWrite t.vew v32 }
  else if n = 0x42 then modTile s p fun t => { t with vresume := vresumeWrite t.vresume v }
  else if n = 0x4D then modTile s p fun t => { t with dma := { t.dma with qcross := setErase t.dma.qcross (field 10 0 v.toNat) } }
  else if n = 0x4E then modTile s p fun t => { t with dma := { t.dma with
    recover := v.getLsbD 0
    stopped := t.dma.stopped && !v.getLsbD 1
    cleared := if t.dma.stopped && v.getLsbD 1 then s.cycle + 1 else t.dma.cleared } }
  else if n = 0x4F then dmaAbort s p (v.toNat % 256)
  else s

/-- A mark of the record of the item that runs: RAW_READ, TICK_READ or TIMING_VARIED (14 R444, R450). -/
def markItem (s : State) (p : PTile) (bits : BitVec 16) : State :=
  let t := tile s p
  match t.run with
  | some r => if t.inC0 || r.replay then s else modItem s r.item fun i => { i with marks := i.marks ||| bits }
  | none => s

/-- Bits of the e-flags that a tile's marks set (14 R455): RAW_READ [2], TIMING_VARIED [5], TICK_READ [6]. -/
def flagRawRead : BitVec 16 := 4
/-- TIMING_VARIED. -/
def flagTimingVaried : BitVec 16 := 32
/-- TICK_READ. -/
def flagTickRead : BitVec 16 := 64

/-- A branch of the running bank taken: five delay bundles follow (03 R105, R120). -/
def takeBranch (t : Tile) (target : BitVec 32) : Tile := modBank t fun b => { b with branch := b.branch ++ [{ target := target, left := 5 }] }

/-- The target of a relative branch: the offset counts bundles from the branch bundle (03 R122). -/
def relTarget (t : Tile) (off : BitVec 20) : BitVec 32 := BitVec.ofInt 32 (((bankOf t).pc.toNat : Int) + 32 * off.toInt)

/-- br. -/
def opBr (p : PTile) (off : BitVec 20) : TileOp := { act := fun s => modTile s p fun t => takeBranch t (relTarget t off) }

/-- br.z and br.nz. -/
def opBrIf (p : PTile) (zero : Bool) (g : Fin 64) (off : BitVec 20) : TileOp :=
  { names := [g], act := fun s => modTile s p fun t => if (gVal t g = 0) = zero then takeBranch t (relTarget t off) else t }

/-- call: the return address, 192 beyond the call, lands in g31 with latency 1 (03 R120). -/
def opCall (p : PTile) (off : BitVec 20) : TileOp :=
  { dests := [.g 31]
    act := fun s => modTile s p fun t => takeBranch (landG t s.cycle 1 31 (((bankOf t).pc + 192).setWidth 64)) (relTarget t off) }

/-- br.r: the target is the low 32 bits of the register. -/
def opBrR (p : PTile) (g : Fin 64) : TileOp := { names := [g], act := fun s => modTile s p fun t => takeBranch t ((gVal t g).setWidth 32) }

/-- A paired control write is in flight until it lands: no dispatch point (03 R112). -/
def pairHold (t : Tile) (until_ : Nat) : Tile := { t with pairEnd := max t.pairEnd until_ }

/-- loop.set: COUNT, START and END written together and the level armed, with latency 7 (03 R101). -/
def opLoopSet (p : PTile) (lvl : Fin 2) (g : Fin 64) (start : BitVec 10) (len : BitVec 9) : TileOp :=
  { names := [g]
    act := fun s => modTile s p fun t =>
      let st := BitVec.ofInt 32 (((bankOf t).pc.toNat : Int) + 32 * start.toInt)
      pairHold (land t s.cycle 7 (.loopSet t.inC0 lvl ((gVal t g).setWidth 32) st (st + BitVec.ofNat 32 (32 * len.toNat)) true)) (s.cycle + 7) }

/-- loop.rest: the three registers from saved values, arming unchanged; an end below the start is ILLEGAL_BUNDLE (03 R101). -/
def opLoopRest (p : PTile) (lvl : Fin 2) (gc gs ge : Fin 64) : TileOp :=
  { names := [gc, gs, ge]
    illegal := fun t => ((gVal t ge).setWidth 32).toNat < ((gVal t gs).setWidth 32).toNat
    act := fun s => modTile s p fun t =>
      land t s.cycle 7 (.loopSet t.inC0 lvl ((gVal t gc).setWidth 32) ((gVal t gs).setWidth 32) ((gVal t ge).setWidth 32) false) }

/-- loop.clr: the level is disarmed with latency 2 (03 R101). -/
def opLoopClr (p : PTile) (lvl : Fin 2) : TileOp := { act := fun s => modTile s p fun t => land t s.cycle 2 (.loopClr t.inC0 lvl) }

/-- The image of a cb pair that cb.set refuses with CB_INVALID (03 R90). -/
def cbInvalid (v : Word) : Bool :=
  let base := field 20 0 v.toNat
  let len := field 53 32 v.toNat
  base % 8 ≠ 0 || len % 8 ≠ 0 || coreSize < base + len || field 63 54 v.toNat ≠ 0 || field 31 21 v.toNat ≠ 0

/-- cb.set (03 R90). -/
def opCbSet (p : PTile) (n : Fin 8) (g : Fin 64) : TileOp :=
  { names := [g], dests := [.cb n]
    check := fun s => if cbInvalid (gVal (tile s p) g) then (cCbInvalid, 0) else (0, 0)
    act := fun s => modTile s p fun t => pairHold (land t s.cycle 7 (.cbReg t.inC0 n (gVal t g))) (s.cycle + 7) }

/-- mtc: the write lands with latency 2 (03 R87). -/
def opMtc (p : PTile) (g : Fin 64) (n : BitVec 8) : TileOp :=
  { names := [g]
    illegal := fun t => !mtcListed t.inC0 n.toNat
    act := fun s => modTile s p fun t => land t s.cycle 2 (.ctl t.inC0 n.toNat (gVal t g)) }

/-- mfc: the value as issue finds it reaches the register with latency 2; reading TICK_COUNT or STEP_COUNT marks the item (03 R87, 14 R444). -/
def opMfc (p : PTile) (d : Fin 64) (n : BitVec 8) : TileOp :=
  { names := [d], dests := [.g d]
    illegal := fun t => !mfcListed t.inC0 n.toNat
    act := fun s =>
      let s' := if n.toNat = 0x20 || n.toNat = 0x21 then markItem s p flagTickRead else s
      modTile s' p fun t => landG t s.cycle 2 d (ctlRead s p n.toNat) }

/-- rot: ROT_OFS decreases by 1 modulo 32 for the next bundle (03 R85). -/
def opRot (p : PTile) : TileOp := { barC0 := true, act := fun s => modTile s p fun t => { t with rot := t.rot - 1 } }

/-- nint n, 1 to 300: the region reaches the later of the two ends, at most 300 cycles from this issue (03 R112). -/
def opNint (p : PTile) (n : BitVec 9) : TileOp :=
  { illegal := fun _ => n.toNat = 0 || 300 < n.toNat
    act := fun s => modTile s p fun t => { t with nintEnd := min (max t.nintEnd (s.cycle + n.toNat + 1)) (s.cycle + 301) } }

/-- mark f: issue is held for six cycles, then the scalar state is copied to the step shadow (03 R106). -/
def opMark (p : PTile) (f : Bool) : TileOp :=
  { barC0 := true
    act := fun s => modTile s p fun t => modBank (land t s.cycle 6 (.markCopy f)) fun b => { b with hold := .mark (s.cycle + 6) } }

/-- dma.start (09 R282, R283). -/
def opDmaStart (p : PTile) (c : Fin 8) (vs : Fin 32) : TileOp :=
  { barC0 := true
    check := fun s => if !((tile s p).dma.stopped || (tile s p).dma.cleared = s.cycle + 1) && dmaFull (tile s p) c then (cDmaOverrun, 0) else (0, 0)
    act := fun s => dmaStart s p c vs }

/-- arr.start (05 R176, R177). -/
def opArrStart (p : PTile) (vs : Fin 32) : TileOp :=
  { barC0 := true
    check := fun s => if 2 ≤ arrPendings (tile s p) s.cycle then (cArrayOverrun, 0) else (0, 0)
    act := fun s => arrStart s p vs }

/-- The word of wait.dma (03 R122). -/
def waitDmaWord (c : Fin 8) : BitVec 32 := BitVec.ofNat 32 (0x13 * 2 ^ 26 + c.val * 2 ^ 18)

/-- The word of wait.flag (03 R122). -/
def waitFlagWord (g : Fin 64) (a : Fin 8) : BitVec 32 := BitVec.ofNat 32 (0x14 * 2 ^ 26 + g.val * 2 ^ 20 + a.val * 2 ^ 17)

/-- wait.dma: issue is held (03 R83, 09 R297). -/
def opWaitDma (p : PTile) (c : Fin 8) (alone : Bool) : TileOp :=
  { act := fun s => modTile s p fun t => modBank t fun b => { b with hold := .waitDma c (waitDmaWord c) alone } }

/-- wait.flag: issue is held; the 64-bit word's address must be inside core memory and aligned (03 R83, R93; 07 R244, R245). -/
def opWaitFlag (p : PTile) (g : Fin 64) (a : Fin 8) (alone : Bool) : TileOp :=
  { names := [g]
    check := fun s =>
      let t := tile s p
      let ea := (aVal t a).toNat
      if coreSize ≤ ea then (cCoreRange, coreGlobal t ea) else if ea % 8 ≠ 0 then (cCoreAlign, coreGlobal t ea) else (0, 0)
    act := fun s => modTile s p fun t => modBank t fun b => { b with hold := .waitFlag (gVal t g) (aVal t a) (waitFlagWord g a) alone } }

/-- Deterministic time: t(k) + 2 × c, c counted from the boundary (14 R446). -/
def detTime (s : State) : Nat := tickTime s s.ctrl.tick + 2 * sinceBoundary s

/-- time.rd (14 R444, R446). -/
def opTimeRd (p : PTile) (d : Fin 64) : TileOp :=
  { names := [d], dests := [.g d]
    act := fun s =>
      let det := cfgNat s oDetTimeMode = 1
      let v := if det then detTime s else nowNs s
      let s' := markItem s p (if det then flagTickRead else flagTickRead ||| flagRawRead)
      modTile s' p fun t => landG t s.cycle 2 d (BitVec.ofNat 64 v) }

/-- rng: true random bits, free values of the model; in mode 1 h(n, SEED) for the n-th rng of the attempt, a free value in a handler, for which the spec names no n (14 R444, R447; notes/assumptions/10.md). -/
def opRng (p : PTile) (d : Fin 64) : TileOp :=
  { names := [d], dests := [.g d]
    act := fun s =>
      let t := tile s p
      match decide (cfgNat s oDetRngMode = 1) && !t.inC0, t.run with
      | true, some r =>
        modTile s p fun t => { landG t s.cycle 2 d (digestMix (BitVec.ofNat 64 r.rngN) t.seed) with run := some { r with rngN := r.rngN + 1 } }
      | _, _ =>
        let f := drawFree s
        let s' := if cfgNat s oDetRngMode = 1 then f.2 else markItem f.2 p flagRawRead
        modTile s' p fun t => landG t s.cycle 2 d f.1 }

/-- A class-0 trigger sent to a tile: it arrives 40 cycles on (02 R69). -/
def sendTrigger (s : State) (p : PTile) (src handler : Nat) : State :=
  modTile s p fun t => { t with trigs := t.trigs ++ [{ due := s.cycle + 40, src := src, handler := handler }] }

/-- c0.trig h (03 R115). -/
def opC0Trig (p : PTile) (h : Fin 8) : TileOp := { act := fun s => sendTrigger s p (tile s p).logical h.val }

/-- c0.bell t, h: to the tile that holds the id in service, else dropped and counted (03 R115). -/
def opC0Bell (p : PTile) (l : Fin 64) (h : Fin 8) : TileOp :=
  { act := fun s => if replaying s p then s else match holderOf s l.val with
      | some q => sendTrigger s q (tile s p).logical h.val
      | none => roAdd s (oTileBellsDropped p.val) 1 }

/-- c1.bell t: delivered 40 cycles on, or dropped and counted (03 R123). -/
def opC1Bell (p : PTile) (l : Fin 64) : TileOp :=
  { barC0 := true
    act := fun s => match holderOf s l.val with
      | some q => modTile s q fun t => { t with bells := t.bells ++ [(s.cycle + 40, (tile s p).logical)] }
      | none => roAdd s (oTileBellsDropped p.val) 1 }

/-- emit a: the 64-byte body, an access of its size by 03 R93, reaches the alarm egress 40 cycles on; at or after the run's first suppressed store its record carries CLASS0_STORE (03 R114, R116). -/
def opEmit (p : PTile) (a : Fin 8) : TileOp :=
  { onlyC0 := true
    check := fun s =>
      coreFault (tile s p) false (aVal (tile s p) a).toNat 64 false
    act := fun s =>
      let t := tile s p
      match t.c0run, replaying s p with
      | none, _ | _, true => s
      | some h, false =>
        let key := s.ctrl.nextMsg
        let x : AlarmTx :=
          { due := s.cycle + 40, tile := t.logical, ptile := p, handler := h.handler, job := (Config.handlerJob t.logical h.handler).toNat
            step := s.ctrl.step
            tick := s.ctrl.tick
            time := nowNs s
            body := memRead t.core (aVal t a).toNat 64
            code := if h.suppressed then cClass0Store else 0
            key := key }
        let s := { s with
          eth := { s.eth with alarms := s.eth.alarms ++ [x] }
          ctrl := { s.ctrl with nextMsg := key + 1, sets := s.ctrl.sets.map fun r => if r.tick = x.tick then { r with alarms := r.alarms + 1 } else r } }
        modTile s p fun t => { t with c0run := some { h with lastEmit := some key, emitAfter := h.emitAfter || h.suppressed } } }

/-- c0.end (03 R117). -/
def opC0End (p : PTile) : TileOp := { onlyC0 := true, act := fun s => handlerEnd s p 0 }

/-- reti: IA cleared, arming restored, fetch from INT_PC; the next bundle issues 8 cycles on, after the reissue of a faulted vector operation and of a held wait (03 R110, 04 R159). -/
def opReti (p : PTile) : TileOp :=
  { barC0 := true
    act := fun s => modTile s p fun t =>
      let rp := bitAt 63 t.vresume.toNat
      let wp := bitAt 1 t.intCtrl.toNat
      let at_ := s.cycle + 8
      let after := at_ + (if rp then 1 else 0)
      { t with
        intCtrl := 0
        vReissueAt := if rp then some at_ else none
        reissueAt := if wp then some after else none
        job := { t.job with
          loopCtrl := (t.job.loopCtrl &&& ~~~3#32) ||| (t.job.loopCtrl >>> 2 &&& 3)
          pc := t.intPc
          branch := []
          hold := .none
          fetchAt := after + (if wp then 1 else 0) } } }

/-- A landing result of the job's scalar state: what end waits for. -/
def scalarLanding : Act → Bool
  | .gReg c0 _ _ | .aReg c0 _ _ | .cbReg c0 _ _ | .accReg c0 _ _ | .accmReg c0 _ _ | .dspSticky c0 _ | .loopSet c0 _ _ _ _ _ | .loopClr c0 _ | .ctl c0 _ _ => !c0
  | _ => false

/-- end: scalar operations in flight land, then the item ends (03 R120). -/
def opEnd (p : PTile) : TileOp :=
  { barC0 := true
    act := fun s => modTile s p fun t =>
      let due := (t.sched.filter fun e => scalarLanding e.act).foldl (fun m e => max m e.due) (s.cycle + 1)
      modBank { t with sched := t.sched ++ [{ due := due, issue := s.cycle, act := .finish }] } fun b => { b with hold := .ended } }

end Sys2Proof.Machine
end

