-- ==== Sys2Proof/Machine/Interrupt.lean ====
section
/-! DEFINITION. Waits, interrupts, class-0 handlers, doorbells and step re-runs: what moves the core between flows (02 R69, R70; 03 R83, R106 to R119, R123; 04 R157 to R163). -/

namespace Sys2Proof.Machine

open Sys2Proof

/-- The tile cycle is an idle cycle of the power cap, in which the whole tile is frozen (17 R543). -/
def frozen (s : State) (p : PTile) : Bool :=
  let t := tile s p
  t.power = 0 && !t.inC0 && 16 - s.power.level ≤ sinceBoundary s % 16

/-- The tile is in Run and its cycle is live. -/
def tileLive (s : State) (p : PTile) : Bool := (tile s p).power = 0 && !frozen s p

/-- A vector operation is in flight or holds a port (04 R162). -/
def vecBusy (s : State) (t : Tile) : Bool :=
  t.sched.any (fun e => match e.act with
    | .vLane _ _ _ | .vExec _ _ | .vReadMem _ _ _ _ _ | .vStoreLanes _ _ _ _ _ | .vWriteMem _ _ | .vewSticky _ | .vgReg _ _ | .setVl _ _ => true
    | _ => false)
  || t.port0.any (fun c => s.cycle ≤ c) || t.portV.any fun c => s.cycle ≤ c

/-- The level whose loop start the program counter has reached with a count of 0 while armed (03 R104). -/
def zeroLoop (b : Bank) : Option (Fin 2) :=
  [(0 : Fin 2), 1].find? fun l => bitAt l.val b.loopCtrl.toNat && b.loopStart[l] = b.pc && b.loopCount[l] = 0

/-- One level disarmed. -/
def disarm (l : Fin 2) (c : BitVec 32) : BitVec 32 := c &&& ~~~(BitVec.ofNat 32 (2 ^ l.val))

/-- End of the fetch redirect in progress: of the running one, and of a zero-count loop skip, 8 cycles after the bundle before LOOP_STARTn issued (03 R83, R104). -/
def redirectEnd (t : Tile) (b : Bank) : Nat := if (zeroLoop b).isSome then max b.fetchAt (t.lastIssue + 8) else b.fetchAt

/-- A zero-count loop skipped: the level is disarmed and fetch goes on behind it (03 R104). -/
def skipLoop (t : Tile) (b : Bank) : Bank :=
  match zeroLoop b with
  | some l => { b with loopCtrl := disarm l b.loopCtrl, pc := b.loopEnd[l] + 32, fetchAt := redirectEnd t b }
  | none => b

/-- Both levels may be skipped one behind the other. -/
def skipLoops (t : Tile) (b : Bank) : Bank := skipLoop t (skipLoop t b)

/-- The present cycle lies outside every non-interruptible region and every paired control write, whose landing cycle is free again (03 R112; that it is, DEDUCED, notes/assumptions/22.md). -/
def outsideRegion (s : State) (t : Tile) : Bool := t.nintEnd ≤ s.cycle && t.pairEnd ≤ s.cycle

/-- No bundle has issued in the present cycle. -/
def betweenBundles (s : State) (t : Tile) : Bool := t.issued ≠ s.cycle + 1

/-- A class-0 dispatch point of a tile with a trigger waiting: a bundle boundary, or a cycle in which issue is held for any cause; a trigger that arrives during an interrupt entry takes the next cycle, and the entry is abandoned (03 R108, R119). -/
def class0Due (s : State) (p : PTile) : Bool :=
  let t := tile s p
  tileLive s p && !t.inC0 && !t.c0wait.isEmpty && outsideRegion s t && betweenBundles s t
    && (t.entry.isNone || (t.c0wait.head?.any fun x => x.due < s.cycle))

/-- The source that an interrupt serves now: 15 first, then the lowest bit that is pending and enabled (03 R107, R108). -/
def intSource (t : Tile) : Option Nat :=
  if t.vfEntry || bitAt 15 t.intPending.toNat then some 15
  else (List.range 12).find? fun n => bitAt n t.intPending.toNat && bitAt n t.intEnable.toNat

/-- A wait holds issue. -/
def waitHeld (b : Bank) : Bool := match b.hold with | .waitDma _ _ _ | .waitFlag _ _ _ _ => true | _ => false

/-- A bundle boundary of the job's flow: nothing holds its next bundle or the reissue of a vector operation, and no branch is between its taking and its last delay bundle (03 R83, R108). -/
def atBoundary (s : State) (t : Tile) : Bool :=
  t.job.branch.isEmpty && (redirectEnd t t.job ≤ s.cycle || (t.vReissueAt.any fun c => c ≤ s.cycle))
    && (match t.job.hold with | .none => true | .mark u => u ≤ s.cycle | .vsettle => !vecBusy s t | _ => false)

/-- An interrupt dispatch point with a source to serve: a bundle boundary, or a cycle in which a wait holds issue, be it in a delay bundle, outside the class-0 context and its switches; after a vector fault the next cycle is one for source 15, whatever holds issue (03 R108, 04 R157). A wait that reti has still to reissue goes first (notes/assumptions/22.md). -/
def interruptDue (s : State) (p : PTile) : Bool :=
  let t := tile s p
  tileLive s p && t.run.isSome && !t.inC0 && t.switchAt ≤ s.cycle && !serving t && t.entry.isNone && !t.rerun && betweenBundles s t
    && (t.vfEntry || (t.reissueAt.isNone && outsideRegion s t && (waitHeld t.job || atBoundary s t)))
    && (intSource t).isSome && !class0Due s p

/-- Steps 3 to 6 of an interrupt entry: PC, cause, the wait held and the loop arming are saved, IA is set, and the first bundle at INT_VECTOR issues in cycle first (03 R108). -/
def entryDone (t : Tile) (src first : Nat) : Tile :=
  let w := match t.job.hold with | .waitDma _ w _ => some w | .waitFlag _ _ w _ => some w | _ => none
  let arm := t.job.loopCtrl &&& 3
  { t with
    intPc := t.job.pc
    intCause := BitVec.ofNat 8 src
    intWait := match w with | some w => w | none => t.intWait
    intCtrl := if w.isSome then 3 else 1
    entry := none
    vfEntry := false
    port0Old := t.port0
    job := { t.job with loopCtrl := arm <<< 2, pc := t.intVector, hold := .none, fetchAt := first } }

/-- An interrupt entry begins: scalar operations in flight land first (03 R108). -/
def interruptEntry (s : State) (p : PTile) : State :=
  if !interruptDue s p then s else
  modTile s p fun t =>
    let landed := (t.sched.filter fun e => scalarLanding e.act).foldl (fun m e => max m e.due) s.cycle
    let src := (intSource t).getD 0
    let t := { t with vReissueAt := none, job := skipLoops t t.job }
    if landed ≤ s.cycle then entryDone t src (s.cycle + 8) else { t with entry := some (src, landed + 8) }

/-- A handler that the active plan gives a tile: its entry address (03 R115, 16 R526). -/
def plannedHandler (s : State) (p : PTile) (h : Nat) : Option Nat :=
  match s.ctrl.plan with
  | some plan =>
    match plan.tiles[(tile s p).logical]? with
    | some r => (((plan.handlers.drop r.handlerFirst).take r.handlerCount).find? fun x => x.handler = h).map fun x => x.pc
    | none => none
  | none => none

/-- The handler that a trigger may start on a tile: in a tick in which no plan runs, none (14 R451, 16 R528). -/
def handlerPc (s : State) (p : PTile) (h : Nat) : Option Nat := if s.ctrl.runs then plannedHandler s p h else none

/-- Triggers in ascending source id; those of one source keep their order. -/
def bySource (l : List Trigger) : List Trigger := (List.range 65).flatMap fun i => l.filter fun x => x.src = i

/-- The triggers due are delivered to class-0 control (02 R69, 03 R115). -/
def triggerDelivery (s : State) (p : PTile) : State :=
  if frozen s p then s else
  let due := bySource ((tile s p).trigs.filter fun x => x.due ≤ s.cycle)
  let bound := due.filter fun x => (handlerPc s p x.handler).isSome
  let s := if due.length = bound.length then s else roAdd s (oTileClass0Unbound p.val) (due.length - bound.length)
  let s := if bound.isEmpty then s else requestRun s p.val true
  modTile s p fun t => { t with trigs := t.trigs.filter (fun x => s.cycle < x.due), c0wait := t.c0wait ++ bound }

/-- A class-0 dispatch: the first bundle of the handler issues 28 tile cycles on (02 R70, 03 R115). A test alarm of the host marks the item (14 R450). -/
def class0Dispatch (s : State) (p : PTile) : State :=
  if !class0Due s p then s else
  match (tile s p).c0wait with
  | [] => s
  | x :: rest =>
    let s := roMax (roAdd s oPlanClass0Count 1) oPlanClass0WaitMax (s.cycle - x.due)
    let s := if x.src = 64 then markItem s p flagTimingVaried else s
    modTile s p fun t =>
      { t with
        inC0 := true
        c0wait := rest
        entry := none
        job := skipLoops t t.job
        c0run := some { handler := x.handler, start := s.cycle + 28, first := s.cycle, base := max s.cycle t.switchAt }
        c0 := { t.c0 with pc := BitVec.ofNat 32 ((handlerPc s p x.handler).getD 0), branch := [], hold := .none, fetchAt := s.cycle + 28 } }

/-- A handler that reaches 2,048 tile cycles from its first bundle ends (03 R117). -/
def class0Overrun (s : State) (p : PTile) : State :=
  match (tile s p).c0run with
  | some h => if (tile s p).inC0 && h.start + 2048 ≤ s.cycle then handlerFault s p cClass0Overrun 0 else s
  | none => s

/-- The doorbells due are delivered (03 R123). -/
def doorbellDelivery (s : State) (p : PTile) : State :=
  let due := (tile s p).bells.filter fun b => b.1 ≤ s.cycle
  if frozen s p || due.isEmpty then s else
  modTile s p fun t =>
    { t with
      bells := t.bells.filter fun b => s.cycle < b.1
      bellFrom := due.foldl (fun v b => v ||| BitVec.ofNat 64 (2 ^ (b.2 % 64))) t.bellFrom
      intPending := t.intPending ||| 0x800 }

/-- Issue resumes after a wait; one that issued alone lets the next bundle issue a cycle later (03 R110). -/
def release (now : Nat) (alone : Bool) (b : Bank) : Bank :=
  { b with hold := .none, fetchAt := if alone then max b.fetchAt (now + 1) else b.fetchAt }

/-- A held wait tests its condition: the channel idle, or the 64-bit word equal; a word with bad parity is CORE_PARITY (03 R83, R95; 07 R245; 09 R297). -/
def waitTest (s : State) (p : PTile) : State :=
  let t := tile s p
  match (bankOf t).hold with
  | .waitDma c _ alone =>
    if t.dma.ch[c].active.isNone && t.dma.ch[c].pend.isEmpty then modTile s p fun t => modBank t (release s.cycle alone) else s
  | .waitFlag expected addr _ alone =>
    match badByte t.coreBad addr.toNat 8 with
    | some b => opFault s p cCoreParity (coreGlobal t b)
    | none =>
      if leNat (memRead t.core addr.toNat 8) = expected.toNat then modTile s p fun t => modBank t (release s.cycle alone) else s
  | _ => s

/-- A held wait tests its condition in a cycle that the tile lives through, after the cycle of its issue (03 R83). -/
def waitRelease (s : State) (p : PTile) : State :=
  let t := tile s p
  if !tileLive s p || s.cycle < t.switchAt || t.entry.isSome || !betweenBundles s t || t.rerun then s else waitTest s p

/-- An issue of its own in an otherwise empty bundle (03 R83). -/
def issueAlone (s : State) (p : PTile) : State := modTile s p fun t => { t with issued := s.cycle + 1, lastIssue := s.cycle }

/-- A reissue of reti is due in the job's flow. -/
def reissueReady (s : State) (p : PTile) (at_ : Option Nat) : Bool :=
  let t := tile s p
  match at_ with
  | some c => c ≤ s.cycle && tileLive s p && !t.inC0 && t.switchAt ≤ s.cycle && t.entry.isNone && betweenBundles s t
  | none => false

/-- The wait held in INT_WAIT issues; its registers are resolved now. A condition that holds already releases it in this cycle, and the next bundle issues in the cycle after (03 R110). -/
def waitReissue (s : State) (p : PTile) : State :=
  let t := tile s p
  if !reissueReady s p t.reissueAt || t.vReissueAt.isSome then s else
  let w := t.intWait.toNat
  let s := issueAlone (modTile s p fun t => { t with reissueAt := none, job := { t.job with fetchAt := s.cycle + 1 } }) p
  if field 31 26 w = 0x13 then waitTest (issueOne p (opWaitDma p ⟨field 20 18 w % 8, by omega⟩ true) s) p
  else waitTest (issueOne p (opWaitFlag p ⟨field 25 20 w % 64, by omega⟩ ⟨field 19 17 w % 8, by omega⟩ true) s) p

/-- The vector operation in VRESUME.OP issues from element START on, clearing RP and START (04 R159). -/
def vectorReissue (s : State) (p : PTile) : State :=
  let t := tile s p
  if !reissueReady s p t.vReissueAt then s else
  let w : BitVec 32 := t.vresume.setWidth 32
  let start := field 40 32 t.vresume.toNat
  let s := issueAlone (modTile s p fun t => { t with vReissueAt := none, vresume := t.vresume &&& 0x7FFFFE00FFFFFFFF#64 }) p
  if vOpc w = 0 then s else issueOne p (opVFrom p w fun _ => start) s

/-- A Meadow slot in which the item met a parity error waits for its refill: no step re-runs before it (08 R260, R263). -/
def refillDue (s : State) (t : Tile) : Bool :=
  match t.run with
  | none => false
  | some r => (itemOf s r.item).parityAt.any fun a => meadowBase ≤ a && s.meadow.refills.contains ((a - meadowBase) / 128)

/-- A step re-run: VRESUME.RP is cleared and the step shadow restored (03 R106, 04 R163). -/
def stepRerun (s : State) (p : PTile) : State :=
  let t := tile s p
  match t.rerun && tileLive s p && !t.inC0 && t.switchAt ≤ s.cycle && !vecBusy s t && !refillDue s t, t.shadow with
  | true, some sh =>
    modTile s p fun t =>
      { t with
        rerun := false
        rot := sh.rot
        vresume := t.vresume &&& 0x7FFFFFFFFFFFFFFF#64
        job := { sh.bank with branch := [], hold := .none, fetchAt := s.cycle + 8 } }
  | _, _ => s


/-- WAIT_RELEASE: a held wait whose condition is met lets issue resume; a wait that reti reissued alone does so in the next tile cycle (03 R83, R110; 07 R245; 09 R297). -/
def execWaitRelease (p : PTile) (s : State) : Host.Outcome State Fault Refusal :=
  .next (waitRelease s p)

/-- WAIT_REISSUE: the wait held in INT_WAIT issues alone after reti (03 R110). -/
def execWaitReissue (p : PTile) (s : State) : Host.Outcome State Fault Refusal :=
  .next (waitReissue s p)

/-- VECTOR_REISSUE: the faulted vector operation issues alone after reti, from START on (04 R159). -/
def execVectorReissue (p : PTile) (s : State) : Host.Outcome State Fault Refusal :=
  .next (vectorReissue s p)

/-- INTERRUPT_ENTRY: entry of an interrupt at a dispatch point (03 R108). -/
def execInterruptEntry (p : PTile) (s : State) : Host.Outcome State Fault Refusal :=
  .next (interruptEntry s p)

/-- CLASS0_TRIGGER_DELIVERY: the triggers due reach class-0 control in ascending source id, the system controller last; a handler the plan does not give is dropped and counted; the wake of a tile not in Run goes ahead (17 R539) (02 R69, 03 R115). -/
def execClass0TriggerDelivery (p : PTile) (s : State) : Host.Outcome State Fault Refusal :=
  .next (triggerDelivery s p)

/-- CLASS0_DISPATCH: the tile switches to its class-0 bank and starts the first waiting handler (02 R70, R71; 03 R115). -/
def execClass0Dispatch (p : PTile) (s : State) : Host.Outcome State Fault Refusal :=
  .next (class0Dispatch s p)

/-- CLASS0_OVERRUN: a handler that has run 2,048 tile cycles ends with CLASS0_OVERRUN (03 R117). -/
def execClass0Overrun (p : PTile) (s : State) : Host.Outcome State Fault Refusal :=
  .next (class0Overrun s p)

/-- DOORBELL_DELIVERY: the doorbells due set BELL_FROM bits together and INT_PENDING bit 11 (03 R123). -/
def execDoorbellDelivery (p : PTile) (s : State) : Host.Outcome State Fault Refusal :=
  .next (doorbellDelivery s p)

/-- STEP_RERUN: with every vector operation landed the step shadow is restored, and the bundle at its address issues 8 tile cycles on (03 R106, 04 R163). -/
def execStepRerun (p : PTile) (s : State) : Host.Outcome State Fault Refusal :=
  .next (stepRerun s p)

end Sys2Proof.Machine
end

