-- ==== Sys2Proof/Machine/Scalar.lean ====
section
/-! DEFINITION. The operations of the A, L and M slots of the pixel core (03 R89 to R100, R120, R121). -/

namespace Sys2Proof.Machine

open Sys2Proof

/-- An operation of an A slot: its result lands in d with latency 1 (03 R120). -/
def opA (p : PTile) (d : Fin 64) (names : List (Fin 64)) (f : Tile → Word) : TileOp :=
  { names := d :: names, dests := [.g d], act := fun s => modTile s p fun t => landG t s.cycle 1 d (f t) (residue3 (f t)) }

/-- A two-source operation of an A slot. -/
def opA2 (p : PTile) (d a b : Fin 64) (f : Word → Word → Word) : TileOp :=
  opA p d [a, b] fun t => f (gVal t a) (gVal t b)

/-- An immediate operation of an A slot; the immediate is sign-extended (03 R78). -/
def opAI (p : PTile) (d a : Fin 64) (imm : BitVec 14) (f : Word → Word → Word) : TileOp :=
  opA p d [a] fun t => f (gVal t a) (imm.signExtend 64)

/-- A shift by immediate bits [5:0]; bits [13:6] must be 0 (03 R121). -/
def opAShift (p : PTile) (d a : Fin 64) (imm : BitVec 14) (f : Word → Nat → Word) : TileOp :=
  { opA p d [a] (fun t => f (gVal t a) (field 5 0 imm.toNat)) with illegal := fun _ => 64 ≤ imm.toNat }

/-- 1 or 0. -/
def flagWord (b : Bool) : Word := if b then 1 else 0

/-- Four bytes formed from the low four bytes of each source; every other bit 0 (03 R120). -/
def bytes4 (f : Nat → Nat → Nat) (x y : Word) : Word :=
  BitVec.ofNat 64 ((List.range 4).foldl (fun acc i => acc + f (field (8 * i + 7) (8 * i) x.toNat) (field (8 * i + 7) (8 * i) y.toNat) * 2 ^ (8 * i)) 0)

/-- The sum of the four absolute byte differences (03 R120). -/
def sad4 (x y : Word) : Word :=
  BitVec.ofNat 64 ((List.range 4).foldl (fun acc i =>
    acc + ((field (8 * i + 7) (8 * i) x.toNat : Int) - (field (8 * i + 7) (8 * i) y.toNat : Int)).natAbs) 0)

/-- The signed absolute value; the spec states none for the most negative number, a free value (notes/assumptions/19.md). -/
def wAbs (x : Word) : Word := if x = BitVec.intMin 64 then Config.absOfMin else if x.toInt < 0 then -x else x

/-- min(max(x, lo), hi) with lo and hi packed in the second source (03 R120). -/
def wClamp (x y : Word) : Word :=
  let lo := (y.setWidth 32).signExtend 64
  let hi := ((y >>> 32).setWidth 32).signExtend 64
  let m := if x.toInt < lo.toInt then lo else x
  if hi.toInt < m.toInt then hi else m

/-- Bits [14n + 13 : 14n] replaced by the immediate; bits above 63 are dropped (03 R121). -/
def wMovi (n : Nat) (x : Word) (imm : BitVec 14) : Word :=
  (x &&& ~~~((0x3FFF#64) <<< (14 * n))) ||| ((imm.setWidth 64) <<< (14 * n))

/-- A load value: n bytes, sign- or zero-extended (03 R120). -/
def loadValue (n : Nat) (sgn : Bool) (bs : List Byte) : Word :=
  if sgn then BitVec.ofInt 64 (signedOf (8 * n) (leNat bs)) else BitVec.ofNat 64 (leNat bs)

/-- A load through an L slot: the value as the issue cycle finds it lands with latency 5, a new an with latency 1 (03 R91, R94, R120). -/
def opLoad (p : PTile) (port : Fin 2) (n : Nat) (sgn : Bool) (d : Fin 64) (a : Fin 8) (m : LMode) : TileOp :=
  { names := d :: lNames m
    dests := .g d :: lDests a m
    port := port.val + 1
    conflict := fun s => port.val = 0 && (tile s p).port0.contains s.cycle
    illegal := fun _ => match m with | .update _ => true | _ => false
    check := fun s => coreFault (tile s p) (aHigh (tile s p) a) (lEa (tile s p) a m) n false
    act := fun s => modTile s p fun t =>
      let t := landG t s.cycle 5 d (loadValue n sgn (memRead t.core (lEa t a m) n))
      let t := lUpdate t s.cycle a m
      if port.val = 1 then { t with l1Used := s.cycle + 1 } else t }

/-- The bytes a store logs: as fetch still sees them for twelve cycles (03 R94). -/
def logOld (t : Tile) (now ea n : Nat) : Tile :=
  { t with fetchLog := (t.fetchLog.filter fun o => now < o.at_ + 12) ++
      (List.range n).map fun i => { addr := ea + i, old := memGet t.core (ea + i), at_ := now } }

/-- A store through an L slot: its bytes take effect at the end of the cycle, those of L1 over those of L0; a class-0 store outside the window is suppressed and counted (03 R94, R114). -/
def opStore (p : PTile) (port : Fin 2) (n : Nat) (d : Fin 64) (a : Fin 8) (m : LMode) : TileOp :=
  { names := d :: lNames m
    dests := lDests a m
    port := port.val + 1
    conflict := fun s => port.val = 0 && (tile s p).port0.contains s.cycle
    illegal := fun _ => match m with | .update _ => true | _ => false
    check := fun s => coreFault (tile s p) (aHigh (tile s p) a) (lEa (tile s p) a m) n true
    act := fun s =>
      let t := tile s p
      let ea := lEa t a m
      let suppressed := t.inC0 && !inWindow t ea n
      let s := if suppressed then roAdd s (oTileClass0Suppressed p.val) 1 else s
      modTile s p fun t =>
        let t' := if suppressed then { t with c0run := t.c0run.map fun h => { h with suppressed := true, emitAfter := h.emitAfter && h.suppressed } }
          else { logOld t s.cycle ea n with commits := t.commits ++ [{ space := .core, addr := ea, bytes := leBytes n (gVal t d).toNat, rank := port.val }] }
        let t' := lUpdate t' s.cycle a m
        if port.val = 1 then { t' with l1Used := s.cycle + 1 } else t' }

/-- An operation of an M slot with a general destination, latency l, and sticky bits for DSP_STATUS (03 R98, R100). -/
def opMG (p : PTile) (d : Fin 64) (names : List (Fin 64)) (l : Nat) (f : Tile → Word × BitVec 32) : TileOp :=
  { names := d :: names, dests := [.g d]
    act := fun s => modTile s p fun t => landDsp (landG t s.cycle l d (f t).1 (residue3 (f t).1)) s.cycle l (f t).2 }

/-- An operation of an M slot with an accumulator destination: the exact value is kept to 72 bits, and OVF is set when it leaves them (03 R96, R99). -/
def opMAcc (p : PTile) (n : Fin 4) (names : List (Fin 64)) (la lr : Nat) (f : Tile → Int) : TileOp :=
  { names := names, dests := [.acc n]
    act := fun s => modTile s p fun t =>
      let r := toAcc (f t)
      landDsp (landAcc t s.cycle la lr n r.1) s.cycle la (if r.2 then dspOvf else 0) }

/-- One operand part of w bits at position i, signed or unsigned. -/
def partInt (sgn : Bool) (w i : Nat) (x : Word) : Int :=
  let f := field (w * i + w - 1) (w * i) x.toNat
  if sgn then signedOf w f else f

/-- The exact sum of k products of w-bit parts; sub 0 signed, 1 unsigned, 2 signed with each product shifted left by 1 (03 R121). -/
def macTerm (w k sub : Nat) (x y : Word) : Int :=
  (List.range k).foldl (fun acc i =>
    let m := partInt (sub != 1) w i x * partInt (sub != 1) w i y
    acc + (if sub = 2 then 2 * m else m)) 0

/-- A mac-class operation: it sees an accumulator with latency 1, every other read with latency 3 (03 R96). -/
def opMacc (p : PTile) (n : Fin 4) (a b : Fin 64) (sub : BitVec 2) (maxSub w k : Nat) (sign : Int) : TileOp :=
  { opMAcc p n [a, b] 1 3 (fun t => (bankOf t).accm[n].toInt + sign * macTerm w k sub.toNat (gVal t a) (gVal t b)) with
    illegal := fun _ => maxSub < sub.toNat }

/-- The bits below bit 71 that equal bit 71, counted from the top (03 R100). -/
def norm72 (x : BitVec 72) : Nat :=
  let v := if x.toInt < 0 then (-x.toInt - 1).toNat else x.toNat
  71 - (if v = 0 then 0 else v.log2 + 1)

/-- Bits [31:0] of a value shifted so that no exact power grows beyond what 72 bits can show. -/
def accShift (rnd : Nat) (x : BitVec 72) (k : Word) : Int :=
  shiftBy rnd x.toInt (if k.toInt < -200 then -200 else if 200 < k.toInt then 200 else k.toInt)

/-- acc.mv's value at width w (03 R98). -/
def accMove (t : Tile) (x : BitVec 72) (shift : BitVec 6) (w : Nat) : Word × BitVec 32 :=
  let d := (bankOf t).dsp
  let r := fitMove (dspSat d) w (shiftBy (dspRnd d) x.toInt (shift.toInt + dspScale d))
  (r.1, if r.2 then dspSatf else 0)

/-- 64-bit sum (03 R120, R121). -/
def opAdd (p : PTile) (d : Fin 64) (a : Fin 64) (b : Fin 64) : TileOp :=
  opA2 p d a b ((· + ·))

/-- ADD issues alone on tile p: 64-bit sum (03 R120, R121). -/
def execAdd (p : PTile) (d : Fin 64) (a : Fin 64) (b : Fin 64) (s : State) : Host.Outcome State Fault Refusal :=
  .next (issueOne p (opAdd p d a b) s)

/-- 64-bit difference (03 R120, R121). -/
def opSub (p : PTile) (d : Fin 64) (a : Fin 64) (b : Fin 64) : TileOp :=
  opA2 p d a b ((· - ·))

/-- SUB issues alone on tile p: 64-bit difference (03 R120, R121). -/
def execSub (p : PTile) (d : Fin 64) (a : Fin 64) (b : Fin 64) (s : State) : Host.Outcome State Fault Refusal :=
  .next (issueOne p (opSub p d a b) s)

/-- bitwise AND (03 R120, R121). -/
def opAnd (p : PTile) (d : Fin 64) (a : Fin 64) (b : Fin 64) : TileOp :=
  opA2 p d a b ((· &&& ·))

/-- AND issues alone on tile p: bitwise AND (03 R120, R121). -/
def execAnd (p : PTile) (d : Fin 64) (a : Fin 64) (b : Fin 64) (s : State) : Host.Outcome State Fault Refusal :=
  .next (issueOne p (opAnd p d a b) s)

/-- bitwise OR (03 R120, R121). -/
def opOr (p : PTile) (d : Fin 64) (a : Fin 64) (b : Fin 64) : TileOp :=
  opA2 p d a b ((· ||| ·))

/-- OR issues alone on tile p: bitwise OR (03 R120, R121). -/
def execOr (p : PTile) (d : Fin 64) (a : Fin 64) (b : Fin 64) (s : State) : Host.Outcome State Fault Refusal :=
  .next (issueOne p (opOr p d a b) s)

/-- bitwise XOR (03 R120, R121). -/
def opXor (p : PTile) (d : Fin 64) (a : Fin 64) (b : Fin 64) : TileOp :=
  opA2 p d a b ((· ^^^ ·))

/-- XOR issues alone on tile p: bitwise XOR (03 R120, R121). -/
def execXor (p : PTile) (d : Fin 64) (a : Fin 64) (b : Fin 64) (s : State) : Host.Outcome State Fault Refusal :=
  .next (issueOne p (opXor p d a b) s)

/-- shift left by source 2 bits [5:0] (03 R120, R121). -/
def opShl (p : PTile) (d : Fin 64) (a : Fin 64) (b : Fin 64) : TileOp :=
  opA2 p d a b (fun x y => x <<< (y.toNat % 64))

/-- SHL issues alone on tile p: shift left by source 2 bits [5:0] (03 R120, R121). -/
def execShl (p : PTile) (d : Fin 64) (a : Fin 64) (b : Fin 64) (s : State) : Host.Outcome State Fault Refusal :=
  .next (issueOne p (opShl p d a b) s)

/-- logical shift right by source 2 bits [5:0] (03 R120, R121). -/
def opShr (p : PTile) (d : Fin 64) (a : Fin 64) (b : Fin 64) : TileOp :=
  opA2 p d a b (fun x y => x >>> (y.toNat % 64))

/-- SHR issues alone on tile p: logical shift right by source 2 bits [5:0] (03 R120, R121). -/
def execShr (p : PTile) (d : Fin 64) (a : Fin 64) (b : Fin 64) (s : State) : Host.Outcome State Fault Refusal :=
  .next (issueOne p (opShr p d a b) s)

/-- arithmetic shift right by source 2 bits [5:0] (03 R120, R121). -/
def opSar (p : PTile) (d : Fin 64) (a : Fin 64) (b : Fin 64) : TileOp :=
  opA2 p d a b (fun x y => x.sshiftRight (y.toNat % 64))

/-- SAR issues alone on tile p: arithmetic shift right by source 2 bits [5:0] (03 R120, R121). -/
def execSar (p : PTile) (d : Fin 64) (a : Fin 64) (b : Fin 64) (s : State) : Host.Outcome State Fault Refusal :=
  .next (issueOne p (opSar p d a b) s)

/-- signed minimum (03 R120, R121). -/
def opMin (p : PTile) (d : Fin 64) (a : Fin 64) (b : Fin 64) : TileOp :=
  opA2 p d a b (fun x y => if x.toInt ≤ y.toInt then x else y)

/-- MIN issues alone on tile p: signed minimum (03 R120, R121). -/
def execMin (p : PTile) (d : Fin 64) (a : Fin 64) (b : Fin 64) (s : State) : Host.Outcome State Fault Refusal :=
  .next (issueOne p (opMin p d a b) s)

/-- signed maximum (03 R120, R121). -/
def opMax (p : PTile) (d : Fin 64) (a : Fin 64) (b : Fin 64) : TileOp :=
  opA2 p d a b (fun x y => if x.toInt ≤ y.toInt then y else x)

/-- MAX issues alone on tile p: signed maximum (03 R120, R121). -/
def execMax (p : PTile) (d : Fin 64) (a : Fin 64) (b : Fin 64) (s : State) : Host.Outcome State Fault Refusal :=
  .next (issueOne p (opMax p d a b) s)

/-- 1 when equal (03 R120, R121). -/
def opCmpEq (p : PTile) (d : Fin 64) (a : Fin 64) (b : Fin 64) : TileOp :=
  opA2 p d a b (fun x y => flagWord (x == y))

/-- CMP_EQ issues alone on tile p: 1 when equal (03 R120, R121). -/
def execCmpEq (p : PTile) (d : Fin 64) (a : Fin 64) (b : Fin 64) (s : State) : Host.Outcome State Fault Refusal :=
  .next (issueOne p (opCmpEq p d a b) s)

/-- 1 when signed less (03 R120, R121). -/
def opCmpLt (p : PTile) (d : Fin 64) (a : Fin 64) (b : Fin 64) : TileOp :=
  opA2 p d a b (fun x y => flagWord (decide (x.toInt < y.toInt)))

/-- CMP_LT issues alone on tile p: 1 when signed less (03 R120, R121). -/
def execCmpLt (p : PTile) (d : Fin 64) (a : Fin 64) (b : Fin 64) (s : State) : Host.Outcome State Fault Refusal :=
  .next (issueOne p (opCmpLt p d a b) s)

/-- 1 when unsigned less (03 R120, R121). -/
def opCmpLtu (p : PTile) (d : Fin 64) (a : Fin 64) (b : Fin 64) : TileOp :=
  opA2 p d a b (fun x y => flagWord (decide (x.toNat < y.toNat)))

/-- CMP_LTU issues alone on tile p: 1 when unsigned less (03 R120, R121). -/
def execCmpLtu (p : PTile) (d : Fin 64) (a : Fin 64) (b : Fin 64) (s : State) : Host.Outcome State Fault Refusal :=
  .next (issueOne p (opCmpLtu p d a b) s)

/-- Signed absolute value of source 1 (03 R120, R121). -/
def opAbs (p : PTile) (d : Fin 64) (a : Fin 64) : TileOp :=
  opA p d [a] fun t => wAbs (gVal t a)

/-- ABS issues alone on tile p: Signed absolute value of source 1 (03 R120, R121). -/
def execAbs (p : PTile) (d : Fin 64) (a : Fin 64) (s : State) : Host.Outcome State Fault Refusal :=
  .next (issueOne p (opAbs p d a) s)

/-- Source 1 when the condition register is not 0, else source 2 (03 R121). -/
def opSel (p : PTile) (d : Fin 64) (a : Fin 64) (b : Fin 64) (c : Fin 64) : TileOp :=
  opA p d [a, b, c] fun t => if gVal t c = 0 then gVal t b else gVal t a

/-- SEL issues alone on tile p: Source 1 when the condition register is not 0, else source 2 (03 R121). -/
def execSel (p : PTile) (d : Fin 64) (a : Fin 64) (b : Fin 64) (c : Fin 64) (s : State) : Host.Outcome State Fault Refusal :=
  .next (issueOne p (opSel p d a b c) s)

/-- Clamps source 1 between the limits packed in source 2 (03 R120). -/
def opClamp (p : PTile) (d : Fin 64) (a : Fin 64) (b : Fin 64) : TileOp :=
  opA2 p d a b wClamp

/-- CLAMP issues alone on tile p: Clamps source 1 between the limits packed in source 2 (03 R120). -/
def execClamp (p : PTile) (d : Fin 64) (a : Fin 64) (b : Fin 64) (s : State) : Host.Outcome State Fault Refusal :=
  .next (issueOne p (opClamp p d a b) s)

/-- Four unsigned saturating byte sums (03 R120). -/
def opAdd4Bu (p : PTile) (d : Fin 64) (a : Fin 64) (b : Fin 64) : TileOp :=
  opA2 p d a b (bytes4 fun x y => min 255 (x + y))

/-- ADD4_BU issues alone on tile p: Four unsigned saturating byte sums (03 R120). -/
def execAdd4Bu (p : PTile) (d : Fin 64) (a : Fin 64) (b : Fin 64) (s : State) : Host.Outcome State Fault Refusal :=
  .next (issueOne p (opAdd4Bu p d a b) s)

/-- Four unsigned byte means, halves rounded up (03 R120). -/
def opAvg4Bu (p : PTile) (d : Fin 64) (a : Fin 64) (b : Fin 64) : TileOp :=
  opA2 p d a b (bytes4 fun x y => (x + y + 1) / 2)

/-- AVG4_BU issues alone on tile p: Four unsigned byte means, halves rounded up (03 R120). -/
def execAvg4Bu (p : PTile) (d : Fin 64) (a : Fin 64) (b : Fin 64) (s : State) : Host.Outcome State Fault Refusal :=
  .next (issueOne p (opAvg4Bu p d a b) s)

/-- Sum of four absolute byte differences (03 R120). -/
def opSad4Bu (p : PTile) (d : Fin 64) (a : Fin 64) (b : Fin 64) : TileOp :=
  opA2 p d a b sad4

/-- SAD4_BU issues alone on tile p: Sum of four absolute byte differences (03 R120). -/
def execSad4Bu (p : PTile) (d : Fin 64) (a : Fin 64) (b : Fin 64) (s : State) : Host.Outcome State Fault Refusal :=
  .next (issueOne p (opSad4Bu p d a b) s)

/-- Sum with the immediate (03 R121). -/
def opAddi (p : PTile) (d : Fin 64) (a : Fin 64) (imm : BitVec 14) : TileOp :=
  opAI p d a imm ((· + ·))

/-- ADDI issues alone on tile p: Sum with the immediate (03 R121). -/
def execAddi (p : PTile) (d : Fin 64) (a : Fin 64) (imm : BitVec 14) (s : State) : Host.Outcome State Fault Refusal :=
  .next (issueOne p (opAddi p d a imm) s)

/-- AND with the immediate (03 R121). -/
def opAndi (p : PTile) (d : Fin 64) (a : Fin 64) (imm : BitVec 14) : TileOp :=
  opAI p d a imm ((· &&& ·))

/-- ANDI issues alone on tile p: AND with the immediate (03 R121). -/
def execAndi (p : PTile) (d : Fin 64) (a : Fin 64) (imm : BitVec 14) (s : State) : Host.Outcome State Fault Refusal :=
  .next (issueOne p (opAndi p d a imm) s)

/-- OR with the immediate (03 R121). -/
def opOri (p : PTile) (d : Fin 64) (a : Fin 64) (imm : BitVec 14) : TileOp :=
  opAI p d a imm ((· ||| ·))

/-- ORI issues alone on tile p: OR with the immediate (03 R121). -/
def execOri (p : PTile) (d : Fin 64) (a : Fin 64) (imm : BitVec 14) (s : State) : Host.Outcome State Fault Refusal :=
  .next (issueOne p (opOri p d a imm) s)

/-- XOR with the immediate (03 R121). -/
def opXori (p : PTile) (d : Fin 64) (a : Fin 64) (imm : BitVec 14) : TileOp :=
  opAI p d a imm ((· ^^^ ·))

/-- XORI issues alone on tile p: XOR with the immediate (03 R121). -/
def execXori (p : PTile) (d : Fin 64) (a : Fin 64) (imm : BitVec 14) (s : State) : Host.Outcome State Fault Refusal :=
  .next (issueOne p (opXori p d a imm) s)

/-- Shift left by immediate bits [5:0] (03 R121). -/
def opShli (p : PTile) (d : Fin 64) (a : Fin 64) (imm : BitVec 14) : TileOp :=
  opAShift p d a imm ((· <<< ·))

/-- SHLI issues alone on tile p: Shift left by immediate bits [5:0] (03 R121). -/
def execShli (p : PTile) (d : Fin 64) (a : Fin 64) (imm : BitVec 14) (s : State) : Host.Outcome State Fault Refusal :=
  .next (issueOne p (opShli p d a imm) s)

/-- Logical shift right by immediate bits [5:0] (03 R121). -/
def opShri (p : PTile) (d : Fin 64) (a : Fin 64) (imm : BitVec 14) : TileOp :=
  opAShift p d a imm ((· >>> ·))

/-- SHRI issues alone on tile p: Logical shift right by immediate bits [5:0] (03 R121). -/
def execShri (p : PTile) (d : Fin 64) (a : Fin 64) (imm : BitVec 14) (s : State) : Host.Outcome State Fault Refusal :=
  .next (issueOne p (opShri p d a imm) s)

/-- Arithmetic shift right by immediate bits [5:0] (03 R121). -/
def opSari (p : PTile) (d : Fin 64) (a : Fin 64) (imm : BitVec 14) : TileOp :=
  opAShift p d a imm (fun x n => x.sshiftRight n)

/-- SARI issues alone on tile p: Arithmetic shift right by immediate bits [5:0] (03 R121). -/
def execSari (p : PTile) (d : Fin 64) (a : Fin 64) (imm : BitVec 14) (s : State) : Host.Outcome State Fault Refusal :=
  .next (issueOne p (opSari p d a imm) s)

/-- 1 when source 1 equals the sign-extended immediate (03 R121). -/
def opCmpiEq (p : PTile) (d : Fin 64) (a : Fin 64) (imm : BitVec 14) : TileOp :=
  opAI p d a imm (fun x y => flagWord (x == y))

/-- CMPI_EQ issues alone on tile p: 1 when source 1 equals the sign-extended immediate (03 R121). -/
def execCmpiEq (p : PTile) (d : Fin 64) (a : Fin 64) (imm : BitVec 14) (s : State) : Host.Outcome State Fault Refusal :=
  .next (issueOne p (opCmpiEq p d a imm) s)

/-- 1 when source 1 is signed less than the immediate (03 R121). -/
def opCmpiLt (p : PTile) (d : Fin 64) (a : Fin 64) (imm : BitVec 14) : TileOp :=
  opAI p d a imm (fun x y => flagWord (decide (x.toInt < y.toInt)))

/-- CMPI_LT issues alone on tile p: 1 when source 1 is signed less than the immediate (03 R121). -/
def execCmpiLt (p : PTile) (d : Fin 64) (a : Fin 64) (imm : BitVec 14) (s : State) : Host.Outcome State Fault Refusal :=
  .next (issueOne p (opCmpiLt p d a imm) s)

/-- 1 when source 1 is unsigned less than the sign-extended immediate (03 R121). -/
def opCmpiLtu (p : PTile) (d : Fin 64) (a : Fin 64) (imm : BitVec 14) : TileOp :=
  opAI p d a imm (fun x y => flagWord (decide (x.toNat < y.toNat)))

/-- CMPI_LTU issues alone on tile p: 1 when source 1 is unsigned less than the sign-extended immediate (03 R121). -/
def execCmpiLtu (p : PTile) (d : Fin 64) (a : Fin 64) (imm : BitVec 14) (s : State) : Host.Outcome State Fault Refusal :=
  .next (issueOne p (opCmpiLtu p d a imm) s)

/-- The immediate, sign-extended (03 R121). -/
def opMovi0 (p : PTile) (d : Fin 64) (imm : BitVec 14) : TileOp :=
  opA p d [] fun _ => imm.signExtend 64

/-- MOVI_0 issues alone on tile p: The immediate, sign-extended (03 R121). -/
def execMovi0 (p : PTile) (d : Fin 64) (imm : BitVec 14) (s : State) : Host.Outcome State Fault Refusal :=
  .next (issueOne p (opMovi0 p d imm) s)

/-- Source 1 with bits [14p + 13:14p] replaced for p = 1 (03 R121). -/
def opMovi1 (p : PTile) (d : Fin 64) (a : Fin 64) (imm : BitVec 14) : TileOp :=
  opA p d [a] fun t => wMovi 1 (gVal t a) imm

/-- MOVI_1 issues alone on tile p: Source 1 with bits [14p + 13:14p] replaced for p = 1 (03 R121). -/
def execMovi1 (p : PTile) (d : Fin 64) (a : Fin 64) (imm : BitVec 14) (s : State) : Host.Outcome State Fault Refusal :=
  .next (issueOne p (opMovi1 p d a imm) s)

/-- Source 1 with bits [14p + 13:14p] replaced for p = 2 (03 R121). -/
def opMovi2 (p : PTile) (d : Fin 64) (a : Fin 64) (imm : BitVec 14) : TileOp :=
  opA p d [a] fun t => wMovi 2 (gVal t a) imm

/-- MOVI_2 issues alone on tile p: Source 1 with bits [14p + 13:14p] replaced for p = 2 (03 R121). -/
def execMovi2 (p : PTile) (d : Fin 64) (a : Fin 64) (imm : BitVec 14) (s : State) : Host.Outcome State Fault Refusal :=
  .next (issueOne p (opMovi2 p d a imm) s)

/-- Source 1 with bits [14p + 13:14p] replaced for p = 3 (03 R121). -/
def opMovi3 (p : PTile) (d : Fin 64) (a : Fin 64) (imm : BitVec 14) : TileOp :=
  opA p d [a] fun t => wMovi 3 (gVal t a) imm

/-- MOVI_3 issues alone on tile p: Source 1 with bits [14p + 13:14p] replaced for p = 3 (03 R121). -/
def execMovi3 (p : PTile) (d : Fin 64) (a : Fin 64) (imm : BitVec 14) (s : State) : Host.Outcome State Fault Refusal :=
  .next (issueOne p (opMovi3 p d a imm) s)

/-- Source 1 with bits [14p + 13:14p] replaced for p = 4 (03 R121). -/
def opMovi4 (p : PTile) (d : Fin 64) (a : Fin 64) (imm : BitVec 14) : TileOp :=
  opA p d [a] fun t => wMovi 4 (gVal t a) imm

/-- MOVI_4 issues alone on tile p: Source 1 with bits [14p + 13:14p] replaced for p = 4 (03 R121). -/
def execMovi4 (p : PTile) (d : Fin 64) (a : Fin 64) (imm : BitVec 14) (s : State) : Host.Outcome State Fault Refusal :=
  .next (issueOne p (opMovi4 p d a imm) s)

/-- Loads a sign-extended byte through L0 or L1 (03 R120). -/
def opLdB (p : PTile) (port : Fin 2) (d : Fin 64) (a : Fin 8) (m : LMode) : TileOp :=
  opLoad p port 1 true d a m

/-- LD_B issues alone on tile p: Loads a sign-extended byte through L0 or L1 (03 R120). -/
def execLdB (p : PTile) (port : Fin 2) (d : Fin 64) (a : Fin 8) (m : LMode) (s : State) : Host.Outcome State Fault Refusal :=
  .next (issueOne p (opLdB p port d a m) s)

/-- Loads a zero-extended byte through L0 or L1 (03 R120). -/
def opLdBu (p : PTile) (port : Fin 2) (d : Fin 64) (a : Fin 8) (m : LMode) : TileOp :=
  opLoad p port 1 false d a m

/-- LD_BU issues alone on tile p: Loads a zero-extended byte through L0 or L1 (03 R120). -/
def execLdBu (p : PTile) (port : Fin 2) (d : Fin 64) (a : Fin 8) (m : LMode) (s : State) : Host.Outcome State Fault Refusal :=
  .next (issueOne p (opLdBu p port d a m) s)

/-- Loads a sign-extended 16-bit value through L0 or L1 (03 R120). -/
def opLdH (p : PTile) (port : Fin 2) (d : Fin 64) (a : Fin 8) (m : LMode) : TileOp :=
  opLoad p port 2 true d a m

/-- LD_H issues alone on tile p: Loads a sign-extended 16-bit value through L0 or L1 (03 R120). -/
def execLdH (p : PTile) (port : Fin 2) (d : Fin 64) (a : Fin 8) (m : LMode) (s : State) : Host.Outcome State Fault Refusal :=
  .next (issueOne p (opLdH p port d a m) s)

/-- Loads a zero-extended 16-bit value through L0 or L1 (03 R120). -/
def opLdHu (p : PTile) (port : Fin 2) (d : Fin 64) (a : Fin 8) (m : LMode) : TileOp :=
  opLoad p port 2 false d a m

/-- LD_HU issues alone on tile p: Loads a zero-extended 16-bit value through L0 or L1 (03 R120). -/
def execLdHu (p : PTile) (port : Fin 2) (d : Fin 64) (a : Fin 8) (m : LMode) (s : State) : Host.Outcome State Fault Refusal :=
  .next (issueOne p (opLdHu p port d a m) s)

/-- Loads a sign-extended 32-bit value through L0 or L1 (03 R120). -/
def opLdW (p : PTile) (port : Fin 2) (d : Fin 64) (a : Fin 8) (m : LMode) : TileOp :=
  opLoad p port 4 true d a m

/-- LD_W issues alone on tile p: Loads a sign-extended 32-bit value through L0 or L1 (03 R120). -/
def execLdW (p : PTile) (port : Fin 2) (d : Fin 64) (a : Fin 8) (m : LMode) (s : State) : Host.Outcome State Fault Refusal :=
  .next (issueOne p (opLdW p port d a m) s)

/-- Loads a zero-extended 32-bit value through L0 or L1 (03 R120). -/
def opLdWu (p : PTile) (port : Fin 2) (d : Fin 64) (a : Fin 8) (m : LMode) : TileOp :=
  opLoad p port 4 false d a m

/-- LD_WU issues alone on tile p: Loads a zero-extended 32-bit value through L0 or L1 (03 R120). -/
def execLdWu (p : PTile) (port : Fin 2) (d : Fin 64) (a : Fin 8) (m : LMode) (s : State) : Host.Outcome State Fault Refusal :=
  .next (issueOne p (opLdWu p port d a m) s)

/-- Loads a 64-bit value through L0 or L1 (03 R120). -/
def opLdD (p : PTile) (port : Fin 2) (d : Fin 64) (a : Fin 8) (m : LMode) : TileOp :=
  opLoad p port 8 false d a m

/-- LD_D issues alone on tile p: Loads a 64-bit value through L0 or L1 (03 R120). -/
def execLdD (p : PTile) (port : Fin 2) (d : Fin 64) (a : Fin 8) (m : LMode) (s : State) : Host.Outcome State Fault Refusal :=
  .next (issueOne p (opLdD p port d a m) s)

/-- Stores the low 1 bytes of d through L0 or L1 (03 R94, R120). -/
def opStB (p : PTile) (port : Fin 2) (d : Fin 64) (a : Fin 8) (m : LMode) : TileOp :=
  opStore p port 1 d a m

/-- ST_B issues alone on tile p: Stores the low 1 bytes of d through L0 or L1 (03 R94, R120). -/
def execStB (p : PTile) (port : Fin 2) (d : Fin 64) (a : Fin 8) (m : LMode) (s : State) : Host.Outcome State Fault Refusal :=
  .next (issueOne p (opStB p port d a m) s)

/-- Stores the low 2 bytes of d through L0 or L1 (03 R94, R120). -/
def opStH (p : PTile) (port : Fin 2) (d : Fin 64) (a : Fin 8) (m : LMode) : TileOp :=
  opStore p port 2 d a m

/-- ST_H issues alone on tile p: Stores the low 2 bytes of d through L0 or L1 (03 R94, R120). -/
def execStH (p : PTile) (port : Fin 2) (d : Fin 64) (a : Fin 8) (m : LMode) (s : State) : Host.Outcome State Fault Refusal :=
  .next (issueOne p (opStH p port d a m) s)

/-- Stores the low 4 bytes of d through L0 or L1 (03 R94, R120). -/
def opStW (p : PTile) (port : Fin 2) (d : Fin 64) (a : Fin 8) (m : LMode) : TileOp :=
  opStore p port 4 d a m

/-- ST_W issues alone on tile p: Stores the low 4 bytes of d through L0 or L1 (03 R94, R120). -/
def execStW (p : PTile) (port : Fin 2) (d : Fin 64) (a : Fin 8) (m : LMode) (s : State) : Host.Outcome State Fault Refusal :=
  .next (issueOne p (opStW p port d a m) s)

/-- Stores the low 8 bytes of d through L0 or L1 (03 R94, R120). -/
def opStD (p : PTile) (port : Fin 2) (d : Fin 64) (a : Fin 8) (m : LMode) : TileOp :=
  opStore p port 8 d a m

/-- ST_D issues alone on tile p: Stores the low 8 bytes of d through L0 or L1 (03 R94, R120). -/
def execStD (p : PTile) (port : Fin 2) (d : Fin 64) (a : Fin 8) (m : LMode) (s : State) : Host.Outcome State Fault Refusal :=
  .next (issueOne p (opStD p port d a m) s)

/-- Address update without an access, mode 0b100 (03 R91, R121). -/
def opAupd (p : PTile) (_port : Fin 2) (a : Fin 8) (inc : BitVec 14) : TileOp :=
  { dests := [.a a], act := fun s => modTile s p fun t => lUpdate t s.cycle a (.update inc) }

/-- AUPD issues alone on tile p: Address update without an access, mode 0b100 (03 R91, R121). -/
def execAupd (p : PTile) (port : Fin 2) (a : Fin 8) (inc : BitVec 14) (s : State) : Host.Outcome State Fault Refusal :=
  .next (issueOne p (opAupd p port a inc) s)

/-- an takes bits [31:0] of the data g (03 R121). -/
def opMva (p : PTile) (_port : Fin 2) (d : Fin 64) (a : Fin 8) : TileOp :=
  { names := [d], dests := [.a a], act := fun s => modTile s p fun t => land t s.cycle 1 (.aReg t.inC0 a ((gVal t d).setWidth 32)) }

/-- MVA issues alone on tile p: an takes bits [31:0] of the data g (03 R121). -/
def execMva (p : PTile) (port : Fin 2) (d : Fin 64) (a : Fin 8) (s : State) : Host.Outcome State Fault Refusal :=
  .next (issueOne p (opMva p port d a) s)

/-- The data g takes an, zero-extended (03 R121). -/
def opMvg (p : PTile) (_port : Fin 2) (d : Fin 64) (a : Fin 8) : TileOp :=
  { names := [d], dests := [.g d], act := fun s => modTile s p fun t => landG t s.cycle 1 d ((aVal t a).setWidth 64) }

/-- MVG issues alone on tile p: The data g takes an, zero-extended (03 R121). -/
def execMvg (p : PTile) (port : Fin 2) (d : Fin 64) (a : Fin 8) (s : State) : Host.Outcome State Fault Refusal :=
  .next (issueOne p (opMvg p port d a) s)

/-- Low 64 bits of the signed product (03 R100). -/
def opMul (p : PTile) (d : Fin 64) (a : Fin 64) (b : Fin 64) : TileOp :=
  opMG p d [a, b] 3 fun t => (gVal t a * gVal t b, 0)

/-- MUL issues alone on tile p: Low 64 bits of the signed product (03 R100). -/
def execMul (p : PTile) (d : Fin 64) (a : Fin 64) (b : Fin 64) (s : State) : Host.Outcome State Fault Refusal :=
  .next (issueOne p (opMul p d a b) s)

/-- High 64 bits of the signed product (03 R100). -/
def opMulh (p : PTile) (d : Fin 64) (a : Fin 64) (b : Fin 64) : TileOp :=
  opMG p d [a, b] 3 fun t => (BitVec.ofInt 64 ((gVal t a).toInt * (gVal t b).toInt / ((2 ^ 64 : Nat) : Int)), 0)

/-- MULH issues alone on tile p: High 64 bits of the signed product (03 R100). -/
def execMulh (p : PTile) (d : Fin 64) (a : Fin 64) (b : Fin 64) (s : State) : Host.Outcome State Fault Refusal :=
  .next (issueOne p (opMulh p d a b) s)

/-- 16 x 16 fractional product, rounded to bit 16 and saturated (03 R100). -/
def opMulrH (p : PTile) (d : Fin 64) (a : Fin 64) (b : Fin 64) : TileOp :=
  opMG p d [a, b] 3 fun t =>
    let r := fitMove (dspSat (bankOf t).dsp) 16 (roundShift (dspRnd (bankOf t).dsp) (2 * (partInt true 16 0 (gVal t a) * partInt true 16 0 (gVal t b))) 16)
    (r.1, if r.2 then dspSatf else 0)

/-- MULR_H issues alone on tile p: 16 x 16 fractional product, rounded to bit 16 and saturated (03 R100). -/
def execMulrH (p : PTile) (d : Fin 64) (a : Fin 64) (b : Fin 64) (s : State) : Host.Outcome State Fault Refusal :=
  .next (issueOne p (opMulrH p d a b) s)

/-- Adds a 32 x 32 product to an accumulator (03 R96, R121). -/
def opMac (p : PTile) (n : Fin 4) (a : Fin 64) (b : Fin 64) (sub : BitVec 2) : TileOp :=
  opMacc p n a b sub 2 32 1 1

/-- MAC issues alone on tile p: Adds a 32 x 32 product to an accumulator (03 R96, R121). -/
def execMac (p : PTile) (n : Fin 4) (a : Fin 64) (b : Fin 64) (sub : BitVec 2) (s : State) : Host.Outcome State Fault Refusal :=
  .next (issueOne p (opMac p n a b sub) s)

/-- Subtracts a 32 x 32 product from an accumulator (03 R96, R121). -/
def opMsu (p : PTile) (n : Fin 4) (a : Fin 64) (b : Fin 64) (sub : BitVec 2) : TileOp :=
  opMacc p n a b sub 2 32 1 (-1)

/-- MSU issues alone on tile p: Subtracts a 32 x 32 product from an accumulator (03 R96, R121). -/
def execMsu (p : PTile) (n : Fin 4) (a : Fin 64) (b : Fin 64) (sub : BitVec 2) (s : State) : Host.Outcome State Fault Refusal :=
  .next (issueOne p (opMsu p n a b sub) s)

/-- Adds two 16 x 16 products to an accumulator (03 R96, R121). -/
def opMac2H (p : PTile) (n : Fin 4) (a : Fin 64) (b : Fin 64) (sub : BitVec 2) : TileOp :=
  opMacc p n a b sub 2 16 2 1

/-- MAC2_H issues alone on tile p: Adds two 16 x 16 products to an accumulator (03 R96, R121). -/
def execMac2H (p : PTile) (n : Fin 4) (a : Fin 64) (b : Fin 64) (sub : BitVec 2) (s : State) : Host.Outcome State Fault Refusal :=
  .next (issueOne p (opMac2H p n a b sub) s)

/-- Adds four 8 x 8 products to an accumulator (03 R96, R121). -/
def opMac4B (p : PTile) (n : Fin 4) (a : Fin 64) (b : Fin 64) (sub : BitVec 2) : TileOp :=
  opMacc p n a b sub 1 8 4 1

/-- MAC4_B issues alone on tile p: Adds four 8 x 8 products to an accumulator (03 R96, R121). -/
def execMac4B (p : PTile) (n : Fin 4) (a : Fin 64) (b : Fin 64) (sub : BitVec 2) (s : State) : Host.Outcome State Fault Refusal :=
  .next (issueOne p (opMac4B p n a b sub) s)

/-- Sets an accumulator to 0 with accumulate latency 1 (03 R99). -/
def opAccClr (p : PTile) (n : Fin 4) : TileOp :=
  opMAcc p n [] 1 3 fun _ => 0

/-- ACC_CLR issues alone on tile p: Sets an accumulator to 0 with accumulate latency 1 (03 R99). -/
def execAccClr (p : PTile) (n : Fin 4) (s : State) : Host.Outcome State Fault Refusal :=
  .next (issueOne p (opAccClr p n) s)

/-- Loads a shifted, sign-extended g value into an accumulator (03 R99). -/
def opAccLd (p : PTile) (n : Fin 4) (a : Fin 64) (shift : BitVec 6) : TileOp :=
  opMAcc p n [a] 2 2 fun t => shiftBy (dspRnd (bankOf t).dsp) (gVal t a).toInt shift.toInt

/-- ACC_LD issues alone on tile p: Loads a shifted, sign-extended g value into an accumulator (03 R99). -/
def execAccLd (p : PTile) (n : Fin 4) (a : Fin 64) (shift : BitVec 6) (s : State) : Host.Outcome State Fault Refusal :=
  .next (issueOne p (opAccLd p n a shift) s)

/-- Moves an accumulator to a g register with shift, rounding and saturation (03 R98). -/
def opAccMv (p : PTile) (d : Fin 64) (n : Fin 4) (shift : BitVec 6) (sub : BitVec 2) : TileOp :=
  { opMG p d [] 2 (fun t => accMove t (bankOf t).acc[n] shift (16 * 2 ^ sub.toNat)) with illegal := fun _ => sub = 3 }

/-- ACC_MV issues alone on tile p: Moves an accumulator to a g register with shift, rounding and saturation (03 R98). -/
def execAccMv (p : PTile) (d : Fin 64) (n : Fin 4) (shift : BitVec 6) (sub : BitVec 2) (s : State) : Host.Outcome State Fault Refusal :=
  .next (issueOne p (opAccMv p d n shift sub) s)

/-- Shifts an accumulator by a signed g value (03 R100). -/
def opAccSh (p : PTile) (n : Fin 4) (a : Fin 64) : TileOp :=
  opMAcc p n [a] 2 2 fun t => accShift (dspRnd (bankOf t).dsp) (bankOf t).acc[n] (gVal t a)

/-- ACC_SH issues alone on tile p: Shifts an accumulator by a signed g value (03 R100). -/
def execAccSh (p : PTile) (n : Fin 4) (a : Fin 64) (s : State) : Host.Outcome State Fault Refusal :=
  .next (issueOne p (opAccSh p n a) s)

/-- Counts the bits below bit 71 that equal bit 71 (03 R100). -/
def opNorm (p : PTile) (d : Fin 64) (n : Fin 4) : TileOp :=
  opMG p d [] 2 fun t => (BitVec.ofNat 64 (norm72 (bankOf t).acc[n]), 0)

/-- NORM issues alone on tile p: Counts the bits below bit 71 that equal bit 71 (03 R100). -/
def execNorm (p : PTile) (d : Fin 64) (n : Fin 4) (s : State) : Host.Outcome State Fault Refusal :=
  .next (issueOne p (opNorm p d n) s)

/-- The block exponent 8 - norm (03 R100). -/
def opExp (p : PTile) (d : Fin 64) (n : Fin 4) : TileOp :=
  opMG p d [] 2 fun t => (BitVec.ofInt 64 (8 - (norm72 (bankOf t).acc[n] : Int)), 0)

/-- EXP issues alone on tile p: The block exponent 8 - norm (03 R100). -/
def execExp (p : PTile) (d : Fin 64) (n : Fin 4) (s : State) : Host.Outcome State Fault Refusal :=
  .next (issueOne p (opExp p d n) s)

/-- The larger of the exponent and a g source (03 R100). -/
def opExpmax (p : PTile) (d : Fin 64) (n : Fin 4) (b : Fin 64) : TileOp :=
  opMG p d [b] 2 fun t => (BitVec.ofInt 64 (max (8 - (norm72 (bankOf t).acc[n] : Int)) (gVal t b).toInt), 0)

/-- EXPMAX issues alone on tile p: The larger of the exponent and a g source (03 R100). -/
def execExpmax (p : PTile) (d : Fin 64) (n : Fin 4) (b : Fin 64) (s : State) : Host.Outcome State Fault Refusal :=
  .next (issueOne p (opExpmax p d n b) s)

/-- Opcode 0 in any slot does nothing (03 R77). -/
def opNop (p : PTile) : TileOp :=
  { act := fun s => modTile s p id }

/-- NOP issues alone on tile p: Opcode 0 in any slot does nothing (03 R77). -/
def execNop (p : PTile) (s : State) : Host.Outcome State Fault Refusal :=
  .next (issueOne p (opNop p) s)

end Sys2Proof.Machine
end

