-- ==== Sys2Proof/Machine/Bundle.lean ====
section
/-! DEFINITION. The issue of a bundle: fetch, the encodings of the slots, the faults of a bundle, hardware loops and branches (03 R76 to R83, R93 to R95, R101 to R105, R121, R122). -/

namespace Sys2Proof.Machine

open Sys2Proof

/-- A register field of 6 bits. -/
def rf (w lo : Nat) : Fin 64 := ⟨field (lo + 5) lo w % 64, by omega⟩

/-- A register field of 3 bits. -/
def rf3 (w lo : Nat) : Fin 8 := ⟨field (lo + 2) lo w % 8, by omega⟩

/-- An accumulator field of 2 bits. -/
def rf2 (w lo : Nat) : Fin 4 := ⟨field (lo + 1) lo w % 4, by omega⟩

/-- An operation where its reserved bits are 0. -/
def whenOk (ok : Bool) (o : TileOp) : Option TileOp := if ok then some o else none

/-- The operation of an A slot (03 R78, R121); none is ILLEGAL_BUNDLE. -/
def decodeA (p : PTile) (w : Nat) : Option TileOp :=
  let d := rf w 20
  let a := rf w 14
  let b := rf w 8
  let sub := field 7 0 w
  let imm : BitVec 14 := BitVec.ofNat 14 w
  match field 31 26 w with
  | 0x00 => whenOk (w = 0) (opNop p)
  | 0x01 =>
    match sub with
    | 0 => some (opAdd p d a b)
    | 1 => some (opSub p d a b)
    | 2 => some (opAnd p d a b)
    | 3 => some (opOr p d a b)
    | 4 => some (opXor p d a b)
    | 5 => some (opShl p d a b)
    | 6 => some (opShr p d a b)
    | 7 => some (opSar p d a b)
    | 8 => some (opMin p d a b)
    | 9 => some (opMax p d a b)
    | 10 => some (opCmpEq p d a b)
    | 11 => some (opCmpLt p d a b)
    | 12 => some (opCmpLtu p d a b)
    | 13 => whenOk (b = 0) (opAbs p d a)
    | _ => none
  | 0x02 => whenOk (field 1 0 w = 0) (opSel p d a b (rf w 2))
  | 0x03 => whenOk (sub = 0) (opClamp p d a b)
  | 0x04 =>
    match sub with
    | 0 => some (opAdd4Bu p d a b)
    | 1 => some (opAvg4Bu p d a b)
    | 2 => some (opSad4Bu p d a b)
    | _ => none
  | 0x08 => some (opAddi p d a imm)
  | 0x09 => some (opAndi p d a imm)
  | 0x0A => some (opOri p d a imm)
  | 0x0B => some (opXori p d a imm)
  | 0x0C => some (opShli p d a imm)
  | 0x0D => some (opShri p d a imm)
  | 0x0E => some (opSari p d a imm)
  | 0x0F => some (opCmpiEq p d a imm)
  | 0x10 => some (opCmpiLt p d a imm)
  | 0x11 => some (opCmpiLtu p d a imm)
  | 0x12 => whenOk (a = 0) (opMovi0 p d imm)
  | 0x13 => some (opMovi1 p d a imm)
  | 0x14 => some (opMovi2 p d a imm)
  | 0x15 => some (opMovi3 p d a imm)
  | 0x16 => some (opMovi4 p d a imm)
  | _ => none

/-- The addressing mode of an L slot (03 R78, R91); none for a reserved one or a reserved bit that is not 0. -/
def decodeMode (w : Nat) : Option LMode :=
  let imm : BitVec 14 := BitVec.ofNat 14 w
  match field 16 14 w with
  | 0 => some (.offset imm)
  | 1 => some (.postImm imm)
  | 2 => if field 7 0 w = 0 then some (.index (rf w 8)) else none
  | 3 => if field 7 0 w = 0 then some (.postReg (rf w 8)) else none
  | 4 => some (.update imm)
  | _ => none

/-- The operation of an L slot (03 R78, R121). -/
def decodeL (p : PTile) (port : Fin 2) (w : Nat) : Option TileOp :=
  let d := rf w 20
  let a := rf3 w 17
  let mem (f : LMode → TileOp) : Option TileOp :=
    match decodeMode w with
    | some (.update _) => none
    | some m => some (f m)
    | none => none
  match field 31 26 w with
  | 0x00 => whenOk (w = 0) (opNop p)
  | 0x01 => mem (opLdB p port d a)
  | 0x02 => mem (opLdBu p port d a)
  | 0x03 => mem (opLdH p port d a)
  | 0x04 => mem (opLdHu p port d a)
  | 0x05 => mem (opLdW p port d a)
  | 0x06 => mem (opLdWu p port d a)
  | 0x07 => mem (opLdD p port d a)
  | 0x08 => mem (opStB p port d a)
  | 0x09 => mem (opStH p port d a)
  | 0x0A => mem (opStW p port d a)
  | 0x0B => mem (opStD p port d a)
  | 0x0C =>
    match decodeMode w with
    | some (.update i) => whenOk (d = 0) (opAupd p port a i)
    | _ => none
  | 0x0D => whenOk (field 16 0 w = 0) (opMva p port d a)
  | 0x0E => whenOk (field 16 0 w = 0) (opMvg p port d a)
  | _ => none

/-- The operation of an M slot (03 R78, R121). -/
def decodeM (p : PTile) (w : Nat) : Option TileOp :=
  let d := rf w 20
  let a := rf w 14
  let b := rf w 8
  let n := rf2 w 20
  let accOk := field 25 22 w = 0
  let shift : BitVec 6 := BitVec.ofNat 6 (field 7 2 w)
  let sub : BitVec 2 := BitVec.ofNat 2 (field 1 0 w)
  let noShift := field 7 2 w = 0
  let plain := field 7 0 w = 0
  let m := rf2 w 14
  let accSrc := field 19 16 w = 0
  match field 31 26 w with
  | 0x00 => whenOk (w = 0) (opNop p)
  | 0x01 => whenOk plain (opMul p d a b)
  | 0x02 => whenOk plain (opMulh p d a b)
  | 0x03 => whenOk plain (opMulrH p d a b)
  | 0x08 => whenOk (accOk && noShift) (opMac p n a b sub)
  | 0x09 => whenOk (accOk && noShift) (opMsu p n a b sub)
  | 0x0A => whenOk (accOk && noShift) (opMac2H p n a b sub)
  | 0x0B => whenOk (accOk && noShift) (opMac4B p n a b sub)
  | 0x10 => whenOk (accOk && field 19 0 w = 0) (opAccClr p n)
  | 0x11 => whenOk (accOk && field 13 8 w = 0 && field 1 0 w = 0) (opAccLd p n a shift)
  | 0x12 => whenOk (accSrc && field 13 8 w = 0) (opAccMv p d m shift sub)
  | 0x13 => whenOk (accOk && field 13 0 w = 0) (opAccSh p n a)
  | 0x14 => whenOk (accSrc && field 13 0 w = 0) (opNorm p d m)
  | 0x15 => whenOk (accSrc && field 13 0 w = 0) (opExp p d m)
  | 0x16 => whenOk (accSrc && plain) (opExpmax p d m b)
  | _ => none

/-- The operation of the C slot (03 R122). -/
def decodeC (p : PTile) (w : Nat) : Option TileOp :=
  let g := rf w 20
  let off : BitVec 20 := BitVec.ofNat 20 w
  let lvl : Fin 2 := ⟨field 25 25 w % 2, by omega⟩
  let vs : Fin 32 := ⟨field 25 21 w % 32, by omega⟩
  match field 31 26 w with
  | 0x00 => whenOk (w = 0) (opNop p)
  | 0x01 => whenOk (field 25 20 w = 0) (opBr p off)
  | 0x02 => some (opBrIf p true g off)
  | 0x03 => some (opBrIf p false g off)
  | 0x04 => whenOk (field 25 20 w = 0) (opCall p off)
  | 0x05 => whenOk (field 19 0 w = 0) (opBrR p g)
  | 0x08 => some (opLoopSet p lvl (rf w 19) (BitVec.ofNat 10 (field 18 9 w)) (BitVec.ofNat 9 w))
  | 0x09 => whenOk (field 6 0 w = 0) (opLoopRest p lvl (rf w 19) (rf w 13) (rf w 7))
  | 0x0A => whenOk (field 24 0 w = 0) (opLoopClr p lvl)
  | 0x0B => whenOk (field 16 0 w = 0) (opCbSet p (rf3 w 23) (rf w 17))
  | 0x0C => whenOk (field 11 0 w = 0) (opMtc p g (BitVec.ofNat 8 (field 19 12 w)))
  | 0x0D => whenOk (field 11 0 w = 0) (opMfc p g (BitVec.ofNat 8 (field 19 12 w)))
  | 0x0E => whenOk (field 25 0 w = 0) (opRot p)
  | 0x0F => whenOk (field 25 9 w = 0) (opNint p (BitVec.ofNat 9 w))
  | 0x10 => whenOk (field 25 1 w = 0) (opMark p (bitAt 0 w))
  | 0x11 => whenOk (field 17 0 w = 0) (opDmaStart p (rf3 w 18) vs)
  | 0x12 => whenOk (field 20 0 w = 0) (opArrStart p vs)
  | 0x13 => whenOk (field 25 21 w = 0 && field 17 0 w = 0) (opWaitDma p (rf3 w 18) false)
  | 0x14 => whenOk (field 16 0 w = 0) (opWaitFlag p g (rf3 w 17) false)
  | 0x15 => whenOk (field 19 0 w = 0) (opTimeRd p g)
  | 0x16 => whenOk (field 19 0 w = 0) (opRng p g)
  | 0x17 => whenOk (field 25 3 w = 0) (opC0Trig p (rf3 w 0))
  | 0x18 => whenOk (field 25 9 w = 0) (opC0Bell p (rf w 3) (rf3 w 0))
  | 0x19 => whenOk (field 25 20 w = 0 && field 16 0 w = 0) (opEmit p (rf3 w 17))
  | 0x1A => whenOk (field 25 0 w = 0) (opC0End p)
  | 0x1B => whenOk (field 25 0 w = 0) (opReti p)
  | 0x1C => whenOk (field 25 0 w = 0) (opEnd p)
  | 0x1D => whenOk (field 25 9 w = 0 && field 2 0 w = 0) (opC1Bell p (rf w 3))
  | _ => none

/-- The operations of one bundle. -/
structure Bundle where
  /-- slot L0 -/
  l0 : TileOp
  /-- slot L1 -/
  l1 : TileOp
  /-- slots A0, A1, M0 and M1 -/
  am : List TileOp
  /-- slot C -/
  c : TileOp
  /-- slot V -/
  v : TileOp
  /-- the C slot holds reti -/
  isReti : Bool

/-- Slot i of a bundle's 32 bytes (03 R76). -/
def slotWord (bytes : List Byte) (i : Nat) : Nat := leNat ((bytes.drop (4 * i)).take 4)

/-- The operations of a bundle; none where a slot word is not defined or a reserved field is not 0 (03 R77). -/
def decodeBundle (p : PTile) (bytes : List Byte) : Option Bundle :=
  match decodeL p 0 (slotWord bytes 0), decodeL p 1 (slotWord bytes 1), decodeA p (slotWord bytes 2), decodeA p (slotWord bytes 3),
        decodeM p (slotWord bytes 4), decodeM p (slotWord bytes 5), decodeC p (slotWord bytes 6) with
  | some l0, some l1, some a0, some a1, some m0, some m1, some c =>
    some { l0 := l0, l1 := l1, am := [a0, a1, m0, m1], c := c, v := opV p (BitVec.ofNat 32 (slotWord bytes 7)), isReti := field 31 26 (slotWord bytes 6) == 0x1B }
  | _, _, _, _, _, _, _ => none

/-- The slots of a bundle in the order in which a fault is looked for: L0, L1, A, M, C, V (notes/assumptions/15.md). -/
def Bundle.ops (b : Bundle) : List TileOp := [b.l0, b.l1] ++ b.am ++ [b.c, b.v]

/-- Two slots name the same destination register, other than g0 (03 R81). -/
def sameDest (l : List TileOp) : Bool :=
  let ds := (l.flatMap fun o => o.dests.eraseDups).filter fun d => d ≠ .g 0
  ds.eraseDups.length ≠ ds.length

/-- The bytes of the bundle at an address as fetch sees them: a byte stored at t as it stood before, until t + 12 (03 R94). -/
def fetchBytes (t : Tile) (now a : Nat) : List Byte :=
  (List.range 32).map fun i =>
    match t.fetchLog.find? fun o => o.addr = a + i && now < o.at_ + 12 with
    | some o => o.old
    | none => memGet t.core (a + i)

/-- The bundle at the end of one armed level: whether it loops back, and the bank after it (03 R103). -/
def loopEndOf (b : Bank) (l : Fin 2) : Bool × Bank :=
  if !bitAt l.val b.loopCtrl.toNat || b.loopEnd[l] ≠ b.pc then (false, b)
  else if 1 < b.loopCount[l].toNat then (true, { b with loopCount := b.loopCount.set l.val (b.loopCount[l] - 1) l.isLt })
  else if b.loopCount[l] = 1 then (false, { b with loopCount := b.loopCount.set l.val 0 l.isLt, loopCtrl := disarm l b.loopCtrl })
  else (false, b)

/-- The address of the next bundle by the loops, level 0 first, and the bank after them (03 R103). -/
def loopNext (b : Bank) : BitVec 32 × Bank :=
  let r0 := loopEndOf b 0
  if r0.1 then (b.loopStart[0], r0.2)
  else
    let r1 := loopEndOf r0.2 1
    if r1.1 then (b.loopStart[1], r1.2) else (b.pc + 32, r1.2)

/-- The delay bundles of pending branches count this bundle; the branch whose last delay bundle this is gives its target (03 R83, R105). -/
def branchNext (b : Bank) : Option (BitVec 32) × List Branch :=
  let l := b.branch.map fun x => { x with left := x.left - 1 }
  ((l.find? fun x => x.left = 0).map fun x => x.target, l.filter fun x => x.left ≠ 0)

/-- Issue is held in the running flow, for a cause other than a wait that a command releases (03 R83). -/
def issueHeld (s : State) (t : Tile) : Bool :=
  let b := bankOf t
  s.cycle < redirectEnd t b || s.cycle < t.switchAt
    || (match b.hold with
        | .none => false
        | .mark u => s.cycle < u
        | .vsettle => vecBusy s t
        | _ => true)

/-- The core may issue a bundle in the present tile cycle (03 R83, R108, R119; 04 R157). -/
def mayIssue (s : State) (p : PTile) : Bool :=
  let t := tile s p
  tileLive s p && betweenBundles s t && (t.inC0 || (t.run.isSome && t.entry.isNone && !t.vfEntry && !t.rerun && t.reissueAt.isNone && t.vReissueAt.isNone && t.descWrites.isEmpty))
    && !issueHeld s t && !class0Due s p && !interruptDue s p

/-- The effect of a decoded bundle that has no fault: every slot reads the state of the issue cycle, since results land later; then loops, branches and the next address (03 R76, R80, R103, R105). Where a taken branch's last delay bundle stands at LOOP_ENDn of an armed level, the loop counts down and the branch gives the next address (DESIGN CHOICE, notes/assumptions/43.md). -/
def bundleEffect (s : State) (p : PTile) (b : Bundle) : State :=
  let now := s.cycle
  let bank := bankOf (tile s p)
  let c0 := (tile s p).inC0
  let vf := b.v.vfault s
  let ia := serving (tile s p)
  let next := loopNext bank
  let br := branchNext bank
  let s := modTile s p fun t => modBankOf t c0 fun x => { x with branch := br.2, hold := .none }
  let s := ([b.l0, b.l1] ++ b.am ++ [b.v, b.c]).foldl (fun s o => o.act s) s
  let s := modTile s p fun t => { t with issued := now + 1, lastIssue := now }
  let s := if b.isReti then s else modTile s p fun t => modBankOf t c0 fun x =>
    { x with
      loopCount := next.2.loopCount
      loopCtrl := next.2.loopCtrl
      pc := br.1.getD next.1
      fetchAt := if br.1.isSome then now + 8 else x.fetchAt }
  match vf with
  | some (w, f) => vectorFault s p w f ia
  | none => s

/-- The fetched bundle issues: ILLEGAL_BUNDLE, the first fault of a slot, or its effect (03 R77, R81, R93). -/
def bundleRun (s : State) (p : PTile) (bytes : List Byte) : State :=
  let t := tile s p
  match decodeBundle p bytes with
  | none => opFault s p cIllegalBundle 0
  | some b =>
    if b.ops.any (fun o => opBarred t o) || sameDest b.ops then opFault s p cIllegalBundle 0
    else if portWait s t b.l0 then s
    else if b.ops.any fun o => o.conflict s then opFault s p cIllegalBundle 0
    else match b.ops.find? fun o => (o.check s).1 ≠ 0 with
      | some o => opFault s p (o.check s).1 (o.check s).2
      | none => bundleEffect s p b

/-- The bundle at the program counter issues, behind the zero-count loops that it stands at (03 R79, R83, R95, R104). -/
def bundleIssue (s : State) (p : PTile) : State :=
  if !mayIssue s p then s else
  let s := modTile s p fun t => modBank t (skipLoops t)
  let t := tile s p
  let pc := (bankOf t).pc.toNat
  let s := modTile s p fun t => { t with lastPc := (bankOf t).pc }
  if pc % 32 ≠ 0 || coreSize ≤ pc then opFault s p cCoreRange (coreGlobal t pc)
  else match badByte t.coreBad pc 32 with
    | some x => opFault s p cCoreParity (coreGlobal t x)
    | none => bundleRun s p (fetchBytes t s.cycle pc)


/-- BUNDLE_ISSUE: the bundle at the program counter issues, where nothing holds issue (03 R76, R83). -/
def execBundleIssue (p : PTile) (s : State) : Host.Outcome State Fault Refusal :=
  .next (bundleIssue s p)

end Sys2Proof.Machine
end

