-- ==== Sys2Proof/Machine/DmaRows.lean ====
section
/-! DEFINITION. The accesses of the DMA engines in their tile cycle, by the fixed orders at port 1, at the Meadow banks and in the HBM slots, and the refill of a Meadow slot (01 R19, R20; 03 R95; 08 R255, R256, R263; 09 R287 to R289, R292). -/

namespace Sys2Proof.Machine

open Sys2Proof

/-- The core's use of port 1 in the present cycle is settled: its bundle of the cycle has issued, or none can issue any more (03 R95, 09 R289). -/
def coreSettled (s : State) (p : PTile) : Bool := (tile s p).issued = s.cycle + 1 || !mayIssue (waitRelease s p) p

/-- An access of the engine yields in the present cycle: to the core's bundle at port 1, to a better rank at a Meadow bank, or to another acting spare in a system cycle. None of these depends on the order of the commands of the cycle (01 R20, 03 R95, 08 R256, 15 R480). -/
def accessYields (s : State) (p : PTile) (e : Endpoint) (off : Nat) : Bool :=
  match e with
  | .mem .core => !coreSettled s p
  | .meadow => bankLost s p (meadowBank (off / 128))
  | .hbm => systemLost s p (portOf e off)
  | _ => false

/-- An access granted: its port, its bank and its counters (08 R255, R257; 09 R288). -/
def accessTake (s : State) (p : PTile) (e : Endpoint) (off : Nat) : State :=
  let s := countAccess (takePort s p (portOf e off)) p e
  if e = .meadow then bankTake s (meadowBank (off / 128)) else s

/-- DMA_BURST_READ: the earliest burst of the channel whose port is free to it is read; writes and lower channels go first on a port (09 R287, R288). For a memory-side copy it is the read slot of the next part of the line, one per access unit of the source (08 R253, R258). -/
def execDmaBurstRead (p : PTile) (c : Fin 8) (s : State) : Host.Outcome State Fault Refusal :=
  match (chan s p c).active with
  | none => .next s
  | some r =>
    let q := srcPattern r.desc
    let e := patEndpoint s p q
    let wp := writePorts s p fun _ => true
    let rp := readPorts s p c
    let offOf := fun (b : Nat × Nat) => (endpointOf s p (patAddr q b.1)).2
    let free := fun (b : Nat × Nat) => !wp.contains (portOf e (offOf b)) && !rp.contains (portOf e (offOf b))
    match (reads s p r).find? free with
    | none => .next s
    | some b =>
      let off := offOf b
      if accessYields s p e off then .next s
      else
        let a := endpointRead s p e off b.2
        let s := accessTake a.2.2.2 p e off
        if mOp r.desc = 2 then
          .next (if a.2.1 = 0 then modRunOf s p c fun r => { r with copyBuf := r.copyBuf ++ a.1 } else readFault s p a.2.1 a.2.2.1)
        else
          let j := b.1 / q.line
          .next (modRunOf s p c fun r =>
            { r with
              staged := r.staged ++ [{ pos := b.1, bytes := if a.2.1 = 0 then a.1 else List.replicate b.2 0, due := s.cycle + readLatency e, err := a.2.1, errAddr := a.2.2.1 }]
              lineRead := max r.lineRead (j + 1)
              lineAt := if r.lineRead ≤ j then s.cycle else r.lineAt })

/-- The WRITE frame of a remote write handed to egress, whose first bit leaves 160 ns later at the earliest: one credit taken, the route looked up (13 R421, R424, R428). -/
def handFrame (s : State) (p : PTile) (c : Fin 8) (r : DmaRun) (w : RemoteWin) (off : Nat) (bytes : List Byte) (last : Bool) : State :=
  let route := (((cfgBytes s oBerylRoutes)[w.device]?).getD 0).toNat
  let f : BFrame :=
    { kind := 1, last := last, vc := bitAt 2 route, dst := w.device, src := cfgNat s oBerylDeviceId, window := w.window, gen := w.gen,
      offset := off, tag := (tile s p).logical % 64 * 8 + c.val, payload := bytes, at_ := s.cycle + 80 }
  let s := { s with beryl := { s.beryl with
      remote := s.beryl.remote.map fun x => if x.device = w.device && x.window = w.window then { x with pool := x.pool - 1 } else x
      writes := s.beryl.writes ++ [{ tile := p, ch := c, port := ⟨route % 4, by omega⟩, frame := f }] } }
  modRunOf (roAdd s (oDmaBytes p.val) bytes.length) p c fun _ => { r with inFlight := r.inFlight ++ [bytes.length] }

/-- A write of one access unit at an endpoint; it takes effect in this cycle, and a partial granule of HBM at its write-back (08 R254, R255; 09 R281, R289). The answer's second part says whether it was made; a partial granule that cannot be corrected is a bus error, and nothing is written (08 R275, 09 R302). -/
def endpointWrite (s : State) (p : PTile) (c : Fin 8) (e : Endpoint) (off : Nat) (bytes : List Byte) : State × Bool :=
  match e with
  | .mem sp => (modTile s p fun t => { t with commits := t.commits ++ [{ space := sp, addr := off, bytes := bytes, rank := 1 }] }, true)
  | .meadow => (meadowWrite s off bytes, true)
  | .hbm =>
    let w := granuleWrite s off bytes (some p) c
    match w.1 with
    | some s' => (s', true)
    | none => (readFault w.2 p cHbmUncorrectable off, false)
  | _ => (s, false)

/-- In a patrol replay a write outside the write set and the spare's own memories is discarded (15 R486). -/
def replayDiscards (s : State) (p : PTile) (e : Endpoint) (a : Int) : Bool :=
  replaying s p && (match e with | .meadow | .hbm => (replayMap s p a.toNat).isNone | .remote _ => true | _ => false)

/-- A discarded write of a patrol replay is counted. -/
def countDiscard (s : State) (p : PTile) : State :=
  { s with ctrl := { s.ctrl with patrol := { s.ctrl.patrol with
      replays := s.ctrl.patrol.replays.map fun r => if r.tile = p then { r with discarded := r.discarded + 1 } else r } } }

/-- DMA_BURST_WRITE: the channel's next access unit is written in pattern order; writes of lower channels go first on a port (09 R287, R288). -/
def execDmaBurstWrite (p : PTile) (c : Fin 8) (s : State) : Host.Outcome State Fault Refusal :=
  match (chan s p c).active with
  | none => .next s
  | some r =>
    match nextWrite s p r with
    | none => .next s
    | some (pos, bytes) =>
      let q := dstPattern r.desc
      let e := patEndpoint s p q
      let off := (endpointOf s p (patAddr q pos)).2
      let port := portOf e off
      if !portOpen s p e off || (writePorts s p fun k => k < c).contains port || accessYields s p e off then .next s
      else
        let keep (r : DmaRun) : DmaRun :=
          { r with
            written := pos + bytes.length
            effect := s.cycle
            copyBuf := []
            staged := r.staged.filter fun b => pos + bytes.length < b.pos + b.bytes.length }
        if replayDiscards s p e (patAddr q pos) then
          .next (modRunOf (countDiscard (takePort s p port) p) p c fun r => { keep r with accepted := r.accepted + bytes.length })
        else match e with
        | .remote _ =>
          match remoteEntry s p r.desc with
          | none => .next (busError s p c cWindowClosed (patAddr q pos) none)
          | some w =>
            if (routePort s w.device).isNone then .next (busError s p c cUnroutable (patAddr q pos) none)
            else if w.pool = 0 then .next s
            else .next (handFrame (takePort s p port) p c (keep r) w off bytes (pos + bytes.length = patTotal q))
        | _ =>
          let w := endpointWrite s p c e off bytes
          if !w.2 then .next w.1
          else .next (modRunOf (roAdd (accessTake w.1 p e off) (oDmaBytes p.val) bytes.length) p c keep)

/-- MEADOW_REFILL: after MEADOW_PARITY in an image region the slot is rewritten from its HBM source. At the bank the system controller ranks below every tile port and Beryl receive, and waits (08 R256, R263). -/
def execMeadowRefill (slot : Nat) (s : State) : Host.Outcome State Fault Refusal :=
  let bank := meadowBank slot
  if !s.meadow.refills.contains slot || bankBusy s bank || berylWants s bank || (List.finRange 72).any (fun q => meadowWant s q = some bank) then .next s
  else .next (refillSlot (bankTake { s with meadow := { s.meadow with refills := setErase s.meadow.refills slot } } bank) slot)

/-- The waits of a cycle at the Meadow banks: each tile port and each refill that asked for a bank which served another slot (08 R256, R257). -/
def countMeadowWaits (s : State) : State :=
  let s := (List.finRange 72).foldl (fun s p => match meadowWant s p with
    | some b => if bankBusy s b then meadowWait s p else s
    | none => s) s
  roAdd s oMeadowWaits (s.meadow.refills.filter fun k => bankBusy s (meadowBank k)).length

end Sys2Proof.Machine
end

