-- ==== Sys2Proof/Machine/Patrol.lean ====
section
/-! DEFINITION. Patrol replay: the comparator, its verdicts, and the end of an attempt (15 R480, R485 to R489; 03 R120; notes/assumptions/39.md). -/

namespace Sys2Proof.Machine

open Sys2Proof

/-- The digests that the comparator holds of a record: its OUTCOME_DIGEST and its LAYER_DIGEST entries (15 R487). -/
def digestsOf (outcome : List Byte) (layers : List (BitVec 64)) : List Byte := outcome ++ layers.flatMap fun x => leBytes 8 x.toNat

/-- The digests of the original's record. -/
def originalDigests (i : Item) : List Byte := digestsOf i.outcome i.layers

/-- The digests of the record that a replay handed over, with the WEIGHTS_DIGEST of the original (14 R457, 15 R487). -/
def replayDigests (s : State) (i : Item) (t : List Byte) : List Byte :=
  digestsOf (outcomeDigest (itemFields s i) t) ((List.range (leAt t 48 2)).map fun j => BitVec.ofNat 64 (leAt t (56 + 48 * leAt t 43 1 + 8 * j) 8))

/-- The patrol state changed. -/
def modPatrol (s : State) (f : Patrol → Patrol) : State := { s with ctrl := { s.ctrl with patrol := f s.ctrl.patrol } }

/-- A tile voted against: SUSPECT, with the notification and the tick event of the verdict (15 R480, R487, R489). -/
def voteAgainst (s : State) (code ptile tick : Nat) : State :=
  if h : ptile < 72 then
    let s := suspectTile s ⟨ptile, h⟩
    tickEvent (notify (lastCode s code) code 3 ptile) 7 (code * 65536 + ptile) tick
  else s

/-- An entry of the plan has its verdict in the present pass (15 R485). -/
def patrolDone (s : State) (entry : Nat) : State := modPatrol s fun p => { p with done := setInsert p.done entry }

/-- Two of three executions agree: the tile of the odd one is voted against. Against an original the condition is DANGEROUS, against a replaying spare DEGRADED (15 R487, R488). -/
def patrolMismatch (s : State) (i : Item) (ptile : Nat) (original : Bool) : State :=
  let s := voteAgainst (roAdd s oPatrolMismatches 1) cPatrolMismatch ptile i.tick
  let s := if original then danger s cPatrolMismatch false else degrade s cPatrolMismatch
  patrolDone s i.entry

/-- No third execution fits, or all three differ: both tiles are voted against (15 R487, R488). -/
def patrolInconclusive (s : State) (i : Item) (spare : Nat) : State :=
  let s := voteAgainst (voteAgainst s cPatrolInconclusive i.lastTile i.tick) cPatrolInconclusive spare i.tick
  patrolDone (danger s cPatrolInconclusive false) i.entry

/-- A replay that ran to its end is compared: a first one passes or asks for a third execution, and a third one settles the verdict (15 R487). -/
def compareReplay (s : State) (r : Replay) : State :=
  let i := itemOf s r.item
  let d := replayDigests s i (r.record.getD [])
  let s := roAdd (modPatrol s fun p => { p with replays := p.replays.filter fun x => x.tile ≠ r.tile }) oPatrolReplays 1
  if !r.third then
    if d = originalDigests i then patrolDone s i.entry
    else modPatrol s fun p => { p with wait3 := p.wait3 ++ [{ r with third := true, first := d, firstTile := r.tile, record := none }] }
  else if d = originalDigests i then patrolMismatch s i r.firstTile.val false
  else if d = r.first then patrolMismatch s i i.lastTile true
  else patrolInconclusive s i r.firstTile.val

/-- An attempt ends: end has issued and its scalar results have landed. An item with no record linked waits for one; a replay goes to the comparator; an acting spare is free again (03 R120; 15 R475, R480, R487). -/
def finishItem (s : State) (p : PTile) : State :=
  match (tile s p).run with
  | none => s
  | some r =>
    let s := modTile (dmaStop s p) p fun t => { arrStop t with run := none, shadow := none, job := { t.job with hold := .none, branch := [] } }
    let s := freeSpare s p
    if r.replay then
      match s.ctrl.patrol.replays.find? fun x => x.tile = p with
      | some x => compareReplay s x
      | none => s
    else if (itemOf s r.item).linked then s
    else modItem s r.item fun i => { i with state := .ended }

end Sys2Proof.Machine
end

