-- ==== Sys2Proof/Machine/Tick.lean ====
section
/-! DEFINITION. One tile cycle of the part: what the step does on an empty queue. The array reads, the cycle's writes take effect, then the next cycle begins with the results due in it (01 R20; 03 R80, R81, R94; 04 R150; 05 R173; 17 R543; notes/assumptions/1.md). -/

namespace Sys2Proof.Machine

open Sys2Proof

/-- An act that reads the machine when its cycle comes, after the results of that cycle have landed. -/
def isRead : Act → Bool
  | .vExec _ _ | .vReadMem _ _ _ _ _ | .vStoreLanes _ _ _ _ _ | .dmaLane _ _ _ | .dmaCheck _ | .arrLane _ _ | .arrCheck => true
  | _ => false

/-- The bytes of bad parity that remain when the bits of a mask are written into a register: a byte written whole has good parity (04 R156). -/
def goodBytes (bad : List Nat) (r : Fin 32) (mask : BitVec 2048) : List Nat :=
  if bad.isEmpty then bad else bad.filter fun b => !(b / 256 = r.val && (mask >>> (8 * (b % 256))).setWidth 8 = 0xFF#8)

/-- The result that a residue was formed beside, as a number. -/
def actValue : Act → Option (Bool × Nat)
  | .gReg c0 _ v => some (c0, v.toNat)
  | .accReg c0 _ v | .accmReg c0 _ v => some (c0, v.toNat)
  | _ => none

/-- A landing result and its residue differ: none, or whether it is the class-0 context's (15 R477). -/
def residueFails (e : Sched) : Option Bool :=
  match e.res, actValue e.act with
  | some r, some (c0, v) => if v % 3 = r then none else some c0
  | _, _ => none

/-- A residue mismatch raises ARITH_CHECK in the cycle of landing, in the flow the result belongs to (15 R477). -/
def arithFault (s : State) (p : PTile) (c0 : Bool) : State :=
  if c0 then handlerFault s p cArithCheck 0 else jobFault s p cArithCheck 0

/-- A result lands (03 R80, R82, R87, R101, R106; 04 R133, R143). -/
def landAct (s : State) (p : PTile) (e : Sched) : State :=
  match e.act with
  | .gReg c0 r v => modTile s p fun t => modBankOf t c0 fun b => { b with g := b.g.set r v }
  | .vgReg r v => modTile s p fun t => { t with job := { t.job with g := t.job.g.set r v } }
  | .aReg c0 r v => modTile s p fun t => modBankOf t c0 fun b => { b with a := b.a.set r v }
  | .cbReg c0 r v => modTile s p fun t => modBankOf t c0 fun b => { b with cb := b.cb.set r v }
  | .accReg c0 r v => modTile s p fun t => modBankOf t c0 fun b => { b with acc := b.acc.set r v }
  | .accmReg c0 r v => modTile s p fun t => modBankOf t c0 fun b => { b with accm := b.accm.set r v }
  | .dspSticky c0 bits => modTile s p fun t => modBankOf t c0 fun b => { b with dsp := b.dsp ||| bits }
  | .loopSet c0 l count start last arm => modTile s p fun t => modBankOf t c0 fun b =>
      { b with
        loopCount := b.loopCount.set l count
        loopStart := b.loopStart.set l start
        loopEnd := b.loopEnd.set l last
        loopCtrl := if arm then b.loopCtrl ||| BitVec.ofNat 32 (2 ^ l.val) else b.loopCtrl }
  | .loopClr c0 l => modTile s p fun t => modBankOf t c0 fun b => { b with loopCtrl := disarm l b.loopCtrl }
  | .ctl c0 n v => ctlWrite s p c0 n v
  | .setVl vl ew => modTile s p fun t => { t with vl := vl, vew := vewWithEw t.vew ew }
  | .vLane r mask bits => modTile s p fun t => { t with v := t.v.set r (vMerge t.v[r] mask bits), vBad := goodBytes t.vBad r mask }
  | .vewSticky bits => modTile s p fun t => { t with vew := t.vew ||| bits }
  | .vWriteMem vob bytes => modTile s p fun t => vWriteNow t s.cycle e.issue vob bytes
  | .markCopy idem => modTile s p fun t =>
      { t with shadow := some { bank := t.job, rot := t.rot, idem := idem }, run := t.run.map fun r => { r with markAt := s.cycle } }
  | .finish => finishItem s p
  | _ => s

/-- A read whose cycle has come (04 R148, R152; 05 R176, R178; 09 R282, R286). -/
def readAct (s : State) (p : PTile) (e : Sched) : State :=
  match e.act with
  | .vExec op k => vExecLane s p e.issue op k
  | .vReadMem vob ew elems due skew => vReadNow s p e.issue vob ew elems due skew
  | .vStoreLanes vob vr ew elems at_ =>
    let bad := elems.any fun x => laneBad (tile s p) (x.1 * ew / 256) vr.val
    let s := modTile s p fun t => vStoreRead t e.issue vob vr ew elems at_
    if bad then stepFault s p cVlaneParity 0 else s
  | .dmaLane c vr k => modTile s p fun t => dmaLaneRead t e.issue c vr k
  | .dmaCheck c => dmaValidate s p c e.issue
  | .arrLane vr k => modTile s p fun t => arrLaneRead t e.issue vr k
  | .arrCheck => arrValidate s p e.issue
  | _ => s

/-- The results due in the present cycle land, then the reads due are made; a tile frozen in this cycle waits (17 R543). An interrupt entry whose scalar results have landed takes its steps 3 to 6 (03 R108). -/
def landDue (s : State) (p : PTile) : State :=
  if frozen s p then s else
  let due := byIssue ((tile s p).sched.filter fun e => e.due ≤ s.cycle)
  let s := if due.isEmpty then s else modTile s p fun t => { t with sched := t.sched.filter fun e => s.cycle < e.due }
  let s := (due.filter fun e => !isRead e.act).foldl (fun s e => landAct s p e) s
  let s := (due.filterMap residueFails).foldl (fun s c0 => arithFault s p c0) s
  let s := (due.filter fun e => isRead e.act).foldl (fun s e => readAct s p e) s
  match (tile s p).entry with
  | some (src, first) => if first ≤ s.cycle + 8 then modTile s p fun t => entryDone t src first else s
  | none => s

/-- A store into one tile memory, with good parity. -/
def commitOne (t : Tile) (c : Commit) : Tile :=
  let good (l : List Nat) : List Nat := l.filter fun b => b < c.addr || c.addr + c.bytes.length ≤ b
  match c.space with
  | .core => { t with core := memWrite t.core c.addr c.bytes, coreBad := good t.coreBad }
  | .weight => { t with wbuf := memWrite t.wbuf c.addr c.bytes, wbufBad := good t.wbufBad }
  | .act => { t with abuf := memWrite t.abuf c.addr c.bytes, abufBad := good t.abufBad }
  | .vob => { t with vob := memWrite t.vob c.addr c.bytes, vobBad := good t.vobBad }

/-- The writes of the cycle take effect, the higher rank last: L0, then L1 and the engine, then the vector engine, then the array's drain (03 R94, 04 R150, 05 R173). -/
def commitTile (t : Tile) : Tile :=
  if t.commits.isEmpty then t else
  [0, 1, 2, 3].foldl (fun t k => (t.commits.filter fun c => c.rank = k).foldl commitOne t) t |> fun t => { t with commits := [] }

/-- A cycle in which a whole tile is frozen passes: every time of the tile moves on by one (17 R543). -/
def later (x : Nat) : Nat := if x = 0 then 0 else x + 1

/-- A frozen channel a cycle later. -/
def laterChannel (c : Channel) : Channel :=
  { c with
    active := c.active.map fun r => { r with
      since := later r.since
      staged := r.staged.map fun b => { b with due := b.due + 1 }
      effect := later r.effect
      lineAt := later r.lineAt
      lastReturn := later r.lastReturn }
    pend := c.pend.map fun x => { x with t0 := x.t0 + 1 }
    freeAt := later c.freeAt }

/-- A frozen array a cycle later. -/
def laterArray (a : ArrayUnit) : ArrayUnit :=
  { a with
    descs := a.descs.map fun r => { r with
      t0 := r.t0 + 1
      spanAt := later r.spanAt
      sums := r.sums.map fun x => { x with due := x.due + 1 }
      lastLand := later r.lastLand
      lastWrite := later r.lastWrite
      crops := r.crops.map fun x => { x with due := x.due + 1 } }
    lastSpanStart := later a.lastSpanStart
    prevEnd := later a.prevEnd
    dEnd := later a.dEnd
    setReady := a.setReady.map later
    drains := a.drains.map fun x => { x with t0 := x.t0 + 1, due := x.due + 1 } }

/-- A frozen tile a cycle later (17 R543). -/
def laterTile (t : Tile) : Tile :=
  { t with
    job := { t.job with hold := (match t.job.hold with | .mark u => .mark (u + 1) | h => h), fetchAt := later t.job.fetchAt }
    switchAt := later t.switchAt
    entry := t.entry.map fun e => (e.1, e.2 + 1)
    reissueAt := t.reissueAt.map (· + 1)
    vReissueAt := t.vReissueAt.map (· + 1)
    nintEnd := later t.nintEnd
    pairEnd := later t.pairEnd
    lastIssue := later t.lastIssue
    port0 := t.port0.map (· + 1)
    port0Old := t.port0Old.map (· + 1)
    portV := t.portV.map (· + 1)
    sched := t.sched.map fun e => { e with due := e.due + 1, issue := e.issue + 1 }
    fetchLog := t.fetchLog.map fun o => { o with at_ := o.at_ + 1 }
    arr := laterArray t.arr
    dma := { t.dma with ch := t.dma.ch.map laterChannel, stopping := t.dma.stopping.map (· + 1) }
    run := t.run.map fun r => { r with idle := r.idle + 1, markAt := later r.markAt } }

/-- Channels of a tile in PACED or waiting for admission, and in CREDIT, in the present cycle (09 R308, R318). -/
def countWaits (s : State) (p : PTile) : State :=
  (List.finRange 8).foldl (fun s c =>
    match (chan s p c).active with
    | none => s
    | some r =>
      let st := field 10 8 (dmaStatus s p c).toNat
      let total := patTotal (srcPattern r.desc)
      let waits := mOp r.desc = 3 && !r.linked && r.cells.isEmpty && 0 < total && (enqueueBytes r).length = min 64 total && !admits s (mQueue r.desc) (ceilDiv total 64)
      if st = 2 || waits then roAdd s (oDmaPacedCycles p.val) 1
      else if st = 3 then roAdd s (oDmaCreditCycles p.val) 1
      else s) s

/-- The system controller writes the next block of the input descriptor through port 1, in a cycle in which the core's L1 slot made no access (03 R95; 08 R257, R264; 09 R289). -/
def descriptorWrite (s : State) (p : PTile) : State :=
  let t := tile s p
  match t.descWrites with
  | [] => s
  | w :: rest =>
    if t.l1Used = s.cycle + 1 then s
    else modTile (roAdd s (oTilePort1DmaCycles p.val) 1) p fun t =>
      { t with descWrites := rest, commits := t.commits ++ [{ space := .core, addr := w.1, bytes := w.2, rank := 1 }] }

/-- The end of the present cycle on one tile (05 R173; 08 R268; 17 R543; 14 R450). -/
def tileEnd (s : State) (p : PTile) : State :=
  let s := scrubTick s p
  if frozen s p then
    let s := roAdd (markItem s p flagTimingVaried) oPowerIdleCycles 1
    modTile s p fun t => laterTile (commitTile t)
  else
    let s := arrayTick (countWaits (descriptorWrite s p) p) p
    modTile s p fun t =>
      let t := commitTile t
      { t with port0 := t.port0.filter (s.cycle < ·), port0Old := t.port0Old.filter (s.cycle < ·), portV := t.portV.filter (s.cycle < ·) }

/-- The Meadow and HBM writes of the cycle take effect in the order of their grants; a byte written has good parity and ECC (08 R254, R255). -/
def commitShared (s : State) : State :=
  let mw := s.meadow.commits
  let hw := s.hbm.commits
  { s with
    meadow := if mw.isEmpty then s.meadow else { s.meadow with
      mem := mw.foldl (fun m c => memPut m c.1 c.2) s.meadow.mem
      bad := s.meadow.bad.filter fun b => !mw.any fun c => c.1 = b
      commits := [] }
    hbm := if hw.isEmpty then s.hbm else { s.hbm with
      mem := hw.foldl (fun m c => memPut m c.1 c.2) s.hbm.mem
      flips := s.hbm.flips.filter fun f => !hw.any fun c => c.1 = f.1
      commits := [] } }

/-- TICK_OUT rises 20 ns after its boundary (02 R51). -/
def raiseTickOut (s : State) : State :=
  if s.power.tickOutAt = some s.cycle then { s with power := { s.power with tickOut := true } } else s

/-- One tile cycle passes (02 R39). -/
def tickCycle (s : State) : State :=
  let s := countMeadowWaits (berylMemory s)
  let s := (List.finRange 72).foldl tileEnd s
  let s := queueMarks (commitShared s)
  let s := { s with cycle := s.cycle + 1, ctrl := { s.ctrl with vecUnit := unitTick s.ctrl.vecUnit (s.cycle + 1) } }
  (List.finRange 72).foldl landDue (berylReplies (portCycle (portCycle (alarmFrames (raiseTickOut s)) 0) 1))

end Sys2Proof.Machine
end

