-- ==== Sys2Proof/Machine/Power.lean ====
section
/-! DEFINITION. Power, supplies and clocks: the condition of FAULT_N, wake-ups, lowering, the cap, supply, clock and thermal events, the power-fail commit they start, and the PPS pins (15 R488, R489; 16 R507 to R512; 17 R535 to R553; 18 R571). -/

namespace Sys2Proof.Machine

open Sys2Proof

/-! The fault state. -/

/-- Window of each rail in mV, in the order of power.rails (18 R564, R565). -/
def railWindows : List (Nat × Nat) :=
  [(720, 780), (1710, 1890), (1710, 1890), (1746, 1854), (720, 780), (770, 830), (825, 875), (1067, 1133), (388, 412), (1746, 1854), (3201, 3399), (720, 780)]

/-- A rail stands outside its window (17 R546). -/
def railOut (s : State) (i : Nat) : Bool :=
  match railWindows[i]?, s.power.rails[i]? with
  | some w, some v => v < w.1 || w.2 < v
  | _, _ => false

/-- A PLL is locked: 0, 1 core, 2 HBM, 3 and 4 Ethernet, 5 to 8 Beryl (17 R548). -/
def pllLocked (s : State) (k : Nat) : Bool := s.power.pll.contains k

/-- PLLs that serve have failed: both core PLLs, the HBM PLL, or the PLL of a port in Run (17 R549). -/
def pllFailed (s : State) : Bool :=
  (2 ≤ s.power.phase && !pllLocked s 0 && !pllLocked s 1)
    || (domainState s 82 = 0 && !pllLocked s 2)
    || (List.range 6).any fun i => domainState s (84 + i) = 0 && !pllLocked s (3 + i)

/-- A vacant id to which the plan in force binds items (15 R488). -/
def boundVacant (s : State) : Bool :=
  match s.ctrl.plan with
  | none => false
  | some p => s.ctrl.vacant.any fun id => match p.tiles[id]? with | some t => t.entryCount ≠ 0 | none => false

/-- A DANGEROUS condition persists (15 R488, R489; 17 R551). -/
def dangerStands (s : State) : Bool :=
  boundVacant s || !s.ctrl.dangerous.isEmpty || (List.range 12).any (railOut s) || 105 ≤ s.power.junction
    || !s.power.refclk || !s.power.ethRefclk || pllFailed s

/-- FAULT_N is asserted: a DANGEROUS condition is latched, EXTEST is loaded, or the start-up self-tests have not passed (15 R489; 16 R521; 17 R553, R556). -/
def faultN (s : State) : Bool := s.ctrl.latched || s.power.extest || s.power.phase < 7 || s.power.phase = 9

/-- A write of fault.clear: it takes effect only when no DANGEROUS condition remains (15 R489). -/
def faultClear (s : State) (on : Bool) : Nat × State :=
  if on && !dangerStands s then (cDone, { s with ctrl := { s.ctrl with latched := false } }) else (cDone, s)

/-- FAULT_CLEAR (15 R489). -/
def execFaultClear (on : Bool) (s : State) : Host.Outcome State Fault Refusal := answered (faultClear s on)

/-! The power-fail commit. -/

/-- Alarm records not yet sent, oldest first (16 R511). -/
def heldAlarms (s : State) : List AlarmTx :=
  s.ctrl.msgs.filterMap fun m => match m.2.alarm with | some x => some x | none => m.2.ended

/-- An entry of ALARM: the 96-byte payload, JOB_ID, CODE and the physical tile (16 R511). -/
def alarmEntry (s : State) (x : AlarmTx) : List Byte :=
  (if x.body.isEmpty then List.replicate 96 0 else alarmHeader s x ++ slice x.body 0 64) ++ leBytes 2 x.job ++ leBytes 2 x.code ++ leBytes 1 x.ptile.val ++ List.replicate 11 0

/-- The record of an entry of the present tick was sent by the result egress (16 R511). -/
def entrySent (s : State) (i : Nat) : Bool := s.ctrl.items.any fun x => x.2.tick = s.ctrl.tick && x.2.entry = i && x.2.recorded

/-- SENT (16 R511). -/
def sentBits (s : State) (n : Nat) : List Byte :=
  (List.range 8192).map fun b => BitVec.ofNat 8 ((List.range 8).foldl (fun v i => if 8 * b + i < n && entrySent s (8 * b + i) then v + 2 ^ i else v) 0)

/-- The body of the power-fail record (16 R511). -/
def powerFailBody (s : State) : List Byte :=
  let n := match s.ctrl.plan with | some p => if s.ctrl.runs then p.entries.length else 0 | none => 0
  let alarms := heldAlarms s
  leBytes 8 s.ctrl.tick ++ leBytes 8 s.ctrl.runTick ++ leBytes 8 s.ctrl.event ++ leBytes 8 s.ctrl.seq ++ leBytes 8 s.ctrl.nseq ++ leBytes 8 (nowNs s)
    ++ slice (s.ctrl.sealSent.getD []) 0 48 ++ slice (match s.ctrl.plan with | some p => p.digest | none => []) 0 48
    ++ leBytes 4 n ++ leBytes 4 0xFFFFFFFF ++ leBytes 1 (min 64 alarms.length) ++ leBytes 1 (min 255 (alarms.length - 64)) ++ List.replicate 6 0
    ++ sentBits s n
    ++ ((alarms.take 64).flatMap (alarmEntry s) ++ List.replicate 7168 0).take 7168

/-- A tile in Off: only what the spares map and the fault history hold is kept (17 R536). -/
def tileOff (t : Tile) : Tile :=
  { role := t.role, logical := t.logical, power := 4, bistPass := t.bistPass, hwTimes := t.hwTimes, suspectTimes := t.suspectTimes }

/-- The power-fail commit starts: alarms already emitted leave, the record is assembled, and every domain but the enclave, the controller and the always-on one goes to Off with what it held (16 R508, R511; 17 R536, R541; notes/assumptions/29.md). -/
def startCut (s : State) (cause : Nat) : State :=
  if s.power.cut.isSome || s.power.phase = 10 then s else
  let s := drainAlarms ((byTile s.eth.alarms).foldl alarmOut { s with eth := { s.eth with alarms := [] } })
  let body := powerFailBody s
  { s with
    tiles := s.tiles.map tileOff
    meadow := {}
    hbm := { fused := s.hbm.fused, lanes := s.hbm.lanes, badLanes := s.hbm.badLanes, remaps := s.hbm.remaps, temp := s.hbm.temp }
    beryl := { sent := s.beryl.sent }
    queues := {}
    intake := {}
    eth := { pulses := s.eth.pulses, time0 := s.eth.time0, time0At := s.eth.time0At, rate := s.eth.rate }
    alaust := { ring := s.alaust.ring }
    saving := []
    ctrl := { tick := s.ctrl.tick, nseq := s.ctrl.nseq, seq := s.ctrl.seq, event := s.ctrl.event, latched := s.ctrl.latched, dangerous := s.ctrl.dangerous, degraded := s.ctrl.degraded, sealSent := s.ctrl.sealSent }
    power := { s.power with
      blocks := (Vector.replicate 10 4).push 0 |>.push 0 |>.push 0
      wake := []
      waking := []
      lower := []
      cut := some { cause := cause, body := body } } }

/-- PWR_FAIL_N_FALL: PWR_FAIL_N falls, and the part times its low level (16 R507). -/
def execPwrFailNFall (s : State) : Host.Outcome State Fault Refusal := .next { s with power := { s.power with powerFail := true } }

/-- PWR_FAIL_ACCEPT: low for 1 µs, PWR_FAIL_N starts the power-fail commit (16 R507, R508). -/
def execPwrFailAccept (s : State) : Host.Outcome State Fault Refusal := if s.power.powerFail then .next (startCut s 1) else .next s

/-- EXTEST_LOAD: service stops as a power-fail commit stops it, and FAULT_N is asserted until PORST_N (16 R521). -/
def execExtestLoad (s : State) : Host.Outcome State Fault Refusal :=
  let s := startCut s 6
  .next { s with power := { s.power with extest := true } }

/-- A write of reset.request: 1 starts the power-fail commit that a reset follows (17 R552, R558). -/
def resetRequest (s : State) (v : Nat) : Nat × State :=
  if 1 < v then (cValueRange, s) else if v = 1 then (cDone, startCut s 3) else (cDone, s)

/-- RESET_REQUEST (17 R552). -/
def execResetRequest (v : BitVec 8) (s : State) : Host.Outcome State Fault Refusal := answered (resetRequest s v.toNat)

/-! The cap. -/

/-- power.measured: the average of the samples of the last 1 ms (17 R542). -/
def measuredPower (s : State) : Nat := if s.power.samples.isEmpty then 0 else s.power.samples.foldl (· + ·) 0 / s.power.samples.length

/-- An I16 object in force. -/
def cfgInt16 (s : State) (k : Nat) : Int := signedOf 16 (cfgNat s k)

/-- POWER_MEASURE: a power sample, with the highest junction sensor and the rail voltages (17 R542, R544, R546). -/
def execPowerMeasure (mw : BitVec 32) (junction : Int) (rails : List (BitVec 16)) (s : State) : Host.Outcome State Fault Refusal :=
  .next { s with power := { s.power with
    samples := (mw.toNat :: s.power.samples).take 100
    junction := junction
    rails := (List.range 12).map fun i => match rails[i]? with | some v => v.toNat | none => (s.power.rails[i]?).getD 0 } }

/-- THROTTLE_UPDATE: once per millisecond L moves by the cap rule; it takes effect at the next step boundary, and POWER_CAP_ACTIVE is raised as it leaves 0 (17 R542). -/
def execThrottleUpdate (s : State) : Host.Outcome State Fault Refusal :=
  if !cfgOn s oPowerCapEnable then .next { s with power := { s.power with next := 0 } }
  else
    let avg := measuredPower s
    let cap := cfgNat s oPowerCap * 1000
    let limit := cfgInt16 s oPowerTempLimit
    let l := s.power.next
    let n := if cap < avg || limit ≤ s.power.junction then min (l + 1) 12
      else if avg * 100 < 95 * cap && s.power.junction < limit - 2 then l - 1
      else l
    let s' := { s with power := { s.power with next := n } }
    .next (if l = 0 && n ≠ 0 then notify s' cPowerCapActive 0 0 else s')

/-- THERMAL_LIMIT: a sensor at 105 °C or more for 1 ms (17 R544, R551). -/
def execThermalLimit (degrees : Int) (s : State) : Host.Outcome State Fault Refusal :=
  let s := { s with power := { s.power with junction := max s.power.junction degrees } }
  if 105 ≤ degrees then .next (danger (notify (lastCode s cThermalLimit) cThermalLimit 0 0 (leBytes 2 (wrapTo 16 degrees))) cThermalLimit false) else .next s

/-- THERMAL_TRIP: at 115 °C the part performs the power-fail commit and enters HELD (17 R544). -/
def execThermalTrip (degrees : Int) (s : State) : Host.Outcome State Fault Refusal :=
  if 115 ≤ degrees then .next (startCut { s with power := { s.power with junction := max s.power.junction degrees } } 4) else .next s

/-! Supplies. -/

/-- SUPPLY_RANGE: a rail outside its window for 1 µs (17 R546, R551). -/
def execSupplyRange (rail : Fin 12) (mv : BitVec 16) (s : State) : Host.Outcome State Fault Refusal :=
  let s := { s with power := { s.power with rails := s.power.rails.set rail.val mv.toNat } }
  if railOut s rail.val then .next (danger (notify (lastCode s cSupplyRange) cSupplyRange 0 0 (leBytes 1 rail.val)) cSupplyRange false) else .next s

/-- SUPPLY_FAIL: VDD_CORE, VDD_IO or VDD_AON outside its window for 100 µs acts as the fall of PWR_FAIL_N (17 R546). -/
def execSupplyFail (rail : Fin 12) (s : State) : Host.Outcome State Fault Refusal :=
  if rail = 0 || rail = 1 || rail = 4 then .next (startCut s 1) else .next s

/-! Clocks. -/

/-- PLL_FAIL: the failure is dangerous; that of the core pair or the HBM PLL starts a power-fail commit (17 R549, R551, R552). -/
def pllFail (s : State) (kind source : Nat) (cut : Bool) : State :=
  let s := danger (notify (lastCode s cPllFail) cPllFail kind source) cPllFail false
  if cut then startCut s 5 else s

/-- PLL_LOCK_LOSS: the active core PLL is replaced by the other without a glitch, or PLL_FAIL is raised; a failed port PLL takes its port down (17 R549). -/
def execPllLockLoss (pll : Fin 9) (s : State) : Host.Outcome State Fault Refusal :=
  if !pllLocked s pll.val then .next s else
  let k := pll.val
  let s := { s with power := { s.power with pll := setErase s.power.pll k } }
  if k < 2 then
    if !pllLocked s (1 - k) then .next (pllFail s 0 0 true)
    else if s.power.pllActive = k then .next (degrade (notify { s with power := { s.power with pllActive := 1 - k } } cPllSpared 0 0) cPllSpared)
    else .next s
  else if k = 2 then .next (pllFail s 0 0 true)
  else if k < 5 then
    if domainState s (81 + k) = 0 then .next (pllFail (linkDown s ⟨(k - 3) % 2, by omega⟩) 4 (k - 3) false) else .next s
  else if domainState s (81 + k) = 0 then .next (pllFail (portGoesDown s ⟨(k - 5) % 4, by omega⟩ cPllFail false) 4 (k - 5) false)
  else .next s

/-- REFCLK_LOSS: a reference clock shows no edge for 1 µs. The PLLs of REFCLK_25 hold their frequency; loss of ETH_REFCLK takes both ports down until it returns (17 R550, R551). -/
def execRefclkLoss (eth : Bool) (s : State) : Host.Outcome State Fault Refusal :=
  let s := danger (notify (lastCode s cRefclkLoss) cRefclkLoss 0 (if eth then 1 else 0)) cRefclkLoss false
  if !eth then .next { s with power := { s.power with refclk := false } }
  else if !s.power.ethRefclk then .next s
  else
    let up := ([0, 1] : List (Fin 2)).filter fun e => (ethPort s e).link
    let held := up.map fun e => e.val + (if (ethPort s e).fec then 2 else 0) + 4 * (ethPort s e).speed
    let s := { s with power := { s.power with ethRefclk := false, linksHeld := held, pll := s.power.pll.filter fun k => k ≠ 3 && k ≠ 4 } }
    .next (([0, 1] : List (Fin 2)).foldl linkDown s)

/-- REFCLK_RETURN: REFCLK_25 has run for 10 ms again, and the PLLs relock by slewing (17 R550). -/
def execRefclkReturn (s : State) : Host.Outcome State Fault Refusal := .next { s with power := { s.power with refclk := true } }

/-- ETH_REFCLK_RETURN: the Ethernet PLLs lock again and both ports come back (17 R550). -/
def execEthRefclkReturn (s : State) : Host.Outcome State Fault Refusal :=
  if s.power.ethRefclk then .next s else
  let held := s.power.linksHeld
  let locks := [3, 4].filter fun k => domainState s (81 + k) = 0
  let s := { s with power := { s.power with ethRefclk := true, linksHeld := [], pll := locks.foldl setInsert s.power.pll } }
  .next (([0, 1] : List (Fin 2)).foldl (fun s e =>
    match held.find? fun x => x % 2 = e.val with
    | some x => linkUp s e (x / 4) (x / 2 % 2 = 1)
    | none => s) s)

/-! Wake-ups. -/

/-- WAKE_ADMISSION_SLOT: the head of the queue is admitted, and its exit time runs; those that stay wait a slot (17 R540). -/
def execWakeAdmissionSlot (s : State) : Host.Outcome State Fault Refusal :=
  match s.power.wake with
  | [] => .next s
  | w :: r => .next (roAdd { s with power := { s.power with wake := r, waking := setInsert s.power.waking w.domain } } oPowerWakeWaits r.length)

/-- The code image of a logical tile: what its plan's tile record names, read from the package in HBM (16 R525, R528). -/
def codeImage (s : State) (lid : Nat) : List Byte :=
  match s.ctrl.plan with
  | none => []
  | some p => match p.tiles[lid]? with
    | none => []
    | some t => if t.codeLen = 0 then [] else (chipRead s (p.base + t.codeOff) t.codeLen).1

/-- The code image of its id written into a tile's core memory from address 0, 64 bytes in a port-1 cycle each, with the class-0 window of the plan (08 R257; 16 R525, R528). -/
def writeCode (s : State) (p : PTile) : State :=
  let b := codeImage s (tile s p).logical
  let w := match s.ctrl.plan with | some pl => (match pl.tiles[(tile s p).logical]? with | some t => t.c0Window | none => 0) | none => 0
  let s := roAdd s (oTilePort1DmaCycles p.val) (ceilDiv b.length 64)
  modTile s p fun t => { t with core := memWrite t.core 0 b, coreBad := t.coreBad.filter (b.length ≤ ·), c0Window := w }

/-- A tile that leaves Nap or Off: its memories hold 0, a tile from Nap keeps its class-0 bank, and the code image of its id is written (08 R265; 16 R528; 17 R536). -/
def leaveNap (s : State) (p : PTile) (off : Bool) : State :=
  let s := modTile s p fun t => { tileOff t with c0 := if off then {} else t.c0, c0Window := t.c0Window }
  writeCode s p

/-- A tile changes to a state: from Nap or Off into any higher one its memories are 0 (08 R265; 17 R536). -/
def changeTile (s : State) (p : PTile) (st : Nat) : State :=
  let was := (tile s p).power
  setDomain (if 3 ≤ was && st < was then leaveNap s p (was = 4) else s) p.val st

/-- A lowering request: it takes a queued wake-up out of the queue; a tile is lowered once it is idle, never below Hold while it carries handlers (17 R537, R538, R540). -/
def requestLower (s : State) (d st : Nat) : State :=
  let s := { s with power := { s.power with wake := s.power.wake.filter fun w => w.domain ≠ d } }
  if h : d < 72 then
    let st := if 1 < st && carriesHandlers s ⟨d, h⟩ then 1 else st
    if (tile s ⟨d, h⟩).power = st then s
    else if tileIdle (tile s ⟨d, h⟩) && !s.power.waking.contains d then changeTile s ⟨d, h⟩ st
    else { s with power := { s.power with lower := smPut s.power.lower d st } }
  else setDomain s d st

/-- A request for a state of a domain. -/
def requestState (s : State) (d st : Nat) : State := if st = 0 then requestRun s d else requestLower s d st

/-- A domain reaches Run (08 R265; 17 R536, R548). -/
def enterRun (s : State) (d : Nat) : State :=
  let st := domainState s d
  if h : d < 72 then changeTile s ⟨d, h⟩ 0 else
  let s := setDomain s d 0
  if d = 80 || d = 81 then (if st = 4 then { s with meadow := { s.meadow with mem := s.meadow.mem.filter fun c => meadowBank (c.1 / 128) % 2 ≠ d - 80, bad := s.meadow.bad.filter fun a => meadowBank (a / 128) % 2 ≠ d - 80 } } else s)
  else if d = 82 then { s with power := { s.power with pll := setInsert s.power.pll 2 }, hbm := if st = 4 then { s.hbm with mem := [], flips := [] } else s.hbm }
  else if 84 ≤ d && d < 90 then
    if d < 86 && !s.power.ethRefclk then s else { s with power := { s.power with pll := setInsert s.power.pll (d - 81) } }
  else s

/-- DOMAIN_IN_RUN: an admitted domain reaches Run at the end of its exit time (17 R536, R540). -/
def execDomainInRun (d : Fin 93) (s : State) : Host.Outcome State Fault Refusal :=
  if s.power.waking.contains d.val then .next (enterRun { s with power := { s.power with waking := setErase s.power.waking d.val } } d.val) else .next s

/-- TILE_LOWER: a lowering request takes effect once the tile is idle (17 R537). -/
def execTileLower (p : PTile) (s : State) : Host.Outcome State Fault Refusal :=
  match smFind s.power.lower p.val with
  | none => .next s
  | some st =>
    if tileIdle (tile s p) && !s.power.waking.contains p.val then .next (changeTile { s with power := { s.power with lower := smDel s.power.lower p.val } } p st)
    else .next s

/-! PPS. -/

/-- PPS_OUT_SECOND: PPS_OUT rises at a whole second of the time base, after the first boundary and while pps.out_enable is TRUE (17 R553, 18 R571). -/
def execPpsOutSecond (s : State) : Host.Outcome State Fault Refusal :=
  if s.power.phase = 8 && cfgOn s oPpsOutEnable then .next { s with power := { s.power with ppsOut := true } } else .next s

/-- PPS_OUT_END: PPS_OUT falls 100 ms after its rise (18 R570). -/
def execPpsOutEnd (s : State) : Host.Outcome State Fault Refusal := .next { s with power := { s.power with ppsOut := false } }

/-- PPS_IN_EDGE: a rising edge of PPS_IN is timestamped and compared with its nearest whole second (18 R571). -/
def execPpsInEdge (s : State) : Host.Outcome State Fault Refusal :=
  let t := nowNs s
  let r := t % 1000000000
  let off : Int := if r ≤ 500000000 then r else (r : Int) - 1000000000
  .next (roAdd (roPut (roPut s oPpsInTime t) oPpsInOffset (wrapTo 64 off)) oPpsInCount 1)

end Sys2Proof.Machine
end

