-- ==== Sys2Proof/Machine/Health.lean ====
section
/-! DEFINITION. Spares, BIST, region isolation, and the checks of the random generators, the system controller and the enclave (01 R22 to R25; 15 R480 to R484, R490). -/

namespace Sys2Proof.Machine

open Sys2Proof

/-! Spares. -/

/-- A SPARE that is free: not acting, not in BIST, and not voted against (15 R480). -/
def spareFree (s : State) (p : PTile) : Bool := (tile s p).role = 1 && !s.ctrl.withdraw.contains p

/-- The spare for a tile of region r: that of the region, else that of the lowest region that has one (01 R24, 15 R480). -/
def spareFor (s : State) (r : Nat) (ok : PTile → Bool) : Option PTile :=
  match (regionTiles r).find? fun p => spareFree s p && ok p with
  | some p => some p
  | none => (List.finRange 72).find? fun p => spareFree s p && ok p

/-- The memories of a tile hold 0 with good parity (08 R265, R269). -/
def wipeTile (t : Tile) : Tile :=
  { t with core := [], wbuf := [], abuf := [], vob := [], coreBad := [], wbufBad := [], abufBad := [], vobBad := [], arr := { t.arr with acc := Vector.replicate 2 [] } }

/-- A tile enters BIST, which runs in Run (15 R484; 17 R541). -/
def enterBist (s : State) (p : PTile) : State :=
  let s := modTile s p fun t =>
    { tileOff t with role := 3, logical := 255, power := t.power, bistEnd := true,
                     core := t.core, wbuf := t.wbuf, abuf := t.abuf, vob := t.vob }
  requestRun s p.val

/-- A tile is RETIRED for good (15 R480, R488). -/
def retireTile (s : State) (p : PTile) : State :=
  let s := modTile s p fun t => { tileOff t with role := 5, logical := 255 }
  let s := { s with power := { s.power with wake := s.power.wake.filter fun w => w.domain ≠ p.val } }
  degrade (notify s cTileRetired 3 p.val) cTileRetired

/-- A tile takes a logical id: the class-0 bank of the id and what waits for it come with it, and the code image of the id is written (01 R23; 15 R484; 16 R528). -/
def takeId (s : State) (id : Nat) (from_ : Option Tile) (p : PTile) (wipe : Bool) : State :=
  let s := modTile s p fun t =>
    let t := if wipe then wipeTile t else t
    let t := { t with role := 0, logical := id }
    match from_ with
    | some o => { t with c0 := o.c0, trigs := o.trigs, c0wait := o.c0wait, bells := o.bells }
    | none => { t with c0 := zeroBank }
  requestRun (writeCode s p) p.val

/-- An id with no SPARE to take it becomes vacant (15 R481, R488). -/
def vacate (s : State) (id : Nat) (p : PTile) : State :=
  let s := { s with ctrl := { s.ctrl with vacant := setInsert s.ctrl.vacant id, vacatedBy := smPut s.ctrl.vacatedBy id p.val } }
  let s := notify s cSpareExhausted 0 id
  if boundVacant s then danger s cSpareExhausted false else degrade s cSpareExhausted

/-- The id of a tile passes to a spare, or becomes vacant (01 R23, R24; 15 R480, R481). -/
def passId (s : State) (p : PTile) (o : Tile) (ok : PTile → Bool) : State :=
  if o.logical = 255 then s else
  match spareFor s (p.val / 9) ok with
  | some q => degrade (takeId s o.logical (some o) q false) 0
  | none => vacate s o.logical p

/-- A class-0 handler runs on the tile: its id does not pass at this boundary (notes/assumptions/30.md). -/
def holdsHandler (s : State) (p : PTile) : Bool := (tile s p).c0run.isSome

/-- A SUSPECT tile at the boundary: its id passes, and it enters BIST, or is RETIRED on its third time within 24 h (15 R480). -/
def withdrawTile (s : State) (p : PTile) : State :=
  let o := tile s p
  let times := o.suspectTimes.filter fun x => nowNs s < x + 86400000000000
  let s := modTile s p fun t => { t with logical := 255, role := if t.role = 1 then 1 else 4, suspectTimes := times }
  let s := passId s p o fun _ => true
  if 3 ≤ times.length then retireTile s p else enterBist s p

/-- Every withdrawal due at the boundary (15 R480). -/
def withdrawTiles (s : State) : State :=
  let now := s.ctrl.withdraw.filter fun p => !holdsHandler s p
  if now.isEmpty then s else
  let s := now.foldl withdrawTile s
  journalSpares { s with ctrl := { s.ctrl with withdraw := s.ctrl.withdraw.filter fun p => !now.contains p } }

/-- A region isolated at the boundary: its nine tiles go Off, and their ids pass to spares of other regions (15 R482). -/
def isolateRegion (s : State) (r : Nat) : State :=
  let tiles := (regionTiles r).filter fun p => (tile s p).role ≠ 5 && (tile s p).role ≠ 6
  let olds := tiles.map fun p => (p, tile s p)
  let s := tiles.foldl (fun s p => modTile s p fun t => { tileOff t with role := 6, logical := 255 }) s
  let s := { s with
    ctrl := { s.ctrl with isolated := setInsert s.ctrl.isolated r, isolating := setErase s.ctrl.isolating r, withdraw := s.ctrl.withdraw.filter fun p => p.val / 9 ≠ r }
    power := { s.power with wake := s.power.wake.filter fun w => !tiles.any fun p => w.domain = p.val } }
  let s := notify (lastCode s cRegionIsolated) cRegionIsolated 0 r
  olds.foldl (fun s o => if o.2.role = 0 || o.2.role = 4 then passId s o.1 o.2 fun _ => true else s) s

/-- Every isolation due at the boundary (15 R482). -/
def isolateRegions (s : State) : State := if s.ctrl.isolating.isEmpty then s else journalSpares (s.ctrl.isolating.foldl isolateRegion s)

/-- Vacant ids filled again, each by the free SPARE of the region of the tile that last held it, else of the lowest region that has one (01 R24; 15 R481). -/
def fillVacant (s : State) : State :=
  let r := s.ctrl.vacant.foldl (fun (a : State × Bool) id =>
    match spareFor a.1 (smGet 0 a.1.ctrl.vacatedBy id / 9) fun _ => true with
    | some q => (degrade (takeId { a.1 with ctrl := { a.1.ctrl with vacant := setErase a.1.ctrl.vacant id, vacatedBy := smDel a.1.ctrl.vacatedBy id } } id none q false) 0, true)
    | none => a) (s, false)
  if r.2 then journalSpares r.1 else s

/-- The tile of a region that rotates: IN_SERVICE, its last BIST pass the oldest, the lower physical number first (15 R484). -/
def oldestTile (s : State) (r : Nat) : Option PTile :=
  ((regionTiles r).filter fun p => (tile s p).role = 0).foldl (fun (a : Option PTile) p =>
    match a with
    | some q => if (tile s p).bistPass < (tile s q).bistPass then some p else a
    | none => some p) none

/-- The rotation of a region waits: its spare is ACTING, or a handler runs on the tile (15 R484; notes/assumptions/30.md). -/
def rotationWaits (s : State) (r : Nat) : Bool :=
  (regionTiles r).any (fun p => (tile s p).role = 2) || match oldestTile s r with | some p => holdsHandler s p | none => false

/-- A rotation: the spare takes the id of the tile, which enters BIST (15 R484). -/
def rotateRegion (s : State) (r : Nat) : State :=
  match oldestTile s r, spareFor s r (fun _ => true) with
  | some p, some q =>
    let o := tile s p
    enterBist (takeId (modTile s p fun t => { t with logical := 255 }) o.logical (some o) q true) p
  | _, _ => s

/-- The rotations due at the boundary (15 R484). -/
def rotateRegions (s : State) : State :=
  let now := s.ctrl.rotate.filter fun r => !rotationWaits s r
  if now.isEmpty then s else
  let s := now.foldl rotateRegion s
  journalSpares { s with ctrl := { s.ctrl with rotate := s.ctrl.rotate.filter fun r => !now.contains r } }

/-- The age of the oldest BIST pass of a tile IN_SERVICE; BIST_OVERDUE as one passes 10 s, last looked at in time since (15 R484, R488). -/
def bistAges (s : State) (since : Nat) : State :=
  let now := nowNs s
  (List.finRange 72).foldl (fun s p =>
    let t := tile s p
    if t.role ≠ 0 then s else
    let s := roMax s oFaultBistAgeMax (now - t.bistPass)
    if 10000000000 < now - t.bistPass && since - t.bistPass ≤ 10000000000 then degrade (notify s cBistOverdue 3 p.val) cBistOverdue else s) s

/-- BIST_ROTATION: the second of a region has come, and it rotates at the next tick boundary (15 R484). -/
def execBistRotation (r : Fin 8) (s : State) : Host.Outcome State Fault Refusal :=
  if s.power.phase ≠ 8 || s.ctrl.isolated.contains r.val then .next s
  else .next { s with ctrl := { s.ctrl with rotate := setInsert s.ctrl.rotate r.val } }

/-- BIST_END: BIST ends by wiping the tile's memories; the tile becomes a SPARE on a pass and is RETIRED on a fail (15 R480, R484). -/
def execBistEnd (p : PTile) (pass : Bool) (s : State) : Host.Outcome State Fault Refusal :=
  if !(tile s p).bistEnd || s.power.phase < 7 then .next s
  else if pass then
    let s := roAdd s (oTileBistPasses p.val) 1
    let s := modTile s p fun t => { wipeTile t with role := 1, logical := 255, bistEnd := false, bistPass := nowNs s }
    .next (journalSpares (requestLower s p.val 2))
  else .next (journalSpares (retireTile (notify (lastCode s cBistFail) cBistFail 3 p.val) p))

/-! Regions. -/

/-- REGION_MONITOR_TRIP: a clock or supply monitor of a region trips against every attempt that runs in it; long says that the trip lasts more than 1 µs (15 R482). -/
def execRegionMonitorTrip (r : Fin 8) (supply long : Bool) (s : State) : Host.Outcome State Fault Refusal :=
  let code := if supply then cRegionSupply else cRegionClock
  let s := (regionTiles r.val).foldl (fun s p => if (tile s p).run.isSome then jobFault s p code 0 else s) (lastCode s code)
  .next (regionFault s r.val long)

/-! The enclave and the system controller. -/

/-- TRNG_HEALTH_FAIL: the active generator fails its health test; g names the generator (15 R483, R488). -/
def execTrngHealthFail (g : Bool) (s : State) : Host.Outcome State Fault Refusal :=
  if s.ctrl.trng ≠ g.toNat then .next s
  else if !g then .next (degrade (notify { s with ctrl := { s.ctrl with trng := 1 } } cTrngSpared 0 0) cTrngSpared)
  else .next (notify { s with ctrl := { s.ctrl with trng := 255 } } cTrngFail 0 0)

/-- CONTROLLER_LOCKSTEP: the two cores differ, and the controller restarts (15 R488, R490). -/
def execControllerLockstep (s : State) : Host.Outcome State Fault Refusal :=
  let s := danger (notify (lastCode s cControllerLockstep) cControllerLockstep 0 0) cControllerLockstep true
  .next { s with ctrl := { s.ctrl with down := some (match s.ctrl.down with | some t => t | none => s.ctrl.tick + 1) } }

/-- CONTROLLER_RESTART_DONE: the controller serves again; the ticks without items are reported as a tick gap (15 R490). -/
def execControllerRestartDone (s : State) : Host.Outcome State Fault Refusal :=
  match s.ctrl.down with
  | none => .next s
  | some t =>
    let s := { s with ctrl := { s.ctrl with down := none, dangerous := setErase s.ctrl.dangerous cControllerLockstep } }
    .next (if t ≤ s.ctrl.tick then tickEvent s 2 t s.ctrl.tick else s)

/-- ENCLAVE_SELFTEST: a failure resets the enclave and retests it; a second failure raises ENCLAVE_SELFTEST until a retest passes (15 R488, R490). -/
def execEnclaveSelftest (pass retest : Bool) (s : State) : Host.Outcome State Fault Refusal :=
  let n := s.ctrl.enclaveFails
  if pass then
    if n < 2 || retest then .next { s with ctrl := { s.ctrl with enclaveFails := 0, dangerous := setErase s.ctrl.dangerous cEnclaveSelftest } } else .next s
  else if n = 1 && retest then
    let s := danger (notify (lastCode s cEnclaveSelftest) cEnclaveSelftest 0 0) cEnclaveSelftest true
    .next { s with ctrl := { s.ctrl with enclaveFails := 2 } }
  else .next { s with ctrl := { s.ctrl with enclaveFails := max n 1 } }

end Sys2Proof.Machine
end

