-- ==== Sys2Proof/Machine/Start.lean ====
section
/-! DEFINITION. Resets, start-up, secure start, recovery from the host, and what an autonomous restart restores (16 R505, R506, R510, R515 to R531; 17 R552 to R556). -/

namespace Sys2Proof.Machine

open Sys2Proof

/-- The part after a reset: what the factory fixed, the keep store and the fuses stay, and with them the straps, the levels on the pins, and the model's own log and counter (17 R552; 16 R496; notes/assumptions/6.md). -/
def resetPart (s : State) (cause phase : Nat) : State :=
  { part := s.part
    fresh := s.fresh
    pending := s.pending
    keep := s.keep
    tx := s.tx
    beryl := { sent := s.beryl.sent }
    power :=
      { cause := cause
        phase := phase
        bootMode := s.power.bootMode
        i2cAddr := s.power.i2cAddr
        powerFail := s.power.powerFail
        refclk := s.power.refclk
        ethRefclk := s.power.ethRefclk
        junction := s.power.junction
        rails := s.power.rails } }

/-- A reset that acts as PORST_N would: start-up begins at once, with the straps as last sampled (16 R510, R522; 17 R552). -/
def restart (s : State) (cause : Nat) : State := resetPart s cause 1

/-- The cause that a low PORST_N leaves in reset.last_cause: the thermal trip whose HELD it ends, else PORST_N (17 R544, R552; notes/assumptions/29.md). -/
def porstCause (s : State) : Nat :=
  match s.power.cut with
  | some c => if c.done && c.cause = 4 then 4 else 0
  | none => 0

/-- PORST_N_LOW: low for at least 10 µs, PORST_N resets the whole part; it writes no record (17 R552). -/
def execPorstNLow (s : State) : Host.Outcome State Fault Refusal := .next (resetPart s (porstCause s) 0)

/-- POWER_FAIL_COMMIT_END: the power-fail record verifies, and the part holds with only the always-on domain; a requested reset and a clock failure reset it at once (16 R508; 17 R541, R552). -/
def execPowerFailCommitEnd (s : State) : Host.Outcome State Fault Refusal :=
  match s.power.cut with
  | none => .next s
  | some c =>
    if c.done then .next s else
    let s := journal s (.powerFail c.body)
    if c.cause = 3 || c.cause = 5 then .next (restart s c.cause)
    else .next { s with power := { s.power with phase := 10, blocks := (Vector.replicate 12 4).push 0, cut := some { c with done := true } } }

/-- PWR_FAIL_N_RETURN: PWR_FAIL_N is high again; when it has stayed so for 10 ms after its commit the part resets itself (16 R510, 17 R552). -/
def execPwrFailNReturn (s : State) : Host.Outcome State Fault Refusal :=
  let s := { s with power := { s.power with powerFail := false } }
  match s.power.cut with
  | some c => if c.done && c.cause = 1 then .next (restart s 1) else .next s
  | none => .next s

/-! From rails to ready. -/

/-- PORST_N_RISE: the straps are sampled and start-up begins (16 R515; 17 R555; 18 R563). -/
def execPorstNRise (bootMode : BitVec 2) (addr : BitVec 3) (s : State) : Host.Outcome State Fault Refusal :=
  if s.power.phase ≠ 0 then .next s
  else .next { s with power := { s.power with phase := 1, bootMode := bootMode, i2cAddr := 0x58 + addr.toNat, riseAt := s.cycle } }

/-- FUSES_SENSED: the life-cycle state is known, both core PLLs are locked, the enclave and the system controller are in Run, and the boot ROM runs and refuses a keep-store device whose SFDP table fails (16 R497; 17 R555). -/
def execFusesSensed (s : State) : Host.Outcome State Fault Refusal :=
  if s.power.phase ≠ 1 then .next s
  else
    let s := setDomain (setDomain { s with power := { s.power with phase := 2, pll := [0, 1].foldl setInsert s.power.pll } } 90 0) 91 0
    .next (s.keep.sfdpBad.foldl (fun s d => if (keepDevices s).contains d then withdrawDevice s d cKeepReadError else s) s)

/-- The REPAIR record in force (16 R501). -/
def repairEntries (k : Keep) : List (Nat × Nat × Nat × Nat) :=
  k.recs.foldl (fun a r => match r.body with | .repair l => l | _ => a) []

/-- The boot ROM begins recovery from the host: the Ethernet ports go to Run (16 R515, R530; 17 R541, R555). -/
def openRecovery (s : State) : State := enterRun (enterRun { s with power := { s.power with phase := 9 } } 84) 85

/-- HBM_TRAINED: the HBM domain is in Run with the lane map of the journal; the image is read next, or recovery from the host begins (16 R515; 17 R555). -/
def execHbmTrained (s : State) : Host.Outcome State Fault Refusal :=
  if s.power.phase ≠ 2 then .next s
  else
    let lanes := (repairEntries s.keep).filterMap fun e => if e.2.1 = 2 then some (e.1 * 64 + e.2.2.2) else none
    let s := setDomain { s with hbm := { s.hbm with lanes := lanes } } 82 0
    let s := { s with power := { s.power with pll := setInsert s.power.pll 2 } }
    .next (if s.power.bootMode == 1#2 then openRecovery s else { s with power := { s.power with phase := 3 } })

/-- First byte of the start area (17 R555). -/
def startArea : Nat := 0x0005C0000000
/-- First byte of the HBM system region after the start area (17 R555). -/
def startAreaEnd : Nat := 0x0005C2000000

/-- IMAGE_READ_DONE: the firmware image lies in the start area, and its verification begins (17 R555). -/
def execImageReadDone (s : State) : Host.Outcome State Fault Refusal :=
  if s.power.phase ≠ 3 then .next s
  else .next (hbmSet s startArea (((imageCopies s)[0]?).getD []))

/-- The image that the boot ROM runs: the first copy that verifies (16 R520). -/
def bootImage (s : State) : Option (List Byte) := (imageCopies s).find? fun b => verifyImage s.keep.otp b = cDone

/-- IMAGE_VERIFIED: firmware runs from the first copy that verifies, and a copy that differs is rewritten; with none, recovery from the host starts. BOOT_MODE 0b10 halts before the first instruction in DEVELOPMENT (16 R515, R519, R520, R529, R530). -/
def execImageVerified (s : State) : Host.Outcome State Fault Refusal :=
  if s.power.phase ≠ 3 || s.power.halted then .next s
  else match bootImage s with
    | none => .next (notify (openRecovery s) cFirmwareInvalid 0 0)
    | some b =>
      let differs := (imageCopies s).any (· ≠ b) || (imageCopies s).length < (keepDevices s).length
      let s := { s with fw := { s.fw with image := b, state := if differs then 3 else 0, recovered := differs } }
      if s.power.bootMode == 2#2 && s.keep.otp.lc == 1 then .next { s with power := { s.power with halted := true } }
      else .next { s with power := { s.power with phase := 4 } }

/-- FIRMWARE_SELFTEST_DONE: the self-tests of the controller and the enclave pass, and the keys are released (15 R490; 16 R517; 17 R555). -/
def execFirmwareSelftestDone (s : State) : Host.Outcome State Fault Refusal :=
  if s.power.phase ≠ 4 then .next s else .next { s with power := { s.power with released := true } }

/-! Recovery from the host (16 R530). -/

/-- UDP port of recovery (16 R530). -/
def recoveryPort : Nat := 45823

/-- A recovery message sent on a port that is up: its number, then its body. -/
def sendRecovery (s : State) (e : Fin 2) (dst : List Byte) (kind : Nat) (body : List Byte) : State :=
  let f : EthTx := { cls := 5, dst := dst, dport := recoveryPort, body := leBytes 1 kind ++ body }
  if !(ethPort s e).link then s else
  { s with tx := { port := e, frame := f, src := linkLocal s e, start := macReady s } :: s.tx }

/-- The address ff02::1. -/
def allNodes : List Byte := [0xFF, 0x02] ++ List.replicate 13 0 ++ [1]

/-- RECOVERY_REQUEST: the boot ROM multicasts a REQUEST on a port (16 R530). -/
def execRecoveryRequest (e : Fin 2) (s : State) : Host.Outcome State Fault Refusal :=
  if s.power.phase ≠ 9 || s.power.recover.isSome then .next s
  else
    let o := s.keep.otp
    let slots := (List.range 4).foldl (fun v i => v + (if slotSet o i then 2 ^ i else 0) + (if o.revoked.contains i then 2 ^ (i + 4) else 0)) 0
    .next (sendRecovery s e allNodes 1 (slice s.part.serial 0 16 ++ leBytes 1 o.fwSvn ++ leBytes 1 slots ++ textBytes [0x42, 0x30]))

/-- The next READ of a recovery. -/
def recoveryRead (s : State) (r : Recover) : State :=
  sendRecovery s r.port r.host 3 (leBytes 8 r.got.length ++ leBytes 2 (min 1280 (r.length - r.got.length)))

/-- RECOVERY_OFFER: the boot ROM takes the first OFFER and begins to read the image (16 R530). -/
def execRecoveryOffer (e : Fin 2) (host : List Byte) (length : BitVec 64) (digest : List Byte) (s : State) : Host.Outcome State Fault Refusal :=
  if s.power.phase ≠ 9 || s.power.recover.isSome || !(ethPort s e).link then .next s
  else
    let r : Recover := { port := e, host := host, length := length.toNat, digest := digest }
    .next (recoveryRead { s with power := { s.power with recover := some r } } r)

/-- The whole image has come: it runs when it verifies, and the keep store is rewritten by R529; otherwise the boot ROM returns to REQUEST (16 R530). -/
def recoveryDone (s : State) (r : Recover) : State :=
  let s := hbmSet { s with power := { s.power with recover := none } } startArea r.got
  if sha384 r.got = r.digest && verifyImage s.keep.otp r.got = cDone then
    { s with
      fw := { s.fw with image := r.got, state := 3, recovered := true, fromHost := true }
      power := { s.power with phase := 4 } }
  else notify s cFirmwareInvalid 0 0

/-- RECOVERY_DATA: the bytes of the outstanding READ are stored and the next READ is sent (16 R530). -/
def execRecoveryData (e : Fin 2) (host : List Byte) (offset : BitVec 64) (bytes : List Byte) (s : State) : Host.Outcome State Fault Refusal :=
  match s.power.recover with
  | none => .next s
  | some r =>
    let want := min 1280 (r.length - r.got.length)
    if !(ethPort s e).link || e ≠ r.port || host ≠ r.host || offset.toNat ≠ r.got.length || bytes.length ≠ want then .next s
    else
      let r := { r with got := r.got ++ bytes, repeats := 0 }
      if r.length ≤ r.got.length then .next (recoveryDone s r)
      else .next (recoveryRead { s with power := { s.power with recover := some r } } r)

/-- RECOVERY_READ_REPEAT: a READ unanswered for 20 ms is repeated; after 8 repeats the boot ROM returns to REQUEST (16 R530). -/
def execRecoveryReadRepeat (s : State) : Host.Outcome State Fault Refusal :=
  match s.power.recover with
  | none => .next s
  | some r =>
    if 8 ≤ r.repeats then .next { s with power := { s.power with recover := none } }
    else
      let r := { r with repeats := r.repeats + 1 }
      .next (recoveryRead { s with power := { s.power with recover := some r } } r)

/-! The journal replayed (16 R531 steps 1 and 2). -/

/-- The valid power-fail record: the last record of the journal (16 R505, notes/assumptions/29.md). -/
def validRecord (k : Keep) : Option (List Byte) :=
  match k.recs.getLast? with
  | some r => (match r.body with | .powerFail b => some b | _ => none)
  | none => none

/-- A dead record that lies before the last committed power-fail record (16 R501). -/
def corrupt (k : Keep) (dead : List Nat) : Bool :=
  k.recs.any fun r => (match r.body with | .powerFail _ => !dead.contains r.jseq | _ => false) && dead.any (· < r.jseq)

/-- Role and logical id of each physical tile at shipment: in each region the tiles in service in ascending number, then the spare, then the positions held Off (01 R22, R25). -/
def factoryRole (small : Bool) (p : PTile) : Nat × Nat :=
  let n := if small then 6 else 8
  let i := p.val % 9
  if i < n then (0, n * (p.val / 9) + i) else if i = n then (1, 255) else (6, 255)

/-- The spares map in force: the last SPARES record, else the shipment's (15 R479, 16 R501). -/
def sparesMap (s : State) : List (Nat × Nat) :=
  s.keep.recs.foldl (fun a r => match r.body with | .spares l => l | _ => a) ((List.finRange 72).map (factoryRole s.part.small))

/-- A role as a start finds it: a tile that acted, was in BIST or stood in an isolated region starts as a spare; one in service or withdrawn keeps its id (15 R479, R480, R482). -/
def startRole (off : Bool) (m : Nat × Nat) : Nat × Nat :=
  if m.1 = 5 then (5, 255)
  else if m.1 = 6 then (if off then (6, 255) else (1, 255))
  else if m.1 = 0 || m.1 = 4 then (0, m.2)
  else (1, 255)

/-- Every tile gets its role and id, and starts BIST; RETIRED tiles and positions held Off stay Off (17 R541, R555). -/
def applySpares (s : State) : State :=
  let m := sparesMap s
  { s with tiles := Vector.ofFn fun i : Fin 72 =>
      let r := startRole ((factoryRole s.part.small i).1 = 6) ((m[i.val]?).getD (6, 255))
      { s.tiles[i] with role := r.1, logical := r.2, power := if r.1 = 5 || r.1 = 6 then 4 else 0, bistEnd := !(r.1 = 5 || r.1 = 6) } }

/-- The repair map applied again (08 R276, 16 R531). -/
def applyRepair (s : State) : State :=
  let l := repairEntries s.keep
  { s with hbm := { s.hbm with
      remaps := l.filterMap fun e => if e.2.1 = 0 then some { row := e.1 * 786432 + e.2.2.2, spare := e.2.2.1, active := true } else none
      fused := l.filterMap fun e => if e.2.1 = 1 then some (e.1 * 786432 + e.2.2.2) else none
      lanes := l.filterMap fun e => if e.2.1 = 2 then some (e.1 * 64 + e.2.2.2) else none } }

/-- Staged bytes put over the configuration: each object's bytes, those not staged as they stand (12 R379, R380). -/
def applyBytes (s : State) (bytes : SMap Byte) : State :=
  let keys := bytes.foldl (fun (l : List Nat) b => setInsert l (b.1 / 65536)) []
  keys.foldl (fun s k =>
    let old := cfgBytes s k
    cfgPut s k ((List.range old.length).map fun i => match smFind bytes (k * 65536 + i) with | some b => b | none => old.getD i 0)) s

/-- The keys carried over the last life-cycle change, while their record belongs to it (16 R521, R522). -/
def carriedKeys (k : Keep) : Option (List Byte) :=
  k.recs.foldl (fun a r => match r.body with | .carry b => if r.gen + 1 = k.otp.transitions then some b else a | _ => a) none

/-- The configuration of the journal: carried keys, then every CONFIG record that reads and whose tick has passed, in order; the others stay pending (12 R383, 16 R531). -/
def applyConfig (s : State) : State :=
  let s := match carriedKeys s.keep with | some b => cfgPut s oLcOwnerKeys b | none => s
  s.keep.recs.foldl (fun s r =>
    match r.body with
    | .config q t b =>
      if recDead s.keep r then s
      else if t ≤ s.ctrl.tick then applyBytes s b
      else { s with alaust := { s.alaust with accepted := s.alaust.accepted ++ [{ bytes := b, target := t, tick := t, seq := q }], groups := max s.alaust.groups (q + 1) } }
    | _ => s) s

/-- A gap in a counter's numbers reported as EVENT_GAP, with the counter, the first and the last number of the reserved blocks passed over (16 R505, R506). -/
def reportGap (s : State) (counter a b : Nat) : State := if b < a then s else notify s cEventGap 0 counter (leBytes 8 a ++ leBytes 8 b)

/-- The counters resume: at the record's values, or above every reserved number with the gap reported (16 R505, R506). -/
def resumeCounters (s : State) : State :=
  match validRecord s.keep with
  | some b =>
    { s with ctrl := { s.ctrl with
        tick := leAt b 0 8
        event := leAt b 16 8
        seq := leAt b 24 8
        nseq := leAt b 32 8
        prevSeal := if allZero (slice b 48 48) then none else some (slice b 48 48)
        sealSent := if allZero (slice b 48 48) then none else some (slice b 48 48)
        interrupted := if leAt b 144 4 = 0 && leAt b 152 1 = 0 then none else some b } }
  | none =>
    let k := s.keep
    let first (c : Nat) : Nat := match reserved k c with | some x => x * reserveSize c | none => 0
    let lastTick := match reserved k 3 with | some x => (x + 3) * 65536 - 1 | none => 0
    let s := { s with ctrl := { s.ctrl with tick := lastTick, event := resumeAt k 0, seq := resumeAt k 1, nseq := resumeAt k 2 } }
    let s := if (reserved k 0).isSome then reportGap s 0 (first 0) (resumeAt k 0 - 1) else s
    let s := if (reserved k 2).isSome then reportGap s 2 (first 2) (resumeAt k 2 - 1) else s
    if (reserved k 1).isSome then tickEvent s 4 (first 1) (resumeAt k 1 - 1) else s

/-- keep.last_start (16 R533). -/
def lastStart (s : State) : Nat :=
  if s.fw.fromHost then 3
  else if s.keep.recs.isEmpty then 0
  else if (validRecord s.keep).isSome then 1
  else 2

/-- JOURNAL_REPLAY_DONE: the records that verify are replayed, the counters resume, the repair and spares maps and the configuration are in force again, and the wipe and BIST begin (16 R501, R505, R506, R531; 17 R555). -/
def execJournalReplayDone (dead : List Nat) (s : State) : Host.Outcome State Fault Refusal :=
  if s.power.phase ≠ 4 || !s.power.released then .next s
  else
    let dead := dead ++ lostRecords s
    let bad := corrupt s.keep dead
    let s := { s with keep := { s.keep with recs := s.keep.recs.filter fun r => !dead.contains r.jseq } }
    let s := rereadRecords s
    let s := roPut s oKeepLastStart (lastStart s)
    let s := match (checkpoints s.keep).head? with | some c => roPut s oKeepCheckpointLast c.2.1 | none => s
    let s := resumeCounters s
    let s := if bad then notify s cJournalCorrupt 0 0 else s
    let s := applyConfig (applyRepair (applySpares s))
    let s := journalSpares s
    let on := [80, 81, 84, 85] ++ (List.range 4).filterMap fun n => if cfgOn s (oLinkEnable n) then some (86 + n) else none
    let s := on.foldl enterRun s
    .next { s with power := { s.power with phase := 5 } }

/-- Rows under soft remap fused in the stack at start; where the stack has no spare row left for the bank, the remap stays permanently (08 R276, R277; notes/assumptions/45.md). -/
def fuseRows (s : State) : State :=
  let go := s.hbm.remaps.filter fun m => !m.permanent
  if go.isEmpty then s
  else
    let h := go.foldl (fun h m =>
      if Config.stackSpare h.fused m.row then { h with fused := setInsert h.fused m.row, remaps := h.remaps.filter fun x => x.row ≠ m.row }
      else { h with remaps := h.remaps.map fun x => if x.row = m.row then { x with permanent := true } else x }) s.hbm
    journalRepair { s with hbm := h }

/-- WIPE_DONE: every memory holds 0 but the start area, and rows under soft remap are fused (08 R265, R269, R276; 17 R555). -/
def execWipeDone (s : State) : Host.Outcome State Fault Refusal :=
  if s.power.phase ≠ 5 then .next s
  else
    let s := { s with
      tiles := s.tiles.map fun t => { t with core := [], wbuf := [], abuf := [], vob := [], coreBad := [], wbufBad := [], abufBad := [], vobBad := [], arr := { t.arr with acc := Vector.replicate 2 [] } }
      meadow := { s.meadow with mem := [], bad := [], poison := [] }
      hbm := { s.hbm with mem := s.hbm.mem.filter (fun c => startArea ≤ c.1 && c.1 < startAreaEnd), flips := [] } }
    let s := fuseRows s
    .next { s with power := { s.power with phase := 6 } }

/-- A tile's BIST at start passes: it becomes what its role says, at Rest; or it fails and is RETIRED (15 R480; 17 R541, R556). -/
def startBist (s : State) (failed : Bool) (p : PTile) : State :=
  if !(tile s p).bistEnd then s
  else if failed then
    let s := modTile s p fun t => { t with bistEnd := false, role := 5, logical := 255, power := 4 }
    let s := degrade (notify (notify s cBistFail 3 p.val) cTileRetired 3 p.val) cTileRetired
    s
  else
    let s := roAdd s (oTileBistPasses p.val) 1
    modTile s p fun t => { t with bistEnd := false, power := 2, bistPass := nowNs s }

/-- The package that an autonomous start loads: the one plan.package names, else keep.restart_package (16 R531 step 4). -/
def restartPackage (s : State) : Option Stored :=
  match storeFind s (planPackage s) with
  | some p => some p
  | none => storeFind s (cfgBytes s oKeepRestartPackage)

/-- The autonomous start loads its package into HBM and verifies it (16 R531 step 4). -/
def loadRestart (s : State) : State :=
  if !cfgOn s oKeepAutostart then s
  else match restartPackage s with
    | none => s
    | some p =>
      if verifyPackage s p.bytes ≠ cDone then s
      else
        let base := leAt p.bytes 16 6
        let s := hbmSet s base p.bytes
        { s with ctrl := { s.ctrl with
            packages := [{ digest := p.digest, base := base, length := p.bytes.length, fresh := true }]
            startPlan := some p.digest } }

/-- SELF_TEST_DONE: BIST and the decode self-checks end; tiles names those that fail BIST, engines the decode engines that fail. FAULT_N is released when every condition of R556 holds, and the spares map with the tiles retired is journaled, and the part waits for its tick source (15 R479, R480, R481; 17 R555, R556). -/
def execSelfTestDone (tiles : List PTile) (engines : List (Fin 9)) (s : State) : Host.Outcome State Fault Refusal :=
  if s.power.phase ≠ 6 then .next s
  else
    let held := (List.finRange 72).filterMap fun p => if (tile s p).logical = 255 then none else some ((tile s p).logical, p.val)
    let failed := (List.finRange 72).any fun p => (tile s p).bistEnd && tiles.contains p
    let s := (List.finRange 72).foldl (fun s p => startBist s (tiles.contains p) p) s
    let s := if failed then journalSpares s else s
    let s := { s with
      intake := { s.intake with engines := s.intake.engines.mapFinIdx fun i e _ => { e with failed := e.failed || engines.any fun g => g.val = i } }
      power := { s.power with phase := 7 } }
    let gone := (List.range (gradeTiles s)).filter fun id => (holderOf s id).isNone
    let s := { s with ctrl := { s.ctrl with vacant := gone, vacatedBy := held.foldl (fun m x => if gone.contains x.1 then smPut m x.1 x.2 else m) [] } }
    let s := enterRun s 83
    let s := setLock s (if cfgNat s oTickSource = 0 then 0 else 1)
    let s := loadRestart s
    .next (if dangerStands s then { s with ctrl := { s.ctrl with latched := true } } else s)

/-- RESTART_LOCK_WAIT: keep.restart_lock_wait has passed without lock; boundaries run from the local clock in HOLDOVER until lock (16 R531). -/
def execRestartLockWait (s : State) : Host.Outcome State Fault Refusal :=
  if s.power.phase ≠ 7 || s.ctrl.lock = 2 || cfgNat s oTickSource = 0 then .next s
  else .next (setLock { s with eth := { s.eth with neverLocked := true } } 3)

end Sys2Proof.Machine
end

