-- ==== Sys2Proof/Machine/Rules.lean ====
section
/-! DEFINITION. The checks of a commit: every range and every rule that binds the configuration a commit group would bring into force (12 R380, R381; 02 R39 to R60, R74, R582; 08 R279; 09 R307, R318; 10 R321; 11 R349, R373; 12 R406; 13 R425, R435, R438; 14 R470; 15 R494; 16 R533; 17 R557). -/

namespace Sys2Proof.Machine

open Sys2Proof

/-- A failing object: its key and its code (12 R381). -/
abbrev Failing := Nat × Nat

/-- One check: the key with VALUE_RANGE where it does not hold. -/
def need (ok : Bool) (key : Nat) : List Failing := if ok then [] else [(key, cValueRange)]

/-- lo ≤ v ≤ hi. -/
def within (lo hi v : Nat) : Bool := lo ≤ v && v ≤ hi

/-- Reserved bits of a byte are 0 (00 R11). -/
def spareBits (from_ v : Nat) : Bool := v / 2 ^ from_ = 0

/-! Ranges of single objects. -/

/-- tick.period N/D (02 R39). -/
def periodOk (v : Nat) : Bool :=
  let n := v / 2 ^ 32
  let d := v % 2 ^ 32
  1 ≤ n && 1 ≤ d && n ≤ d && d ≤ 240 * n

/-- keep.checkpoint_period in force: 300 s, or 600 s under layout L128, where no commit set it (16 R533). -/
def checkpointPeriod (s : State) : Nat :=
  match smFind s.cfg oKeepCheckpointPeriod with
  | some b => leNat b
  | none => if s.part.dense then 300000000000 else 600000000000

/-- Range of an object with one index (02 R39, R47, R74; 08 R279; 09 R318; 11 R373; 12 R406; 14 R470; 15 R494; 16 R533; 17 R557). -/
def rangeOk (key v : Nat) : Bool :=
  if key = oTickPeriod then periodOk v
  else if key = oTickSource then v ≤ 3
  else if key = oTickSlewLimit then within 1 256 v
  else if key = oTickTickInWindow then within 100 100000 v
  else if key = oTickTickInLoss then within 1 64 v
  else if key = oPlanBudgetPercent then within 50 90 v
  else if key = oHbmRepairThreshold then within 1 16 v
  else if key = oHbmRefreshMode then v ≤ 1
  else if key = oQueueSysReserve then v ≤ 32768
  else if key = oAlarmPorts || key = oResultPorts || key = oAlaustPorts then v ≤ 3
  else if key = oAlarmPulseWidth then within 1000 10000000 v
  else if key = oAlaustUdpPort then v ≠ 0
  else if key = oAlaustIdleTimeout then within 5000000000 600000000000 v
  else if key = oDetTimeMode || key = oDetRngMode then v ≤ 1
  else if key = oPatrolPeriod then within 100000000 10000000000 v
  else if key = oKeepCheckpointPeriod then within 60000000000 3600000000000 v
  else if key = oKeepEndurance then within 10000 1000000 v
  else if key = oKeepRestartLockWait then within 1000000000 600000000000 v
  else if key = oPowerCap then within 60 260 v
  else if key = oPowerTempLimit then within 85 105 v
  else true

/-- Range of an object of an index range: its index and subindex (02 R55, R74; 11 R349, R373; 13 R438). -/
def indexedOk (i sub v : Nat) : Bool :=
  if i = 0x4000 || i = 0x4001 then
    if sub = 1 then v ≤ 4 else if sub = 5 then v ≤ 32 else if sub = 7 then v ≤ 4094 else true
  else if i = 0x4080 || i = 0x4081 then (if sub = 1 then v ≤ 3 else true)
  else if i = 0x4010 || i = 0x4011 then (if sub = 1 then v ≤ 256 else true)
  else if within 0x3010 0x304F i then (if sub = 2 then v ≤ 16 else true)
  else if within 0x7090 0x7093 i then
    if sub = 1 then within 1 1024 v else if sub = 2 then within 1000000 10000000000 v else true
  else true

/-! Ethernet. -/

/-- A Qci filter (11 R354, R373). -/
def filterOk (f : List Byte) : Bool :=
  leAt f 0 1 % 2 = 0 || (spareBits 4 (leAt f 0 1) && leAt f 1 1 = 0 && (leAt f 24 4 = 0 || 64 ≤ leAt f 28 4))

/-- The VALID filters of a configuration. -/
def filterValid (r : State) (i : Nat) : Bool :=
  match smFind r.cfg oQciFilters with
  | some b => i < 2048 && leAt b (32 * i) 1 % 2 = 1
  | none => false

/-- A listener entry (11 R359, R373; 00 R11, R16). -/
def listenerOk (r : State) (l : List Byte) : Bool :=
  leAt l 0 1 % 2 = 0
    || (spareBits 1 (leAt l 0 1) && leAt l 1 1 = 0 && allZero (slice l 6 10) && filterValid r (leAt l 2 2) && within 1 10000 (leAt l 4 2))

/-- The gate list of a port (11 R349). -/
def gclFails (r : State) (e : Nat) : List Failing :=
  let n := cfgNat r (oGclCount e)
  if n = 0 || 256 < n then [] else
  let b := cfgBytes r (oGclEntries e)
  let l := (List.range n).map fun i => slice b (8 * i) 8
  need (within 1000 1000000000 (cfgNat r (oGclCycleTime e))) (oGclCycleTime e)
    ++ need (l.foldl (fun t x => t + leAt x 4 4) 0 = cfgNat r (oGclCycleTime e)) (oGclCycleTime e)
    ++ need (l.all fun x => bitAt 7 (leAt x 0 1) && leAt x 1 3 = 0) (oGclEntries e)

/-- A port (11 R349, R373). -/
def portFails (r : State) (e : Nat) : List Failing :=
  gclFails r e
    ++ need (match smFind r.cfg (oPortAcceptVids e) with | some b => (List.range 64).all fun i => leAt b (2 * i) 2 ≤ 4094 | none => true) (oPortAcceptVids e)
    ++ need (!cfgOn r (oMacsecEnable e) || ((smFind r.cfg (oMacsecCkn e)).isSome && ((smFind r.keep.cak e).isSome || (smFind r.keep.cakNext e).isSome))) (oMacsecEnable e)

/-- The filters and listeners of both ports (11 R354, R359, R373). -/
def streamFails (r : State) : List Failing :=
  (match smFind r.cfg oQciFilters with
   | some b => need ((List.range 2048).all fun i => filterOk (slice b (32 * i) 32)) oQciFilters
   | none => [])
  ++ (match smFind r.cfg oFrerListeners with
   | some b => need ((List.range 254).all fun i => listenerOk r (slice b (16 * i) 16)) oFrerListeners
   | none => [])

/-! Lock groups. -/

/-- The members of a lock group (02 R55). -/
def groupMembers (r : State) (g : Nat) : List Nat :=
  let n := cfgNat r (oLockgroupCount g)
  if n = 0 then [] else (List.range (min n 16)).map fun i => leAt (cfgBytes r (oLockgroupMembers g)) (2 * i) 2

/-- The lock groups that have members. -/
def groupList (r : State) : List Nat :=
  r.cfg.filterMap fun x => let g := x.1 / 256 - 0x3010; if within 0x3010 0x304F (x.1 / 256) && x.1 % 256 = 2 then some g else none

/-- A context stands twice in a list. -/
def twice : List Nat → Bool
  | [] => false
  | x :: r => r.contains x || twice r

/-- The lock groups (02 R55, R74). -/
def groupFails (r : State) : List Failing :=
  let l := groupList r
  l.flatMap fun g =>
    let m := groupMembers r g
    need (!twice m && m.all (· ≤ 1023) && l.all fun h => h = g || (groupMembers r h).all fun c => !m.contains c) (oLockgroupMembers g)
    ++ need (cfgNat r (oLockgroupOffset g) ≤ periodN r * 1000000000 / max 1 (periodD r)) (oLockgroupOffset g)

/-! Queues. -/

/-- The settings of a queue keep LOW < HIGH ≤ LIMIT and name a target that exists (09 R307). -/
def queueFails (r : State) (limit high low target : Nat) : List Failing :=
  need (cfgNat r high ≤ cfgNat r limit) limit ++ need (cfgNat r low < cfgNat r high) high
    ++ need (cfgNat r target = 255 || cfgNat r target < gradeTiles r) target

/-- The queue that an object's row sets, by its key (09 R307, R318; 10 R320). -/
def queueRule (r : State) (key : Nat) : List Failing :=
  let i := key / 256
  let sub := key % 256
  if within 0x5400 0x57FF i && within 0x17 0x1B sub then
    let c := i - 0x5400
    queueFails r (oCtxQLimit c) (oCtxQHigh c) (oCtxQLow c) (oCtxQIntTarget c)
  else if within 0x6340 0x637F i then
    let j := i - 0x6340
    queueFails r (oSqLimit j) (oSqHigh j) (oSqLow j) (oSqIntTarget j)
  else []

/-- A setting that firmware fixes (09 R307). -/
def fixedSetting (key : Nat) : Bool := within 0x6340 0x637F (key / 256) && fixedQueue (1024 + (key / 256 - 0x6340))

/-! Contexts. -/

/-- The extents of a context's ring and slots (10 R321). -/
def ctxExtents (r : State) (c : Nat) : List (Nat × Nat × Nat) :=
  [(oCtxRingBase c, cfgNat r (oCtxRingBase c), cfgNat r (oCtxRingSize c)),
   (oCtxDpbBase c, cfgNat r (oCtxDpbBase c), cfgNat r (oCtxDpbSlots c) * cfgNat r (oCtxSlotSize c))]

/-- The ports of two contexts overlap (10 R321, R324). -/
def portsMeet (a b : Nat) : Bool := a = b || a = 2 || b = 2

/-- Two contexts match the same packets (10 R321). -/
def sameMatch (r : State) (a b : Nat) : Bool :=
  cfgBytes r (oCtxDstAddr a) = cfgBytes r (oCtxDstAddr b) && cfgNat r (oCtxUdpPort a) = cfgNat r (oCtxUdpPort b) && cfgNat r (oCtxSsrc a) = cfgNat r (oCtxSsrc b)
    && cfgNat r (oCtxPayloadType a) = cfgNat r (oCtxPayloadType b) && portsMeet (cfgNat r (oCtxPort a)) (cfgNat r (oCtxPort b))

/-- ctx.param_sets is well formed (10 R326). -/
def paramsOk (r : State) (c : Nat) : Bool :=
  match smFind r.cfg (oCtxParamSets c) with
  | none => true
  | some b => leAt b 0 2 ≤ 1022 && (aggregated 1024 (slice b 2 (leAt b 0 2))).isSome

/-- The rules of one context against every live context (10 R320, R321). -/
def contextFails (r : State) (live : List Nat) (c : Nat) : List Failing :=
  let v (k : Nat → Nat) : Nat := cfgNat r (k c)
  let others := live.filter (· ≠ c)
  need (v oCtxPort ≤ 2) (oCtxPort c)
    ++ need (!others.any (sameMatch r c)) (oCtxPort c)
    ++ need (v oCtxUdpPort ≠ 0) (oCtxUdpPort c)
    ++ need (v oCtxPayloadType ≤ 127) (oCtxPayloadType c)
    ++ need (within 1 2 (v oCtxCodec)) (oCtxCodec c)
    ++ need (v oCtxRingSize % 4096 = 0 && within 65536 1073741824 (v oCtxRingSize)) (oCtxRingSize c)
    ++ need (v oCtxDpbSlots ≤ 32) (oCtxDpbSlots c)
    ++ need (v oCtxSlotSize % 4096 = 0) (oCtxSlotSize c)
    ++ need (v oCtxYPitch % 64 = 0) (oCtxYPitch c)
    ++ need (v oCtxCPitch % 64 = 0) (oCtxCPitch c)
    ++ need (v oCtxCaptureMode ≤ 1) (oCtxCaptureMode c)
    ++ need (paramsOk r c) (oCtxParamSets c)
    ++ ((ctxExtents r c).flatMap fun x =>
        need (x.2.1 + x.2.2 ≤ hbmPlanSize) x.1
          ++ need (!others.any fun d => (ctxExtents r d).any fun y => overlap x.2.1 x.2.2 y.2.1 y.2.2) x.1)

/-- The contexts that are enabled and not empty, and their load (10 R321, R334). -/
def contextsFail (r : State) : List Failing :=
  let live := liveContexts r
  (live.flatMap (contextFails r live))
    ++ (match live with
        | c :: _ => need (loadSum r live ≤ 1000 * decodeCapacity r) (oCtxMaxLuma c)
        | [] => [])

/-! Windows. -/

/-- The target of a window lies in one plan region (13 R425). -/
def targetPlace (a n : Nat) : Bool := inMeadowPlan a n || a + n ≤ hbmPlanSize

/-- The rules of a window that a commit touches and that ends open (13 R425). s is the state before the commit. -/
def windowFails (s r : State) (touched : List Nat) (w : Fin 64) : List Failing :=
  let i := 0x7100 + w.val
  let mine := touched.filter fun k => k / 256 = i
  let size := cfgNat r (oWindowSize w.val)
  if mine.isEmpty || size = 0 then [] else
  let offset := cfgNat r (oWindowOffset w.val)
  let target := cfgNat r (oWindowTarget w.val)
  let others := (List.finRange 64).filter fun x => x ≠ w && cfgNat r (oWindowSize x.val) ≠ 0
  let busy := if (ownWin s w).state = 0 then [] else (mine.filter fun k => cfgBytes s k ≠ cfgBytes r k).map fun k => (k, cWindowBusy)
  busy
    ++ need (targetPlace target size && !others.any fun x => overlap target size (cfgNat r (oWindowTarget x.val)) (cfgNat r (oWindowSize x.val))) (oWindowTarget w.val)
    ++ need (offset % 4096 = 0 && offset + size ≤ 2 ^ 32 && !others.any fun x => overlap offset size (cfgNat r (oWindowOffset x.val)) (cfgNat r (oWindowSize x.val))) (oWindowOffset w.val)
    ++ need (within 1 1024 (cfgNat r (oWindowCredits w.val))) (oWindowCredits w.val)
    ++ need (!(sourcesOf r w.val).contains (deviceId r)) (oWindowSources w.val)

/-- The route bytes keep their reserved bits 0 (13 R421; 00 R11, R16). -/
def routesOk (r : State) : Bool :=
  match smFind r.cfg oBerylRoutes with
  | some b => b.all fun x => field 6 3 x.toNat = 0
  | none => true

/-! Ticks and plans. -/

/-- The largest tick number whose boundary is not after a time (02 R48). -/
def tickAt (s : State) (t : Nat) : Nat :=
  let d : Int := (t : Int) - (cfgNat s oTickEpoch : Int)
  let n := periodN s * 1000000000
  ((cfgNat s oTickEpochNumber : Int) + (d * periodD s + (periodD s : Int) - 1) / (max 1 n : Nat)).toNat

/-- The tick at whose boundary a commit with a target would apply (12 R380). -/
def applyTick (s : State) (target : Nat) : Nat :=
  if target ≠ 0 then target
  else
    let k := s.ctrl.tick + 1
    if nowNs s + 1000000 ≤ boundaryAt s k then k else k + 1

/-- A commit of the epoch pair leaves the boundary after it a number above its own (02 R49). -/
def epochOk (s r : State) (target : Nat) : Bool :=
  let b := applyTick s target
  b < tickAt r (boundaryAt s b + ceilDiv (periodN r * 1000000000) (max 1 (periodD r)))

/-- An object on which the admission of a plan depends (02 R45, R60; 12 R380). -/
def planDepends (key : Nat) : Bool :=
  key = oPlanPackage || key = oTickPeriod || key = oPlanBudgetPercent || key = oPlanLoadBalance || key = oBerylDeviceId
    || (within 0x3010 0x304F (key / 256) && key % 256 = 1)

/-- A group that is to apply before a boundary, or at it, names another plan (12 R382). -/
def planNamed (r : State) (tick : Nat) : Bool := r.alaust.accepted.any fun g => g.tick ≤ tick && g.bytes.any fun b => b.1 / 65536 = oPlanPackage

/-- The code of plan.package: for a group that names a plan, or comes after one that does, a digest that names no held package, or the first check of admission that fails; otherwise the first check that the running plan fails, or the one that the start has loaded (02 R45, R60, R582; 12 R381; 16 R531). -/
def planCode (r : State) (touched : List Nat) (tick : Nat) : Nat :=
  let named (d : List Byte) (missing : Nat) : Nat :=
    match heldPackage r d with
    | none => missing
    | some p => admission r (packageBytes r p).1
  if !touched.any planDepends then cDone
  else if touched.contains oPlanPackage then named (planPackage r) cValueRange
  else if planNamed r tick then named (planPackage r) cDone
  else match r.ctrl.plan, r.ctrl.startPlan with
    | some p, _ => admitPlan r p
    | none, some d => named d cDone
    | none, none => cDone

/-! The whole check. -/

/-- An owner key with Expert permitted (12 R406). -/
def expertKey (r : State) : Bool :=
  let b := cfgBytes r oLcOwnerKeys
  (List.range 4).any fun i => !allZero (slice b (98 * i) 97) && bitAt 1 (leAt b (98 * i + 97) 1)

/-- The checks of one listed object of the resulting configuration. -/
def objectFails (r : State) (x : Nat × List Byte) : List Failing :=
  need (rangeOk x.1 (leNat x.2) && indexedOk (x.1 / 256) (x.1 % 256) (leNat x.2)) x.1 ++ queueRule r x.1

/-- Every failing object of a commit: s before it, r the configuration that it leaves, touched the objects that the group writes (12 R380, R381). -/
def commitFails (s r : State) (touched : List Nat) (target : Nat) : List Failing :=
  r.cfg.flatMap (objectFails r)
    ++ (touched.filter fixedSetting).map (fun k => (k, cAccessDenied))
    ++ portFails r 0 ++ portFails r 1 ++ streamFails r ++ groupFails r ++ contextsFail r
    ++ (List.finRange 64).flatMap (windowFails s r touched)
    ++ need (routesOk r) oBerylRoutes
    ++ need (cfgNat r oTickSource ≠ 3 || cfgNat r oTickMasterDevice ≠ deviceId r) oTickSource
    ++ need (expertKey r) oLcOwnerKeys
    ++ need (!(touched.contains oTickEpoch || touched.contains oTickEpochNumber) || !periodOk (cfgNat r oTickPeriod) || epochOk s r target) oTickEpoch
    ++ (if periodOk (cfgNat r oTickPeriod) && planCode r touched (applyTick s target) ≠ cDone then [(oPlanPackage, planCode r touched (applyTick s target))] else [])

/-- The first failing object in ascending order of index and subindex (12 R381). -/
def firstFail (l : List Failing) : Option Failing :=
  l.foldl (fun a x => match a with | some y => if x.1 < y.1 then some x else a | none => some x) none

/-- The objects that a group writes. -/
def touchedKeys (bytes : SMap Byte) : List Nat := bytes.foldl (fun l b => setInsert l (b.1 / 65536)) []

/-- A group checked over a configuration: its first failing object (12 R380, R381). -/
def checkGroup (s : State) (bytes : SMap Byte) (target : Nat) : Option Failing :=
  firstFail (commitFails s (applyBytes s bytes) (touchedKeys bytes) target)

end Sys2Proof.Machine
end

