-- ==== Sys2Proof/Machine/View.lean ====
section
/-! DEFINITION. The value that a read of each object of the dictionary returns (12 R376 to R378, R405, R406, and the object tables of every chapter). -/

namespace Sys2Proof.Machine

open Sys2Proof

/-- A BOOL as a number (12 R377). -/
def boolNat (b : Bool) : Nat := if b then 1 else 0

/-- power.state (17 R541): COMMIT and HELD during and after a power-fail commit, RECOVERY, START, PAUSED, SERVICE, NO_PLAN. -/
def powerState (s : State) : Nat :=
  match s.power.cut with
  | some c => if c.done then 5 else 4
  | none =>
    if s.power.phase = 10 then 5 else if s.power.phase = 9 then 6 else if s.power.phase < 8 then 0
    else if s.ctrl.paused then 3 else if s.ctrl.plan.isSome then 2 else 1

/-- det.repeatable: every switch of 14 R445 stands as its column Off gives. -/
def detRepeatable (s : State) : Bool :=
  !cfgOn s oPlanLoadBalance && !cfgOn s oPowerCapEnable && cfgNat s oHbmRefreshMode = 1 && cfgNat s oDetTimeMode = 1 && cfgNat s oDetRngMode = 1
    && !cfgOn s oDetTestAlarms
    && (match s.ctrl.plan with | some p => p.regions.all fun r => r.kind ≠ 6 || (r.deadline ≠ 0xFFFFFFFF && r.deadline ≠ 0) | none => true)

/-- Spares that are free. -/
def sparesFree (s : State) : Nat := (s.tiles.toList.filter fun t => t.role = 1).length

/-- The numbers of a list below a bound as bits of a number. -/
def bitSet (l : List Nat) : Nat := l.foldl (fun v i => v ||| 2 ^ i) 0

/-- The state of a context as ctx.state reports it: WAIT_IDR while the decoder discards items (10 R320, R332). -/
def ctxStateView (s : State) (c : Nat) : Nat := if (ctxOf s c).gapSkip && (ctxOf s c).state = 3 then 2 else (ctxOf s c).state

/-- The spare decode engine is in service (10 R332, R335). -/
def spareEngine (s : State) : Bool := (s.intake.engines.toList.take 8).any (·.failed) && !((s.intake.engines[8]).failed)

/-- keep.models: 64 bytes for each stored package: digest, length, device and flags (16 R533; notes/assumptions/32.md). -/
def modelsView (s : State) : List Byte :=
  slice ((((storedNow s).filter (·.listed)).take 16).flatMap fun p =>
    slice p.digest 0 48 ++ leBytes 8 p.bytes.length ++ leBytes 4 p.device ++ leBytes 4 (Config.measured oKeepModels s.cycle)) 0 1024

/-- A slot of the notification ring (12 R401). -/
def noteBytes (n : Note) : List Byte :=
  leBytes 8 n.nseq ++ leBytes 8 n.time ++ leBytes 2 n.code ++ leBytes 1 n.kind ++ leBytes 1 0 ++ leBytes 4 n.source ++ leBytes 8 n.tick ++ slice n.data 0 32

/-- alaust.notify_ring: record NSEQ at slot NSEQ mod 256 (12 R401). -/
def ringView (s : State) : List Byte :=
  (List.range 256).flatMap fun i =>
    match s.alaust.ring.find? fun n => n.nseq % 256 = i with
    | some n => noteBytes n
    | none => List.replicate 64 0

/-- beryl.remote_table (13 R438; notes/assumptions/32.md). -/
def remoteView (s : State) : List Byte :=
  slice ((s.beryl.remote.take 256).flatMap fun w =>
    leBytes 1 w.device ++ leBytes 1 w.window ++ leBytes 1 w.gen ++ leBytes 1 (if w.closing then 2 else 1) ++ leBytes 4 w.offset ++ leBytes 4 w.size ++ leBytes 4 w.pool) 0 4096

/-- The text of the part number (00 R5). -/
def partText (s : State) : List Byte := textBytes ([0x4D, 0x45, 0x36, 0x34] ++ (if s.part.small then [0x34, 0x38] else [0x37, 0x32]))

/-- Objects that hold bytes and are computed from the state. -/
def octetView (s : State) (k : Nat) : Option (List Byte) :=
  if k = oIdentityPart then some (partText s)
  else if k = oIdentityStepping then some (textBytes [0x42, 0x30])
  else if k = oIdentitySerial then some s.part.serial
  else if k = oIdentityFirmwareDigest then some (sha384 s.fw.image)
  else if k = oLcDeviceCert then some s.part.cert
  else if k = oPlanActive then some (match s.ctrl.plan with | some p => p.digest | none => [])
  else if k = oPortMac 0 then some ((s.part.mac[0]?).getD [])
  else if k = oPortMac 1 then some ((s.part.mac[1]?).getD [])
  else if k = oQciCounters then some ((List.range 2048).flatMap fun i => leBytes 8 (smGet 0 s.eth.qci.passed i) ++ leBytes 8 (smGet 0 s.eth.qci.dropped i))
  else if k = oFrerCounters then some ((List.range 254).flatMap fun i => let r := smGet {} s.eth.frer (i + 2); leBytes 8 r.passed ++ leBytes 8 r.discarded)
  else if k = oPtpGmIdentity then some (if s.eth.ptpState = 0 then [] else (s.eth.port.toList[s.eth.slave]?.map (·.gm)).getD [])
  else if k = oAlaustNotifyRing then some (ringView s)
  else if k = oBerylRemoteTable then some (remoteView s)
  else if k = oDetSaveDigest then some (s.ctrl.save.getD [])
  else if k = oDetLastSeal then some (s.ctrl.sealSent.getD [])
  else if k = oSparesMap then some (s.tiles.toList.flatMap fun t => leBytes 1 t.role ++ leBytes 1 t.logical)
  else if k = oSparesVacant then some (leBytes 8 (bitSet s.ctrl.vacant))
  else if k = oKeepModels then some (modelsView s)
  else if k = oFirmwareStagedDigest then some (match s.fw.staged with | some b => sha384 b | none => [])
  else if k = oPowerRails then some (s.power.rails.flatMap fun v => leBytes 2 v)
  else if k = oPowerDomains then some ((List.range 93).map fun d => BitVec.ofNat 8 (domainState s d))
  else none

/-- Numeric objects of areas 0x10 to 0x12 (12 R406; 16 R533). -/
def keepView (s : State) (k : Nat) : Option Nat :=
  let o := s.keep.otp
  if k = oIdentityTilesInService then some (gradeTiles s)
  else if k = oIdentityFirmwareVersion then some (leAt s.fw.image 12 4)
  else if k = oLcState then some o.lc
  else if k = oLcFwSvn then some o.fwSvn
  else if k = oLcPkgSvn then some o.pkgSvn
  else if k = oLcKeySlots then some (bitSet ((List.range 4).filter (slotSet o)) + 16 * bitSet o.revoked)
  else if k = oLcTransitions then some o.transitions
  else if k = oKeepDevices then some s.part.devices
  else if k = oKeepState then some (keepState s)
  else if k = oKeepLayout then some (if s.part.dense then 2 else 1)
  else if k = oKeepEraseMax then some (eraseMax s)
  else if k = oKeepProjectedLife then some (projectedLife s)
  else if k = oKeepModelFree then some (modelFree s)
  else if k = oFirmwareState then some s.fw.state
  else none

/-- Numeric objects of areas 0x20 and 0x21 (17 R557). -/
def powerView (s : State) (k : Nat) : Option Nat :=
  let w := s.power
  if k = oPowerState then some (powerState s)
  else if k = oPowerMeasured then some (measuredPower s)
  else if k = oPowerThrottle then some w.level
  else if k = oPowerJunction then some (wrapTo 16 w.junction)
  else if k = oClockPllActive then some w.pllActive
  else if k = oClockPllLocked then some (bitSet w.pll)
  else if k = oClockRefclkOk then some (boolNat w.refclk)
  else if k = oClockEthRefclkOk then some (boolNat w.ethRefclk)
  else if k = oResetLastCause then some w.cause
  else if k = oResetPhase then some w.phase
  else if k = oClockRefclkOffset then some (wrapTo 32 s.eth.rate)
  else none

/-- Numeric objects of areas 0x30 and 0x31 (02 R74; 12 R384). -/
def tickView (s : State) (k : Nat) : Option Nat :=
  let n := periodN s
  let d := periodD s
  let pending := s.alaust.accepted.length % 256
  if k = oTickSteps then some (stepsOf n d)
  else if k = oTickGuardNominal then some (pNom n d - 8192 * stepsOf n d)
  else if k = oTickLockState then some s.ctrl.lock
  else if k = oTickHoldoverError then some (holdoverError s)
  else if k = oTickNumber then some s.ctrl.tick
  else if k = oTickGuardLast then some s.ctrl.guardLast
  else if k = oPlanBudgetSteps then some (budgetOf s)
  else if k = oCommitLastApplied then some s.alaust.lastApplied
  else if k = oCommitPending then some pending
  else none

/-- Numeric objects of areas 0x40 and 0x41 (11 R375; 12 R406). -/
def netView (s : State) (k : Nat) : Option Nat :=
  let i := k / 256
  let port (e : Fin 2) : Option Nat :=
    let p := ethPort s e
    if k = oPortLink e.val then some (boolNat p.link)
    else if k = oPortSpeed e.val then some p.speed
    else if k = oPortPreempt e.val then some p.preempt
    else if k = oMacsecState e.val then some p.mka
    else none
  if i = 0x4000 || i = 0x4008 then port 0
  else if i = 0x4001 || i = 0x4009 then port 1
  else if k = oPtpState then some s.eth.ptpState
  else if k = oPtpSlavePort then some s.eth.slave
  else if k = oPtpOffset then some (wrapTo 64 s.eth.offset)
  else if k = oPtpHoldoverError then some (holdoverError s)
  else if k = oResultSequence then some s.ctrl.seq
  else if k = oResultRetainedFirst then some (match s.eth.ring with | m :: _ => m.seq | [] => s.ctrl.seq)
  else if k = oAlaustSessions then some s.alaust.sessions.length
  else if k = oAlaustNotifyFirst then some (match s.alaust.ring with | n :: _ => n.nseq | [] => s.ctrl.nseq)
  else if k = oAlaustNotifyNext then some s.ctrl.nseq
  else none

/-- Numeric objects of areas 0x50 to 0x63 (09 R318; 10 R320, R342; 15 R494; 06 R225). -/
def dataView (s : State) (k : Nat) : Option Nat :=
  let i := k / 256
  let sub := k % 256
  if within 0x5400 0x57FF i then (if sub = 0x40 then some (ctxStateView s (i - 0x5400)) else none)
  else if within 0x6340 0x637F i then
    let u := queueOf s (1024 + (i - 0x6340))
    if sub = 6 then some (fillOf u) else if sub = 7 then some u.items.length else none
  else if within 0x6000 0x6047 i then
    match s.tiles.toList[i - 0x6000]? with
    | none => none
    | some t => if sub = 1 then some t.role else if sub = 2 then some t.logical else if sub = 5 then some t.bistPass else none
  else if k = oStreamEnabled then some (liveContexts s).length
  else if k = oStreamDeclaredLoad then some (loadSum s (liveContexts s) / 1000)
  else if k = oDecodeInService then some (enginesInService s)
  else if k = oDecodeCapacity then some (decodeCapacity s)
  else if k = oDecodeSpareUsed then some (boolNat (spareEngine s))
  else if k = oQueuePoolFree then some (poolFree s)
  else none

/-- Numeric objects of areas 0x70 and 0x71 (13 R438). -/
def berylView (s : State) (k : Nat) : Option Nat :=
  let i := k / 256
  let sub := k % 256
  if k = oBerylLaserPower then some (Config.measured k s.cycle)
  else if within 0x7010 0x7013 i then
    match s.beryl.port.toList[i - 0x7010]? with
    | none => none
    | some p => if sub = 2 then some p.state else if sub = 7 then some (Config.measured k s.cycle) else none
  else if within 0x7100 0x713F i then
    match s.beryl.win.toList[i - 0x7100]? with
    | none => none
    | some w => if sub = 0x40 then some w.state else if sub = 0x43 then some (outstanding w) else none
  else none

/-- Numeric objects of areas 0x80 to 0x82 (08 R279; 14 R470; 15 R494). -/
def faultView (s : State) (k : Nat) : Option Nat :=
  if k = oFaultState then some (faultState s)
  else if k = oFaultFaultN then some (boolNat (faultN s))
  else if k = oHbmRowsRemapped then some s.hbm.remaps.length
  else if k = oHbmRowsFused then some s.hbm.fused.length
  else if k = oHbmRemapFree then some (256 - s.hbm.remaps.length)
  else if k = oHbmLanesRepaired then some s.hbm.lanes.length
  else if k = oHbmTemperature then some (wrapTo 16 s.hbm.temp)
  else if k = oHbmRefreshDoubled then some (boolNat (refreshDoubled s))
  else if k = oSparesFree then some (sparesFree s)
  else if k = oSparesRetired then some ((s.tiles.toList.filter fun t => t.role = 5).length)
  else if k = oTrngActive then some s.ctrl.trng
  else if k = oDetRepeatable then some (boolNat (detRepeatable s))
  else if k = oDetRunTick then some s.ctrl.runTick
  else if k = oDetPaused then some (boolNat s.ctrl.paused)
  else if k = oDetSeals then some s.ctrl.seals
  else if k = oDetCleanStart then some (boolNat s.ctrl.clean)
  else none

/-- The number a computed object reads as, by its area. -/
def numberView (s : State) (k : Nat) : Option Nat :=
  let area := k / 65536
  if area ≤ 0x12 then keepView s k
  else if area ≤ 0x21 then powerView s k
  else if area ≤ 0x31 then tickView s k
  else if area ≤ 0x41 then netView s k
  else if area ≤ 0x63 then dataView s k
  else if area ≤ 0x71 then berylView s k
  else faultView s k

/-- The value of an object in force, as its bytes: a writable object as it was written, a computed one from the state, any other as it is stored (12 R377, R378). -/
def objValue (s : State) (r : ObjDef) (k : Nat) : List Byte :=
  match r.acc with
  | .rw | .rws => if k = oKeepCheckpointPeriod then leBytes 8 (checkpointPeriod s) else slice (cfgBytes s k) 0 r.size
  | .wo => List.replicate r.size 0
  | .const | .ro =>
    if r.octets then
      match octetView s k with
      | some b => slice b 0 r.size
      | none => leBytes r.size (roGet s k)
    else
      match numberView s k with
      | some v => leBytes r.size v
      | none => leBytes r.size (roGet s k)

end Sys2Proof.Machine
end

