-- ==== Sys2Proof/Machine/TestArea.lean ====
section
/-! DEFINITION. The test objects: the memory test of area 0xF0, fault injection, and the test alarm (12 R407; 15 R491; 14 R449, R462). -/

namespace Sys2Proof.Machine

open Sys2Proof

/-- Area 0xF0 exists (00 R13, 12 R407). -/
def testArea (s : State) : Bool := s.keep.otp.lc = 1

/-- Where a byte of the global map lies that the test objects reach (12 R407, 08 R250, R251). -/
inductive TestByte where
  | hbm (a : Nat)
  | meadow (off : Nat)
  | tileMem (p : PTile) (space : Space) (off : Nat)
  deriving DecidableEq, Repr

/-- The tile that an address in a tile window reaches: the holder of the id, or physical tile test.ptile (12 R407). -/
def testTile (s : State) (lid : Nat) : Option PTile :=
  let n := cfgNat s oTestPtile
  if n = 255 then holderOf s lid else if h : n < 72 then some ⟨n, h⟩ else none

/-- The place of an offset in a tile window (08 R251). -/
def windowPlace (p : PTile) (o : Nat) : Option TestByte :=
  if o < 0x200000 then some (.tileMem p .core o)
  else if o < 0x240000 then some (.tileMem p .weight (o - 0x200000))
  else if o < 0x280000 then some (.tileMem p .act (o - 0x240000))
  else if o < 0x290000 then some (.tileMem p .vob (o - 0x280000))
  else none

/-- The byte that an address names, in a region that 12 R407 allows. -/
def testByte (s : State) (a : Nat) : Option TestByte :=
  if a < 0x000600000000 then some (.hbm a)
  else if meadowBase ≤ a && a < meadowBase + 0x0FC00000 then some (.meadow (a - meadowBase))
  else if 0x020000000000 ≤ a && a < 0x020000000000 + gradeTiles s * 0x01000000 then
    match testTile s ((a - 0x020000000000) / 0x01000000) with
    | some p => windowPlace p ((a - 0x020000000000) % 0x01000000)
    | none => none
  else none

/-- The bytes of a range, or none when one of them is not allowed. -/
def testBytes (s : State) (a : Nat) : Nat → Option (List TestByte)
  | 0 => some []
  | n + 1 =>
    match testByte s a, testBytes s (a + 1) n with
    | some x, some r => some (x :: r)
    | _, _ => none

/-- A memory of a tile. -/
def tileSpace (t : Tile) : Space → Mem
  | .core => t.core
  | .weight => t.wbuf
  | .act => t.abuf
  | .vob => t.vob

/-- The bytes of a memory of a tile whose parity is bad. -/
def tileBad (t : Tile) : Space → List Nat
  | .core => t.coreBad
  | .weight => t.wbufBad
  | .act => t.abufBad
  | .vob => t.vobBad

/-- A byte as it is stored. -/
def storedByte (s : State) : TestByte → Byte
  | .hbm a => memGet s.hbm.mem a
  | .meadow o => memGet s.meadow.mem o
  | .tileMem p sp o => memGet (tileSpace (tile s p) sp) o

/-- The granules of the bytes of a range that lie in HBM. -/
def testGranules (l : List TestByte) : List Nat :=
  l.foldl (fun g x => match x with | .hbm a => setInsert g (a / 64) | _ => g) []

/-- The granules read through ECC; those that are uncorrectable (08 R274). -/
def readGranules (l : List Nat) (s : State) : List Nat × State :=
  l.foldl (fun (r : List Nat × State) g =>
    let q := granuleRead r.2 g
    (if q.1.isNone then r.1 ++ [g] else r.1, q.2)) ([], s)

/-- A byte fails its parity or its ECC: in an uncorrectable granule every byte does (notes/assumptions/35.md). -/
def failsCheck (s : State) (lost : List Nat) : TestByte → Bool
  | .hbm a => lost.contains (a / 64) || ((badSymbols s (a / 64)).length = 1 && s.hbm.flips.any fun f => f.1 = a)
  | .meadow o => s.meadow.bad.contains o
  | .tileMem p sp o => (tileBad (tile s p) sp).contains o

/-- test.errors: bit i for byte i of an access. -/
def markErrors (s : State) (bad : List Bool) : State :=
  roPut s oTestErrors (bitSet ((List.range bad.length).filter fun i => bad.getD i false))

/-- A read of test.data: its code, the bytes, and the state after it (12 R407). -/
def testRead (s : State) (offset n : Nat) : Nat × List Byte × State :=
  if !testArea s then (cObjectNotFound, [], s)
  else if n = 0 then (cEmpty, [], s)
  else if 1024 < offset + n then (cLengthMismatch, [], s)
  else match testBytes s (cfgNat s oTestAddr + offset) n with
    | none => (cValueRange, [], s)
    | some l =>
      let r := readGranules (testGranules l) s
      (cDone, l.map (storedByte s), markErrors r.2 (l.map (failsCheck s r.1)))

/-- A store of the system controller with good parity, through port 1 of a tile (03 R95, 08 R259). -/
def putTile (t : Tile) (sp : Space) (o : Nat) (b : Byte) : Tile := commitOne t { space := sp, addr := o, bytes := [b], rank := 1 }

/-- One byte stored outside HBM. -/
def putTest (s : State) (x : TestByte × Byte) : State :=
  match x.1 with
  | .hbm _ => s
  | .meadow o => meadowSet s o [x.2]
  | .tileMem p sp o => modTile s p fun t => putTile t sp o x.2

/-- The bytes of one granule stored: a partial write is merged, and with an uncorrectable merge read nothing is written (12 R407, 08 R254). The list of uncorrectable granules grows by it. -/
def putGranule (bytes : List (Nat × Byte)) (r : List Nat × State) (g : Nat) : List Nat × State :=
  let mine := bytes.filter fun x => x.1 / 64 = g
  let store (s : State) : State := mine.foldl (fun s x => hbmSet s x.1 [x.2]) s
  if mine.length = 64 then (r.1, store r.2)
  else
    let q := granuleRead r.2 g
    match q.1 with
    | some b => (r.1, store (clearFlips (hbmSet q.2 (g * 64) b) g))
    | none => (r.1 ++ [g], q.2)

/-- A write of test.data: its code and the state after it (12 R407). -/
def testWrite (s : State) (offset : Nat) (bytes : List Byte) : Nat × State :=
  if !testArea s then (cObjectNotFound, s)
  else if bytes.isEmpty then (cEmpty, s)
  else if 1024 < offset + bytes.length then (cLengthMismatch, s)
  else match testBytes s (cfgNat s oTestAddr + offset) bytes.length with
    | none => (cValueRange, s)
    | some l =>
      let pairs := l.zip bytes
      let hbm := pairs.filterMap fun x => match x.1 with | .hbm a => some (a, x.2) | _ => none
      let s := pairs.foldl putTest s
      let r := (testGranules l).foldl (putGranule hbm) ([], s)
      (cDone, markErrors r.2 (l.map fun x => match x with | .hbm a => r.1.contains (a / 64) | _ => false))

/-- A number put into a list, or taken out when it is there. -/
def toggleNat (l : List Nat) (a : Nat) : List Nat := if l.contains a then setErase l a else setInsert l a

/-- One stored bit inverted; the parity or the ECC stays as it was (12 R407). -/
def flipByte (s : State) (x : TestByte) (bit : Nat) : State :=
  let v := storedByte s x ^^^ BitVec.ofNat 8 (2 ^ bit)
  match x with
  | .hbm a =>
    let f := s.hbm.flips
    { s with hbm := { s.hbm with mem := memPut s.hbm.mem a v, flips := if f.contains (a, bit) then f.filter (· ≠ (a, bit)) else f ++ [(a, bit)] } }
  | .meadow o => { s with meadow := { s.meadow with mem := memPut s.meadow.mem o v, bad := toggleNat s.meadow.bad o } }
  | .tileMem p sp o => modTile s p fun t =>
    match sp with
    | .core => { t with core := memPut t.core o v, coreBad := toggleNat t.coreBad o }
    | .weight => { t with wbuf := memPut t.wbuf o v, wbufBad := toggleNat t.wbufBad o }
    | .act => { t with abuf := memPut t.abuf o v, abufBad := toggleNat t.abufBad o }
    | .vob => { t with vob := memPut t.vob o v, vobBad := toggleNat t.vobBad o }

/-- A write of test.inject: its code and the state after it (12 R407). -/
def testInject (s : State) (v : Nat) : Nat × State :=
  if !testArea s then (cObjectNotFound, s)
  else match testByte s (v % 2 ^ 48) with
    | some x => if v / 2 ^ 51 = 0 then (cDone, roAdd (flipByte s x (field 50 48 v)) oTestInjected 1) else (cValueRange, s)
    | none => (cValueRange, s)

/-- A write of fault.test_alarm: its code and the state after it. After the tick's set has closed, or left with its seal, and in a tick that has none, the alarm waits for the next tick in which a plan runs (15 R491; 14 R449, R451, R462). -/
def testAlarm (s : State) (v : Nat) : Nat × State :=
  let lid := field 15 8 v
  let h := field 2 0 v
  if !cfgOn s oDetTestAlarms then (cAccessDenied, s)
  else match holderOf s lid with
    | none => (cAccessDenied, s)
    | some p =>
      if field 7 3 v ≠ 0 || (plannedHandler s p h).isNone then (cValueRange, s)
      else if (match setOf s s.ctrl.tick with | some x => x.closed | none => true) then
        (cDone, { s with ctrl := { s.ctrl with testAlarms := s.ctrl.testAlarms ++ [(lid, h)] } })
      else (cDone, sendTrigger s p 64 h)

/-- The bytes that a command handedOut kept beside its code. -/
def handedOut (r : Nat × List Byte × State) : Host.Outcome State Fault Refusal :=
  .next { r.2.2 with alaust := { r.2.2.alaust with answer := r.1, data := r.2.1 } }

/-- The wipe of the start has ended, so that the dictionary reaches memory (08 R269). -/
def wiped (s : State) : Bool := 5 < s.power.phase

/-- TEST_DATA_READ; none runs before the wipe ends (12 R407, 08 R269). -/
def execTestDataRead (offset length : BitVec 16) (s : State) : Host.Outcome State Fault Refusal :=
  if wiped s then handedOut (testRead s offset.toNat length.toNat) else .next s

/-- TEST_DATA_WRITE; none runs before the wipe ends (12 R407, 08 R269). -/
def execTestDataWrite (offset : BitVec 16) (bytes : List Byte) (s : State) : Host.Outcome State Fault Refusal :=
  if wiped s then answered (testWrite s offset.toNat bytes) else .next s

/-- TEST_INJECT; none runs before the wipe ends (12 R407, 08 R269). -/
def execTestInject (v : BitVec 64) (s : State) : Host.Outcome State Fault Refusal :=
  if wiped s then answered (testInject s v.toNat) else .next s

/-- FAULT_TEST_ALARM (15 R491). -/
def execFaultTestAlarm (v : BitVec 16) (s : State) : Host.Outcome State Fault Refusal := answered (testAlarm s v.toNat)

end Sys2Proof.Machine
end

