-- ==== Sys2Proof/Machine/Alaust.lean ====
section
/-! DEFINITION. The Alaust protocol: sessions, requests and replies, stages and commits, bulk transfers, and notifications (12 R376 to R402, R408; 16 R529). -/

namespace Sys2Proof.Machine

open Sys2Proof

/-! Sessions and datagrams. -/

/-- An established session. -/
def sessionOf (s : State) (num : Nat) : Option Session := s.alaust.sessions.find? fun x => x.num = num

/-- A session changed. -/
def modSession (s : State) (num : Nat) (f : Session → Session) : State :=
  { s with alaust := { s.alaust with sessions := s.alaust.sessions.map fun x => if x.num = num then f x else x } }

/-- The open transfers changed. -/
def setBulks (s : State) (l : List Bulk) : State := { s with alaust := { s.alaust with bulks := l } }

/-- A session ends: its transfers abort, its stage goes, its accepted commits stand (12 R379, R392, R400). -/
def endSession (s : State) (num : Nat) : State :=
  { s with alaust := { s.alaust with
      sessions := s.alaust.sessions.filter fun x => x.num ≠ num
      bulks := s.alaust.bulks.filter fun b => b.session ≠ num } }

/-- The class of a message by its length on the wire (11 R347); a bulk message always takes class 3. -/
def messageClass (s : State) (e : Fin 2) (bulk : Bool) (f : EthTx) : Nat := if !bulk && frameLen s e f ≤ 480 then 6 else 3

/-- The outer header of a datagram (12 R386). -/
def outerHeader (ty num counter : Nat) : List Byte := leBytes 1 1 ++ leBytes 1 ty ++ leBytes 2 num ++ leBytes 4 0 ++ leBytes 8 counter

/-- A received datagram begins with an outer header of its type (12 R386). -/
def outerOk (ty : Nat) (b : List Byte) : Bool := leAt b 0 1 = 1 && leAt b 1 1 = ty && leAt b 4 4 = 0

/-- The keys of a session, k_hp and k_ph (12 R389). -/
def sessionKeys (private_ peer nonceH nonceP th : List Byte) : List Byte × List Byte :=
  let z := beBytes 48 (Config.ecShared private_ peer)
  let okm := hkdf384 (nonceH ++ nonceP) z (textBytes [0x61, 0x6C, 0x61, 0x75, 0x73, 0x74, 0x2D, 0x31] ++ th)
  (okm.take 32, okm.drop 32)

/-- What the part sends behind the outer header: plaintext under no key; else the ciphertext and tag under k_ph, with the nonce of its direction and counter, and the outer header as additional data (12 R391). -/
def sealed (key : List Byte) (ty num counter : Nat) (plain : List Byte) : List Byte :=
  if key.isEmpty then plain
  else beBytes (plain.length + 16) (Config.gcmSeal key ([0, 0, 0, 2] ++ leBytes 8 counter) (outerHeader ty num counter) plain)

/-- A datagram sent to a host: the outer header, then the body, in clear for a CHALLENGE and under a key otherwise (12 R385, R386, R391). -/
def sendDatagram (s : State) (e : Fin 2) (host : List Byte) (port ty num counter : Nat) (bulk : Bool) (key body : List Byte) : State :=
  let f : EthTx := { cls := 3, dst := host, dport := port, proto := 0, body := outerHeader ty num counter ++ sealed key ty num counter body }
  sendFrame s e { f with cls := messageClass s e bulk f }

/-- A PROTECTED datagram of a session; a session whose counter reaches 2^48 ends (12 R391). -/
def sendProtected (s : State) (num : Nat) (bulk : Bool) (plain : List Byte) : State :=
  match sessionOf s num with
  | none => s
  | some x =>
    let s := sendDatagram s x.port x.host x.hport 5 num x.txNext bulk x.keyOut plain
    let s := modSession s num fun x => { x with txNext := x.txNext + 1 }
    if 2 ^ 48 ≤ x.txNext then endSession s num else s

/-- The 8-byte body header (12 R393). -/
def bodyHeader (op req count code : Nat) : List Byte := leBytes 1 op ++ leBytes 1 0 ++ leBytes 2 req ++ leBytes 2 count ++ leBytes 2 code

/-- A reply sent and kept among those of the last 16 REQ_IDs (12 R394, R395). -/
def reply (s : State) (num op req count code : Nat) (body : List Byte) : State :=
  let plain := bodyHeader (op + 0x80) req count code ++ body
  let s := modSession s num fun x => { x with
    replies := ((req, plain) :: x.replies).take 16
    waiting := x.waiting.filter (· ≠ req) }
  sendProtected s num (0x20 ≤ op && op ≤ 0x23) plain

/-- The life-cycle states and the phases in which Alaust is served: from the end of the wipe on, during which nothing of the dictionary reaches memory (08 R269; 16 R521; 17 R555; notes/assumptions/52.md). -/
def alaustServed (s : State) : Bool :=
  (s.keep.otp.lc = 1 || s.keep.otp.lc = 2) && 5 < s.power.phase && s.power.phase < 9 && s.power.cut.isNone

/-- A datagram is addressed to Alaust on a port (12 R385). -/
def toAlaust (s : State) (e : Fin 2) (f : InFrame) : Bool :=
  bitAt e.val (cfgNat s oAlaustPorts) && f.dport.toNat = cfgNat s oAlaustUdpPort && (ownAddrs s e).contains f.dst

/-- A datagram counted in alaust.malformed (12 R386). -/
def malformed (s : State) : State := roAdd s oAlaustMalformed 1

/-- A PROTECTED datagram received: TRUE when its session accepts it; m.ok says whether its tag verifies under k_hp (12 R386, R391). -/
def receive (s : State) (m : AMsg) : Bool × State :=
  if !alaustServed s then (false, s) else
  let r := udpIngress s m.e m.frame
  let s := r.2
  if !r.1 || !toAlaust s m.e m.frame then (false, s)
  else if 1400 < m.frame.payload.length || !outerOk 5 m.frame.payload then (false, malformed s)
  else match sessionOf s m.session.toNat with
    | none => (false, malformed s)
    | some x =>
      let c := m.counter.toNat
      if !m.ok || c + 64 ≤ x.rxHigh || x.rxSeen.contains c then (false, roAdd s oAlaustReplays 1)
      else
        let high := max x.rxHigh c
        let s := modSession s x.num fun x => { x with
          port := m.e, host := m.frame.src, hport := m.frame.sport.toNat, rxHigh := high
          rxSeen := (c :: x.rxSeen).filter fun v => high < v + 64 }
        if 2 ^ 48 ≤ c then (false, endSession s x.num) else (true, s)

/-- A stored reply is of a bulk operation, OP 0xA0 to 0xA3 (12 R385, R394; 11 R347). -/
def bulkReply (b : List Byte) : Bool := 0xA0 ≤ leAt b 0 1 && leAt b 0 1 ≤ 0xA3

/-- A request answered once: one that repeats a REQ_ID of the last 16 gets the stored reply again, and one whose reply is outstanding waits for it (12 R395). -/
def answerOnce (s : State) (m : AMsg) (f : State → State) : State :=
  match sessionOf s m.session.toNat with
  | none => s
  | some x =>
    match x.replies.find? fun r => r.1 = m.req.toNat with
    | some r => sendProtected s x.num (bulkReply r.2) r.2
    | none => if x.waiting.contains m.req.toNat then s else f s

/-- The header of a request whose operation has no entries is well formed (12 R394). -/
def plainHeader (m : AMsg) : Bool := m.flags.toNat < 2 && m.count = 0

/-- A request answered when its header is well formed, else REQUEST_MALFORMED (12 R394). -/
def ifPlain (op : Nat) (m : AMsg) (f : State → State) (s : State) : State :=
  if plainHeader m then f s else reply s m.session.toNat op m.req.toNat 0 cRequestMalformed []

/-! Opening a session. -/

/-- Session numbers in use. -/
def numbersUsed (s : State) : List Nat := s.alaust.sessions.map (·.num) ++ s.alaust.shakes.map (·.num)

/-- The next session number that is not in use, from 1 to 65,535 (12 R388). -/
def nextNumber (s : State) : Nat :=
  ((List.range 9).map fun i => (s.alaust.nextSession - 1 + i) % 65535 + 1).foldr (fun n r => if (numbersUsed s).contains n then r else n) 1

/-- A HELLO is well formed (12 R385 to R387). -/
def helloOk (b : List Byte) : Bool := b.length = 1232 && outerOk 1 b && leAt b 18 2 = 0

/-- HELLO: a handshake opens and CHALLENGE answers it; with four open, or while both generators have failed, it is not answered (12 R387, R388; 15 R483). A level or slot that does not exist fails at PROOF. -/
def execHello (e : Fin 2) (f : InFrame) (s : State) : Host.Outcome State Fault Refusal :=
  if !alaustServed s then .next s else
  let r := udpIngress s e f
  let s := r.2
  if !r.1 || !toAlaust s e f then .next s
  else if !helloOk f.payload || 4 ≤ s.alaust.shakes.length then .next (malformed s)
  else if s.ctrl.trng = 255 then .next s
  else
    let num := nextNumber s
    let a := drawBytes 80 s
    let s := { a.2 with fresh := a.2.fresh + 1 }
    let nonce := a.1.take 32
    let private_ := a.1.drop 32
    let cert := s.part.cert.take 960
    let body := nonce ++ (4 : Byte) :: beBytes 96 (Config.ecPublic private_) ++ leBytes 2 cert.length ++ cert
    let th := sha384 (f.payload ++ outerHeader 2 num 0 ++ body)
    let level := leAt f.payload 16 1
    let keys := sessionKeys private_ (slice f.payload 52 97) (slice f.payload 20 32) nonce th
    let shake : Handshake := { num := num, expert := level = 1, slot := if level ≤ 1 then leAt f.payload 17 1 else 255, th := th, keyIn := keys.1, keyOut := keys.2 }
    let s := { s with alaust := { s.alaust with shakes := s.alaust.shakes ++ [shake], nextSession := num % 65535 + 1 } }
    .next (sendDatagram s e f.src f.sport.toNat 2 num 0 false [] (body ++ beBytes 96 (Config.attest th s.fresh)))

/-- The key in a slot of lc.owner_keys that permits a level (12 R390, R406). -/
def ownerKey (s : State) (slot : Nat) (expert : Bool) : Option (List Byte) :=
  let b := cfgBytes s oLcOwnerKeys
  if slot < 4 && !allZero (slice b (98 * slot) 97) && bitAt (if expert then 1 else 0) (leAt b (98 * slot + 97) 1) then some (slice b (98 * slot) 97) else none

/-- The text that closes the transcript the host signs (12 R390). -/
def hostLabel : List Byte := textBytes [0x68, 0x6F, 0x73, 0x74]

/-- PROOF: the session opens with ACCEPT, or the handshake is discarded; ok says whether the datagram's tag verifies under k_hp (12 R390, R391). -/
def execProof (e : Fin 2) (f : InFrame) (num : BitVec 16) (ok : Bool) (sig : List Byte) (s : State) : Host.Outcome State Fault Refusal :=
  if !alaustServed s then .next s else
  let r := udpIngress s e f
  let s := r.2
  if !r.1 || !toAlaust s e f then .next s
  else if 1400 < f.payload.length || !outerOk 3 f.payload then .next (malformed s)
  else match s.alaust.shakes.find? fun x => x.num = num.toNat with
    | none => .next (malformed s)
    | some x =>
      if !ok then .next (roAdd s oAlaustReplays 1)
      else
        let s := { s with alaust := { s.alaust with shakes := s.alaust.shakes.filter fun y => y.num ≠ x.num } }
        let good := match ownerKey s x.slot x.expert with
          | some k => Config.ecdsaVerify k (sha384 (x.th ++ hostLabel)) sig
          | none => false
        if !good then .next (roAdd s oAlaustAuthFailures 1)
        else if 4 ≤ s.alaust.sessions.length then .next (malformed s)
        else
          let n : Session := { num := x.num, expert := x.expert, slot := x.slot, keyIn := x.keyIn, keyOut := x.keyOut, port := e, host := f.src, hport := f.sport.toNat, rxSeen := [0] }
          let s := { s with alaust := { s.alaust with sessions := s.alaust.sessions ++ [n] } }
          .next (sendDatagram s e f.src f.sport.toNat 4 x.num 0 false x.keyOut (leBytes 8 (cfgNat s oAlaustIdleTimeout) ++ leBytes 2 1400))

/-- HANDSHAKE_EXPIRE: an open handshake is discarded 2 s after its CHALLENGE (12 R388). -/
def execHandshakeExpire (num : BitVec 16) (s : State) : Host.Outcome State Fault Refusal :=
  .next { s with alaust := { s.alaust with shakes := s.alaust.shakes.filter fun x => x.num ≠ num.toNat } }

/-- SESSION_IDLE_TIMEOUT (12 R392). -/
def execSessionIdleTimeout (num : BitVec 16) (s : State) : Host.Outcome State Fault Refusal := .next (endSession s num.toNat)

/-! Stages. -/

/-- The stage of a writer (12 R379). -/
def stageOf (s : State) : Writer → SMap Byte
  | .session n => match sessionOf s n with | some x => x.stage | none => []
  | .i2c => s.alaust.i2c.stage

/-- The stage of a writer set. -/
def setStage (s : State) (w : Writer) (m : SMap Byte) : State :=
  match w with
  | .session n => modSession s n fun x => { x with stage := m }
  | .i2c => { s with alaust := { s.alaust with i2c := { s.alaust.i2c with stage := m } } }

/-- A writer exists. -/
def writerThere (s : State) : Writer → Bool
  | .session n => (sessionOf s n).isSome
  | .i2c => true

/-- A writer acts at level Expert (12 R376, R404). -/
def writerExpert (s : State) : Writer → Bool
  | .session n => match sessionOf s n with | some x => x.expert | none => false
  | .i2c => false

/-- Bytes put into a stage, in place of earlier ones of the same address. -/
def stagePut (m : SMap Byte) (key off : Nat) (b : List Byte) : SMap Byte :=
  b.zipIdx.foldl (fun m x => smPut m (key * 65536 + off + x.2) x.1) m

/-- A write to a staged object: STAGE_FULL beyond 256 KiB (12 R379). -/
def stageWrite (s : State) (w : Writer) (key off : Nat) (b : List Byte) : Nat × State :=
  let m := stagePut (stageOf s w) key off b
  if 262144 < m.length then (cStageFull, s) else (cDone, setStage s w m)

/-- A writer's whole stage handed to the part as one group (12 R380). -/
def startCommit (s : State) (w : Writer) (req : Option Nat) (target : Nat) : State :=
  let g : Group := { writer := w, req := req, bytes := stageOf s w, target := target }
  let s := setStage s w []
  { s with alaust := { s.alaust with validating := s.alaust.validating ++ [g] } }

/-- A write of macsec.cak: the enclave holds the key and uses it from the next commit that applies (11 R362). -/
def cakWrite (s : State) (e off : Nat) (b : List Byte) : State :=
  let old := match smFind s.keep.cakNext e with | some k => k | none => List.replicate 32 0
  { s with keep := { s.keep with cakNext := smPut s.keep.cakNext e (slice (putBytes old off b) 0 32) } }

/-- What a write of a WO object does, with its code (12 R378, R384; 11 R362; 15 R489, R491; 16 R521, R523, R529, R533; 17 R552). -/
def writeOnly (s : State) (w : Writer) (key off : Nat) (b : List Byte) : Nat × State :=
  let v := leNat b
  if key = oCommitRequest then (cDone, startCommit s w none v)
  else if key = oCommitDiscard then (cDone, if v = 1 then setStage s w [] else s)
  else if key = oMacsecCak 0 then (cDone, cakWrite s 0 off b)
  else if key = oMacsecCak 1 then (cDone, cakWrite s 1 off b)
  else if key = oFaultClear then faultClear s (v = 1)
  else if key = oFaultTestAlarm then testAlarm s v
  else if key = oTestInject then testInject s v
  else if key = oLcTransition then lcTransition s v
  else if key = oLcPkgSvnRaise then pkgSvnRaise s v
  else if key = oKeepModelDelete then modelDelete s b
  else if key = oFirmwareSwitch then firmwareSwitch s v
  else if key = oResetRequest then resetRequest s v
  else (cDone, s)

/-! Reads and writes of objects. -/

/-- An object that exists now: area 0xF0 only in DEVELOPMENT (00 R13, 12 R376). -/
def objNow (s : State) (key : Nat) : Option ObjDef :=
  if key / 65536 = 0xF0 && !testArea s then none else objFind key

/-- A span of an object that an access may name (12 R377, R402). -/
def spanOk (r : ObjDef) (off n : Nat) : Bool := if r.octets then off + n ≤ r.size && n ≤ 1024 else off = 0 && n = r.size

/-- The value of an object with a writer's staged bytes over it (12 R378). -/
def stagedValue (s : State) (w : Writer) (r : ObjDef) (key : Nat) : List Byte :=
  let m := stageOf s w
  (objValue s r key).zipIdx.map fun x => match smFind m (key * 65536 + x.2) with | some b => b | none => x.1

/-- A read of an object: code, bytes, and the state after it (12 R376 to R378, R402, R408). -/
def readObject (s : State) (w : Writer) (staged : Bool) (key off n : Nat) : Nat × List Byte × State :=
  match objNow s key with
  | none => (cObjectNotFound, [], s)
  | some r =>
    if r.acc = .wo then (cAccessDenied, [], s)
    else if n = 0 then (cEmpty, [], s)
    else if !spanOk r off n then (cLengthMismatch, [], s)
    else if key = oTestData then testRead s off n
    else (cDone, slice (if staged then stagedValue s w r key else objValue s r key) off n, s)

/-- A write of an object once the writer may make it (12 R377 to R379, R408). -/
def writeAllowed (s : State) (w : Writer) (r : ObjDef) (key off : Nat) (b : List Byte) : Nat × State :=
  if b.isEmpty then (cEmpty, s)
  else if !spanOk r off b.length then (cLengthMismatch, s)
  else if r.bool && 1 < leNat b then (cValueRange, s)
  else match r.acc with
    | .rws => stageWrite s w key off b
    | .rw => if key = oTestData then testWrite s off b else (cDone, cfgPut s key b)
    | .wo => writeOnly s w key off b
    | .const | .ro => (cAccessDenied, s)

/-- A write of an object from an Alaust session (12 R376, R402). -/
def writeObject (s : State) (w : Writer) (key off : Nat) (b : List Byte) : Nat × State :=
  match objNow s key with
  | none => (cObjectNotFound, s)
  | some r =>
    if r.acc = .const || r.acc = .ro then (cAccessDenied, s)
    else if r.expert && !writerExpert s w then (cLevelDenied, s)
    else writeAllowed s w r key off b

/-- The key of an entry. -/
def entryKey (x : AEntry) : Nat := x.index.toNat * 256 + x.sub.toNat

/-- The 12-byte header of an entry of a reply (12 R393). -/
def entryHead (x : AEntry) (n code : Nat) : List Byte :=
  leBytes 2 x.index.toNat ++ leBytes 1 x.sub.toNat ++ leBytes 1 0 ++ leBytes 4 x.offset.toNat ++ leBytes 2 n ++ leBytes 2 code

/-- Zeros up to a multiple of 4. -/
def pad4 (b : List Byte) : List Byte := b ++ List.replicate ((4 - b.length % 4) % 4) 0

/-- One entry of a READ; one whose bytes the datagram cannot hold answers LENGTH_MISMATCH (12 R385, R393; notes/assumptions/34.md). -/
def readEntry (w : Writer) (staged : Bool) (a : List Byte × State) (x : AEntry) : List Byte × State :=
  let r := readObject a.2 w staged (entryKey x) x.offset.toNat x.length.toNat
  let d := pad4 r.2.1
  if a.1.length + 12 + d.length ≤ 1360 then (a.1 ++ entryHead x r.2.1.length r.1 ++ d, r.2.2)
  else (a.1 ++ entryHead x 0 cLengthMismatch, r.2.2)

/-- One entry of a WRITE (12 R393, R395). -/
def writeEntry (w : Writer) (a : List Byte × State) (x : AEntry) : List Byte × State :=
  let r := writeObject a.2 w (entryKey x) x.offset.toNat x.data
  (a.1 ++ entryHead x x.length.toNat r.1, r.2)

/-- The entries of a request agree with its header and its length (12 R394). -/
def entriesOk (m : AMsg) (write : Bool) (l : List AEntry) : Bool :=
  m.flags.toNat < 2 && m.count.toNat = l.length && l.all fun x => x.reserved = 0 && (!write || (x.data.length = x.length.toNat && x.length.toNat ≤ 1024))

/-- A READ or WRITE executed entry by entry and answered (12 R394, R395, R408). -/
def entriesRequest (op : Nat) (m : AMsg) (l : List AEntry) (one : List Byte × State → AEntry → List Byte × State) (s : State) : State :=
  let num := m.session.toNat
  if !entriesOk m (op = 0x11) l then reply s num op m.req.toNat 0 cRequestMalformed []
  else if l.isEmpty then reply s num op m.req.toNat 0 cEmpty []
  else
    let r := l.foldl one ([], s)
    reply r.2 num op m.req.toNat l.length cDone r.1

/-- READ (12 R394, R395). -/
def readRequest (m : AMsg) (l : List AEntry) (s : State) : State :=
  answerOnce s m (entriesRequest 0x10 m l (readEntry (.session m.session.toNat) (m.flags.toNat % 2 = 1)))

/-- WRITE (12 R394, R395). -/
def writeRequest (m : AMsg) (l : List AEntry) (s : State) : State :=
  answerOnce s m (entriesRequest 0x11 m l (writeEntry (.session m.session.toNat)))

/-- COMMIT: answered when its validation ends (12 R380, R394, R395). -/
def commitRequest (m : AMsg) (target : Nat) (s : State) : State :=
  answerOnce s m <| ifPlain 0x12 m fun s =>
    let num := m.session.toNat
    startCommit (modSession s num fun x => { x with waiting := x.waiting ++ [m.req.toNat] }) (.session num) (some m.req.toNat) target

/-- A request that is answered with DONE after an act (12 R394). -/
def plainRequest (op : Nat) (m : AMsg) (f : State → State) (s : State) : State :=
  answerOnce s m <| ifPlain op m fun s => reply (f s) m.session.toNat op m.req.toNat 0 cDone []

/-- DISCARD (12 R379, R394). -/
def discardRequest (m : AMsg) (s : State) : State := plainRequest 0x13 m (fun s => setStage s (.session m.session.toNat) []) s

/-- KEEPALIVE (12 R394). -/
def keepaliveRequest (m : AMsg) (s : State) : State := plainRequest 0x40 m (fun s => s) s

/-- NOTIFY_ACK (12 R401). -/
def notifyAckRequest (m : AMsg) (nseq : Nat) (s : State) : State :=
  plainRequest 0x31 m (fun s => modSession s m.session.toNat fun x => { x with notify := x.notify.filter fun n => n.1 ≠ nseq }) s

/-! Commits. -/

/-- The configuration in force at a boundary: every accepted commit for an earlier or the same boundary applied in the order of acceptance (12 R380, R382). -/
def configAt (s : State) (tick : Nat) (l : List Group) : State :=
  (l.filter fun g => g.tick ≤ tick).foldl (fun s g => applyBytes s g.bytes) s

/-- The first failing object of a group over the groups before it; an empty group has nothing to fail (12 R380, R408). -/
def groupFail (s : State) (before : List Group) (g : Group) : Option Failing :=
  if g.bytes.isEmpty then none else checkGroup (configAt s g.tick before) g.bytes g.target

/-- Groups in the order in which they apply: by boundary, then by acceptance (12 R382). -/
def groupLe (a b : Group) : Bool := if a.tick ≠ b.tick then a.tick < b.tick else a.seq ≤ b.seq

/-- The first pending commit for a later boundary that no longer passes with a new group before it (12 R382). -/
def laterFails (s : State) (g : Group) : Option Failing :=
  let l := sortBy groupLe (s.alaust.accepted ++ [g])
  (s.alaust.accepted.filter fun x => g.tick < x.tick).findSome? fun x => groupFail s (l.filter fun y => y.seq ≠ x.seq && groupLe y x) x

/-- The COMMIT that a group came from answered (12 R394). -/
def commitReply (s : State) (g : Group) (code apply : Nat) (fail : Failing) : State :=
  match g.writer, g.req with
  | .session n, some req =>
    reply s n 0x12 req 0 code (leBytes 8 apply ++ leBytes 2 (fail.1 / 256) ++ leBytes 1 (fail.1 % 256) ++ leBytes 1 0 ++ leBytes 2 fail.2)
  | _, _ => s

/-- A group rejected whole (12 R381): commit.last_code and commit.last_object hold what the rejection reports. -/
def rejectGroup (s : State) (g : Group) (code : Nat) (fail : Option Failing) : State :=
  let f := fail.getD (0, 0)
  let s := roPut s oCommitLastCode (match fail with | some x => x.2 | none => code)
  let s := roPut s oCommitLastObject (f.1 / 256 * 65536 + f.1 % 256)
  let s := if f.1 = oPlanPackage then roPut s oPlanAdmission f.2 else s
  commitReply s g code 0 f

/-- plan.worst_tile_steps of a plan that passes admission (02 R74). -/
def noteAdmission (s : State) (g : Group) : State :=
  match groupPackage g.bytes with
  | none => s
  | some d =>
    match heldPackage s d with
    | some p => roPut s oPlanWorstTileSteps (worstTile (toPlan (packageBytes s p).1))
    | none => s

/-- A group accepted: journaled, and pending for its boundary (12 R380). -/
def acceptGroup (s : State) (g : Group) : State :=
  let s := { s with alaust := { s.alaust with accepted := s.alaust.accepted ++ [g], groups := s.alaust.groups + 1 } }
  let s := if g.bytes.isEmpty then s else journal (noteAdmission s g) (.config g.seq g.tick g.bytes)
  commitReply s g cDone g.tick (0, 0)

/-- The validation of a group ends (12 R380 to R382). -/
def commitEnd (s : State) (g : Group) : State :=
  if g.target ≠ 0 && 16 ≤ (s.alaust.accepted.filter fun x => x.target ≠ 0).length then rejectGroup s g cCommitPendingFull none
  else if tooLate s g.target then rejectGroup s g cCommitTooLate none
  else
    let g := { g with tick := applyTick s g.target, seq := s.alaust.groups, at_ := nowNs s }
    match groupFail s s.alaust.accepted g with
    | some f => rejectGroup s g cCommitRejected (some f)
    | none =>
      match laterFails s g with
      | some f => rejectGroup s g cCommitConflict (some f)
      | none => acceptGroup s g

/-- COMMIT_VALIDATION_END: the oldest group under validation is accepted or rejected (12 R380 to R382). -/
def execCommitValidationEnd (s : State) : Host.Outcome State Fault Refusal :=
  match s.alaust.validating with
  | [] => .next s
  | g :: r => .next (commitEnd { s with alaust := { s.alaust with validating := r } } g)

/-- The writer of a command row: a session, or the I2C interface. -/
def rowWriter : Option (BitVec 16) → Writer
  | some n => .session n.toNat
  | none => .i2c

/-- COMMIT_REQUEST: a write of commit.request (12 R380, R384). -/
def execCommitRequest (num : Option (BitVec 16)) (target : BitVec 64) (s : State) : Host.Outcome State Fault Refusal :=
  if writerThere s (rowWriter num) then answered (writeOnly s (rowWriter num) oCommitRequest 0 (leBytes 8 target.toNat)) else .next s

/-- COMMIT_DISCARD: a write of TRUE to commit.discard (12 R379, R384). -/
def execCommitDiscard (num : Option (BitVec 16)) (s : State) : Host.Outcome State Fault Refusal :=
  if writerThere s (rowWriter num) then answered (writeOnly s (rowWriter num) oCommitDiscard 0 [1]) else .next s

/-- MACSEC_CAK_WRITE (11 R362). -/
def execMacsecCakWrite (e : Fin 2) (key : List Byte) (s : State) : Host.Outcome State Fault Refusal := answered (cDone, cakWrite s e.val 0 key)

/-! Bulk transfers. -/

/-- Segments of a transfer (12 R398). -/
def segCount (b : Bulk) : Nat := ceilDiv b.length 1280

/-- The bytes that segment n of a transfer carries. -/
def segLen (b : Bulk) (n : Nat) : Nat := min 1280 (b.length - 1280 * n)

/-- NEXT: the lowest segment not yet received or acked (12 R398). -/
def nextSeg (b : Bulk) : Nat := ((List.range (b.got.length + 1)).find? fun i => !b.got.contains i).getD 0

/-- MAP: bit i for segment NEXT + 1 + i (12 R398). -/
def segMap (b : Bulk) : Nat := bitSet ((List.range 64).filter fun i => b.got.contains (nextSeg b + 1 + i))

/-- A transfer of a session. -/
def bulkOf (s : State) (num id : Nat) : Option Bulk := s.alaust.bulks.find? fun b => b.id = id && b.session = num

/-- A transfer changed. -/
def modBulk (s : State) (id : Nat) (f : Bulk → Bulk) : State := setBulks s (s.alaust.bulks.map fun b => if b.id = id then f b else b)

/-- A transfer closed or aborted. -/
def dropBulk (s : State) (id : Nat) : State := setBulks s (s.alaust.bulks.filter fun b => b.id ≠ id)

/-- A bulk message that the part sends of itself; its REQ_ID is the segment's number modulo 65,536, or 0 (12 R393, R398; notes/assumptions/34.md). -/
def sendBulk (s : State) (num op req : Nat) (body : List Byte) : State := sendProtected s num true (bodyHeader op req 0 0 ++ body)

/-- BULK_ACK for an upload (12 R398). -/
def sendAck (s : State) (b : Bulk) : State :=
  let s := modBulk s b.id fun x => { x with unacked := 0 }
  sendBulk s b.session 0x22 0 (leBytes 2 b.id ++ leBytes 4 (nextSeg b) ++ leBytes 8 (segMap b))

/-- Segment n of a download sent (12 R398). -/
def sendSeg (b : Bulk) (s : State) (n : Nat) : State :=
  sendBulk s b.session 0x21 n (leBytes 2 b.id ++ leBytes 2 0 ++ leBytes 4 n ++ slice b.data (1280 * n) (segLen b n))

/-- The segments of a download inside its window that were never sent (12 R398). -/
def sendWindow (s : State) (b : Bulk) : State :=
  let stop := min (segCount b) (nextSeg b + 256)
  let s := ((List.range stop).drop b.sent).foldl (sendSeg b) s
  modBulk s b.id fun x => { x with sent := max x.sent stop }

/-- The retained messages from a number on, each datagram behind its header (12 R398, 11 R370, R372). -/
def downloadBytes (s : State) (first n : Nat) : List Byte :=
  ((s.eth.ring.filter fun m => first ≤ m.seq).take n).flatMap fun m => (datagrams (deviceId s) m).flatten

/-- The fields of a BULK_OPEN are well formed (12 R394, R397). -/
def openFields (target flags reserved : Nat) : Bool := 1 ≤ target && target ≤ 3 && reserved = 0 && (flags = 0 || (flags = 1 && target = 1))

/-- The code with which an open aborts (12 R397; 16 R529). -/
def openCode (s : State) (num target flags length first : Nat) : Nat :=
  let l := s.alaust.bulks
  if 2 ≤ (l.filter fun b => b.session = num).length || 4 ≤ l.length || l.any (fun b => b.target = 2) || (target = 2 && 2 ≤ s.fw.state) then cBulkBusy
  else if target = 1 && flags = 1 && modelFree s < length then cStoreFull
  else if target = 3 && first < (netView s oResultRetainedFirst).getD 0 then cResultNotRetained
  else cDone

/-- BULK_OPEN carried out (12 R397, R408; 16 R529). -/
def bulkOpen (m : AMsg) (target flags reserved length first : Nat) (digest : List Byte) (s : State) : State :=
  let num := m.session.toNat
  let req := m.req.toNat
  let code := openCode s num target flags length first
  if !openFields target flags reserved then reply s num 0x20 req 0 cRequestMalformed []
  else if code ≠ cDone then reply s num 0x20 req 0 code []
  else
    let data := if target = 3 then downloadBytes s first length else []
    let id := s.alaust.nextBulk
    let b : Bulk := { id := id, session := num, target := target, persist := flags = 1, length := if target = 3 then data.length else length, digest := digest, data := data }
    let body := leBytes 2 id ++ leBytes 2 256 ++ (if target = 3 then leBytes 8 data.length else [])
    let s := if target = 2 && s.fw.state = 1 then { s with fw := { s.fw with state := 0, staged := none, switch := none } } else s
    let s := { s with alaust := { s.alaust with nextBulk := id % 65535 + 1 } }
    if target = 3 && data.isEmpty then reply s num 0x20 req 0 cEmpty body
    else
      let s := reply (setBulks s (s.alaust.bulks ++ [b])) num 0x20 req 0 cDone body
      if target = 3 then sendWindow s b else s

/-- BULK_OPEN (12 R397). -/
def bulkOpenRequest (m : AMsg) (target flags reserved length first : Nat) (digest : List Byte) (s : State) : State :=
  answerOnce s m <| ifPlain 0x20 m (bulkOpen m target flags reserved length first digest)

/-- The extents that an upload may not touch: the packages of the active plan and of pending commits, and the regions of other uploads (12 R399). -/
def regionsHeld (s : State) (id : Nat) : List (Nat × Nat) :=
  let digests := (match s.ctrl.plan with | some p => [p.digest] | none => []) ++ s.alaust.accepted.filterMap fun g => groupPackage g.bytes
  (s.ctrl.packages.filter fun p => digests.contains p.digest).map (fun p => (p.base, p.length))
    ++ (match s.ctrl.plan with | some p => [(p.base, p.length)] | none => [])
    ++ (s.alaust.bulks.filter fun b => b.target = 1 && b.id ≠ id && b.got.contains 0).map fun b => (b.base, b.length)

/-- The region that the header of a package names may be written (12 R399). -/
def regionFree (s : State) (b : Bulk) (base : Nat) : Bool :=
  base + b.length ≤ hbmPlanSize && !(regionsHeld s b.id).any fun x => overlap base b.length x.1 x.2

/-- Segment 0 of a package: the region is taken, packages it overwrites are no longer held, and the segments that came before it are written (12 R399, 02 R582). -/
def takeRegion (s : State) (b : Bulk) (base : Nat) : State :=
  let s := modBulk s b.id fun x => { x with base := base }
  let s := { s with ctrl := { s.ctrl with packages := s.ctrl.packages.filter fun p => !overlap base b.length p.base p.length } }
  b.parts.foldl (fun s x => hbmSet s (base + 1280 * x.1) x.2) s

/-- A segment of an upload received (12 R398, R399). -/
def uploadSeg (s : State) (b : Bulk) (seg : Nat) (bytes : List Byte) : State :=
  if b.got.contains seg then s else
  let b := { b with got := setInsert b.got seg, parts := smPut b.parts seg bytes, unacked := b.unacked + 1 }
  let s := modBulk s b.id fun _ => b
  let s := if b.target ≠ 1 then s
    else if seg = 0 then takeRegion s b (leAt bytes 16 6)
    else if b.got.contains 0 then hbmSet s (b.base + 1280 * seg) bytes
    else s
  if 32 ≤ b.unacked then sendAck s b else s

/-- BULK_DATA (12 R398 to R400). -/
def bulkDataRequest (m : AMsg) (id reserved seg : Nat) (bytes : List Byte) (s : State) : State :=
  let num := m.session.toNat
  let refuse (s : State) (code : Nat) : State := sendProtected s num true (bodyHeader 0xA1 m.req.toNat 0 code)
  match bulkOf s num id with
  | none => refuse s cBulkUnknown
  | some b =>
    if b.target = 3 then refuse s cBulkUnknown
    else if !plainHeader m || reserved ≠ 0 || segCount b ≤ seg || bytes.length ≠ segLen b seg then refuse s cRequestMalformed
    else if b.target = 1 && seg = 0 && !regionFree s b (leAt bytes 16 6) then refuse (dropBulk s id) cPackageOverlap
    else uploadSeg s b seg bytes

/-- BULK_ACK of a host: the window moves, and the last ack completes the download (12 R398). -/
def bulkAckRequest (m : AMsg) (id next map : Nat) (s : State) : State :=
  match bulkOf s m.session.toNat id with
  | none => s
  | some b =>
    if b.target ≠ 3 then s else
    let acked := (List.range (min next (segCount b))) ++ ((List.range 64).filter fun i => bitAt i map && next + 1 + i < segCount b).map fun i => next + 1 + i
    let b := { b with got := acked.foldl setInsert b.got }
    if segCount b ≤ nextSeg b then dropBulk s id else sendWindow (modBulk s id fun _ => b) b

/-- The bytes of an upload. -/
def uploadBytes (b : Bulk) : List Byte := b.parts.flatMap (·.2)

/-- BULK_CLOSE carried out: length and digest are checked and verification begins (12 R399, R400, R408). -/
def bulkClose (m : AMsg) (id : Nat) (s : State) : State :=
  let num := m.session.toNat
  let answer (s : State) (code : Nat) : State := reply s num 0x23 m.req.toNat 0 code []
  match bulkOf s num id with
  | none => answer s cBulkUnknown
  | some b =>
    if b.target = 3 then answer s cBulkUnknown
    else if b.length = 0 then answer (dropBulk s id) cEmpty
    else if b.got.length < segCount b then answer (dropBulk s id) cBulkLength
    else if sha384 (uploadBytes b) ≠ b.digest then answer (dropBulk s id) cBulkDigest
    else
      let s := modSession s num fun x => { x with waiting := x.waiting ++ [m.req.toNat] }
      modBulk s id fun x => { x with closing := some m.req.toNat }

/-- BULK_CLOSE (12 R399). -/
def bulkCloseRequest (m : AMsg) (id : Nat) (s : State) : State := answerOnce s m <| ifPlain 0x23 m (bulkClose m id)

/-- A verified package is held in HBM; with PERSIST it is being stored (12 R399; 14 R467; 16 R523). -/
def holdPackage (s : State) (b : Bulk) (bytes : List Byte) : State :=
  let p : Package := { digest := sha384 bytes, base := b.base, length := b.length, fresh := true }
  let s := { s with ctrl := { s.ctrl with packages := (s.ctrl.packages.filter fun x => x.digest ≠ p.digest) ++ [p] } }
  if b.persist then { s with saving := s.saving ++ [{ digest := p.digest, bytes := bytes }] } else s

/-- BULK_VERIFY_DONE: the content of an upload is verified and its BULK_CLOSE answered (12 R399; 16 R519, R523, R529). -/
def execBulkVerifyDone (id : BitVec 16) (s : State) : Host.Outcome State Fault Refusal :=
  match s.alaust.bulks.find? fun b => b.id = id.toNat with
  | none => .next s
  | some b =>
    match b.closing with
    | none => .next s
    | some req =>
      let bytes := uploadBytes b
      let code := if b.target = 1 then verifyPackage s bytes else verifyImage s.keep.otp bytes
      let s := dropBulk s b.id
      let s := if code ≠ cDone then s
        else if b.target = 1 then holdPackage s b bytes
        else { s with fw := { s.fw with staged := some bytes, state := 1 } }
      .next (reply s b.session 0x23 req 0 code [])

/-- BULK_ACK_TIMER: 5 ms after the last segment not yet acked (12 R398). -/
def execBulkAckTimer (id : BitVec 16) (s : State) : Host.Outcome State Fault Refusal :=
  match s.alaust.bulks.find? fun b => b.id = id.toNat with
  | none => .next s
  | some b => .next (if b.target ≠ 3 && b.unacked ≠ 0 then sendAck s b else s)

/-- BULK_RESEND_TIMER: a segment unacked for 20 ms is sent again (12 R398). -/
def execBulkResendTimer (id : BitVec 16) (seg : BitVec 32) (s : State) : Host.Outcome State Fault Refusal :=
  match s.alaust.bulks.find? fun b => b.id = id.toNat with
  | none => .next s
  | some b => .next (if b.target = 3 && seg.toNat < b.sent && !b.got.contains seg.toNat then sendSeg b s seg.toNat else s)

/-- BULK_TIMEOUT: a transfer without progress for 10 s aborts (12 R400). -/
def execBulkTimeout (id : BitVec 16) (s : State) : Host.Outcome State Fault Refusal := .next (dropBulk s id.toNat)

/-! Notifications. -/

/-- NOTIFY for one record to one session (12 R401). -/
def sendNote (n : Note) (s : State) (num : Nat) : State := sendProtected s num false (bodyHeader 0x30 0 0 0 ++ noteBytes n)

/-- NOTIFY: the oldest record raised is numbered, enters the ring, and goes to every session (12 R401). -/
def execNotify (s : State) : Host.Outcome State Fault Refusal :=
  match s.alaust.raised with
  | [] => .next s
  | n :: _ =>
    let r := takeNseq s
    let n := { n with nseq := r.1 }
    let ring := s.alaust.ring ++ [n]
    let s := { r.2 with alaust := { r.2.alaust with raised := r.2.alaust.raised.drop 1, ring := ring.drop (ring.length - 256) } }
    let nums := s.alaust.sessions.map (·.num)
    .next (nums.foldl (fun s num => sendNote n (modSession s num fun x => { x with notify := x.notify ++ [(n.nseq, 1)] }) num) s)

/-- NOTIFY_RESEND: a record that a session has not acknowledged is sent again, at most 8 times in all (12 R401). -/
def execNotifyResend (num : BitVec 16) (nseq : BitVec 64) (s : State) : Host.Outcome State Fault Refusal :=
  match sessionOf s num.toNat with
  | none => .next s
  | some x =>
    match x.notify.find? fun n => n.1 = nseq.toNat, s.alaust.ring.find? fun n => n.nseq = nseq.toNat with
    | some c, some n =>
      if 8 ≤ c.2 then .next s
      else .next (sendNote n (modSession s x.num fun x => { x with notify := x.notify.map fun y => if y.1 = c.1 then (y.1, y.2 + 1) else y }) x.num)
    | _, _ => .next s

/-! Requests received. -/

/-- A request carried out (12 R394). -/
def runRequest (q : HeldReq) (s : State) : State :=
  match q with
  | .read m l => readRequest m l s
  | .write m l => writeRequest m l s
  | .commit m t => commitRequest m t s
  | .discard m => discardRequest m s
  | .keepalive m => keepaliveRequest m s
  | .notifyAck m n => notifyAckRequest m n s
  | .bulkOpen m t f r n first d => bulkOpenRequest m t f r n first d s
  | .bulkData m id reserved seg b => bulkDataRequest m id reserved seg b s
  | .bulkAck m id next map => bulkAckRequest m id next map s
  | .bulkClose m id => bulkCloseRequest m id s
  | .finish m => endSession s m.session.toNat
  | .i2cRead _ _ _ _ | .i2cWrite _ _ _ _ => s

/-- A request held until the firmware switch ends (12 R396). -/
def holdRequest (s : State) (q : HeldReq) : State := { s with alaust := { s.alaust with held := s.alaust.held ++ [q] } }

/-- A request received and executed; during a firmware switch it is held (12 R395, R396). -/
def request (m : AMsg) (q : HeldReq) (s : State) : Host.Outcome State Fault Refusal :=
  let r := receive s m
  if !r.1 then .next r.2
  else if r.2.fw.state = 2 then .next (holdRequest r.2 q)
  else .next (runRequest q r.2)

/-- ALAUST_READ (12 R395). -/
def execAlaustRead (m : AMsg) (entries : List AEntry) (s : State) : Host.Outcome State Fault Refusal := request m (.read m entries) s

/-- ALAUST_WRITE (12 R395). -/
def execAlaustWrite (m : AMsg) (entries : List AEntry) (s : State) : Host.Outcome State Fault Refusal := request m (.write m entries) s

/-- ALAUST_COMMIT (12 R380). -/
def execAlaustCommit (m : AMsg) (target : BitVec 64) (s : State) : Host.Outcome State Fault Refusal := request m (.commit m target.toNat) s

/-- ALAUST_DISCARD (12 R379). -/
def execAlaustDiscard (m : AMsg) (s : State) : Host.Outcome State Fault Refusal := request m (.discard m) s

/-- KEEPALIVE (12 R394). -/
def execKeepalive (m : AMsg) (s : State) : Host.Outcome State Fault Refusal := request m (.keepalive m) s

/-- NOTIFY_ACK (12 R401). -/
def execNotifyAck (m : AMsg) (nseq : BitVec 64) (s : State) : Host.Outcome State Fault Refusal := request m (.notifyAck m nseq.toNat) s

/-- BULK_OPEN (12 R397). -/
def execBulkOpen (m : AMsg) (target flags : BitVec 8) (reserved : BitVec 16) (length first : BitVec 64) (digest : List Byte) (s : State) : Host.Outcome State Fault Refusal :=
  request m (.bulkOpen m target.toNat flags.toNat reserved.toNat length.toNat first.toNat digest) s

/-- BULK_DATA; head is the body's first 4 bytes: BULK_ID in its low half, the 2 reserved bytes above (12 R394, R398). -/
def execBulkData (m : AMsg) (head seg : BitVec 32) (bytes : List Byte) (s : State) : Host.Outcome State Fault Refusal :=
  request m (.bulkData m (head.toNat % 65536) (head.toNat / 65536) seg.toNat bytes) s

/-- BULK_ACK (12 R398). -/
def execBulkAck (m : AMsg) (id : BitVec 16) (next : BitVec 32) (map : BitVec 64) (s : State) : Host.Outcome State Fault Refusal :=
  request m (.bulkAck m id.toNat next.toNat map.toNat) s

/-- BULK_CLOSE (12 R399). -/
def execBulkClose (m : AMsg) (id : BitVec 16) (s : State) : Host.Outcome State Fault Refusal := request m (.bulkClose m id.toNat) s

/-- ALAUST_END: END of the host, which is not answered, or of the part, which is sent (12 R392, R394). -/
def execAlaustEnd (num : BitVec 16) (host : Option AMsg) (s : State) : Host.Outcome State Fault Refusal :=
  match host with
  | some m => request m (.finish m) s
  | none => .next (endSession (sendProtected s num.toNat false (bodyHeader 0x41 0 0 0)) num.toNat)

end Sys2Proof.Machine
end

