-- ==== Sys2Proof/Machine/QueueRows.lean ====
section
/-! DEFINITION. The rows of the queue engine: its two slots of a tile cycle, the sweep of the pointer store, and the reset of a queue (09 R311, R316, R317; 15 R480). -/

namespace Sys2Proof.Machine

open Sys2Proof

/-! The reset of a queue. -/

/-- Cells that some queue of either copy, a channel or a chip-side client still holds (09 R317). Cells of an item that is being written or read belong to no queue, and are kept too (DESIGN CHOICE, notes/assumptions/50.md). -/
def cellsHeld (s : State) : List Nat :=
  let ofStore (m : SMap Queue) : List Nat := m.flatMap fun e => e.2.items.flatMap (·.cells)
  ofStore s.queues.ptrA ++ ofStore s.queues.ptrB
    ++ (s.queues.intake ++ s.queues.sys).flatMap (·.cells)
    ++ (match s.queues.egress with | some x => x.cells | none => [])
    ++ s.intake.engines.toList.flatMap (fun e => match e.job with | some j => j.cells | none => [])
    ++ s.tiles.toList.flatMap fun t => t.dma.ch.toList.flatMap channelCells

/-- A channel works on a queue: an enqueue not yet linked, or a dequeue that waits on it or still reads its cells (09 R317). -/
def worksOn (x : Channel) (q : Nat) : Bool :=
  match x.active with
  | none => false
  | some r => mQueue r.desc = q && ((mOp r.desc = 3 && !r.linked) || (mOp r.desc = 4 && (if r.unlinked then !r.cells.isEmpty else r.queueCode = 0)))

/-- The intake unit that a discarded item names leaves its ring, and the context resynchronises (09 R317, 10 R327). -/
def discardUnit (q : Nat) (s : State) : State :=
  let busy := match (ctxOf s q).engine with
    | some g => (s.intake.engines[g]).job.map (·.seq)
    | none => none
  let seq := match (ctxOf s q).ring.find? fun u => some u.seq ≠ busy with
    | some u => u.seq
    | none => 0
  let s := dropRing (countDropped s q) q seq
  if (ctxOf s q).gapSkip then s else modCtx (enterWait s q cQueueReset seq false) q fun x => { x with gapSkip := true }

/-- What becomes of one discarded item (09 R317). -/
def discardItem (q : Nat) (s : State) (i : QItem) : State :=
  if q < 1024 then discardUnit q s
  else if 1032 < q then s
  else match i.item, i.msg with
    | some k, _ => endItemWith s k cFailed cQueueReset
    | none, some m => replaceMessage { s with ctrl := { s.ctrl with msgs := smDel s.ctrl.msgs m } } (smGet {} s.ctrl.msgs m) cQueueReset
    | none, none => s

/-- The channels that work on a queue end with QUEUE_RESET (09 R302, R317). -/
def endWorkers (s : State) (q : Nat) : State :=
  (List.finRange 72).foldl (fun s p => (List.finRange 8).foldl (fun s c =>
    if worksOn (chan s p c) q then busError s p c cQueueReset 0 none else s) s) s

/-- A queue reset: both copies empty, its items discarded, reported and their cells returned, and the channels that work on it ended (09 R317). -/
def resetQueue (s : State) (q : Nat) : State :=
  let items := (queueOf s q).items ++ ((smGet {} s.queues.ptrB q).items.filter fun i => !(queueOf s q).items.contains i)
  let s := setQueue s q {}
  let s := { s with queues := { s.queues with ptrB := smDel s.queues.ptrB q, ptrBad := s.queues.ptrBad.filter (· ≠ q) } }
  let s := endWorkers (items.foldl (discardItem q) s) q
  notify (roPut (roAdd s oQueueResets 1) oQueueLastReset q) cQueuePointerMismatch 2 q (leBytes 4 items.length)

/-- The allocation of the pool as both copies are rewritten: what is held, and nothing else (09 R316, R317). -/
def rewriteCells (s : State) : State :=
  let held := cellsHeld s
  let l := (s.queues.usedB.foldl setInsert s.queues.used).filter held.contains
  { s with queues := { s.queues with used := l, usedB := l } }

/-- The queues that a comparison of the two copies resets: those whose lists differ, whose words have bad parity, or which own a cell whose allocation differs (09 R316, R317). -/
def mismatched (s : State) : List Nat :=
  let differs (n : Nat) : Bool := s.queues.used.contains n ≠ s.queues.usedB.contains n
  let keys := (s.queues.ptrA ++ s.queues.ptrB).foldl (fun l e => setInsert l e.1) s.queues.ptrBad
  keys.filter fun q =>
    smGet {} s.queues.ptrA q ≠ smGet {} s.queues.ptrB q || s.queues.ptrBad.contains q
      || (queueOf s q).items.any fun i => i.cells.any differs

/-- The comparison of both copies: every queue that differs is reset, and the allocation rewritten where it differs or a queue was reset (09 R316, R317). At start-up and before use after a restart the pool is empty and both copies are equal. -/
def comparePointers (s : State) : State :=
  let bad := mismatched s
  if bad.isEmpty && s.queues.used = s.queues.usedB then s else rewriteCells (bad.foldl resetQueue s)

/-- POINTER_SWEEP_COMPLETE: the comparison of both copies of the pointer store ends (09 R316, R317). -/
def execPointerSweepComplete (s : State) : Host.Outcome State Fault Refusal :=
  .next (roAdd (comparePointers s) oQueueSweeps 1)

/-! The slots. -/

/-- An operation on a queue: where the engine meets a word of the queue with bad parity, the queue is reset and the copies are compared instead (09 R316, R317). -/
def onQueue (s : State) (q : Nat) (f : State → State) : State :=
  if s.queues.ptrBad.contains q then comparePointers (resetQueue s q) else f s

/-- The queue operation of one tile in its slot: enqueues before dequeues, the lowest channel first (09 R288, R311). -/
def tileQueueOp (s : State) (p : PTile) : Option State :=
  let at_ (c : Fin 8) : Nat := match (chan s p c).active with | some r => mQueue r.desc | none => 0
  match (List.finRange 8).find? (enqueueReady s p) with
  | some c => some (onQueue s (at_ c) fun s => enqueueCell s p c)
  | none => ((List.finRange 8).find? (dequeueReady s p)).map fun c => onQueue s (at_ c) fun s => dequeueCell s p c

/-- The acting spares, lowest physical number first (15 R480). -/
def actingTiles (s : State) : List PTile := (List.finRange 72).filter fun p => (tile s p).role = 2

/-- The operation that the first waiting item of a list makes: its queue, and the state after it. -/
def listSlot (s : State) (l : List ChipOp) (put : List ChipOp → State → State) : Option State :=
  match (l.find? fun o => s.queues.ptrBad.contains o.queue), chipList s l with
  | some o, _ => some (comparePointers (resetQueue s o.queue))
  | none, some (l', s') => some (put l' s')
  | none, none => none

/-- The result egress in its slot: the next cell of the record it reads, or the unlink and first cell of the head of queue 1,032; a cell returns to the pool as it is read (09 R310, R311, R315). While the controller restarts records wait (15 R490). -/
def egressSlot (s : State) : State :=
  let readCell1 (s : State) (x : ChipTake) : State :=
    match x.cells with
    | [] => s
    | n :: rest =>
      let r := readCell s n
      let s := roAdd (freeCells (cellBank s n) [n]) oQueuePoisoned r.2
      { s with queues := { s.queues with egress := some { x with cells := rest, bytes := x.bytes ++ r.1, poison := x.poison + r.2 } } }
  match s.queues.egress with
  | some x => readCell1 s x
  | none =>
    if s.ctrl.down.isSome then s
    else match headItem (queueOf s 1032) with
      | none => s
      | some i => onQueue s 1032 fun s => readCell1 (unlinkItem s 1032 i) { item := i, cells := i.cells }

/-- The decode engines in their slot (09 R311, 10 R332). -/
def decodeTurn (s : State) : State :=
  match decodeQueue s with
  | some c => onQueue s c decodeSlot
  | none => decodeSlot s

/-- The chip-side operation of a cycle: intake, decode engines, result egress, and the system controller before the acting spares, by the cycle modulo 4 (09 R311, 15 R480). -/
def chipSide (s : State) : State :=
  match sinceBoundary s % 4 with
  | 0 => (listSlot s s.queues.intake fun l s => { s with queues := { s.queues with intake := l } }).getD s
  | 1 => decodeTurn s
  | 2 => egressSlot s
  | _ =>
    match listSlot s s.queues.sys fun l s => { s with queues := { s.queues with sys := l } } with
    | some s => s
    | none => ((actingTiles s).findSome? (tileQueueOp s)).getD s

/-- QUEUE_SLOT: the chip-side cell operation of the present cycle and then the tile-side one, for logical tile c mod 64 (09 R311). A cycle serves one such row. -/
def execQueueSlot (s : State) : Host.Outcome State Fault Refusal :=
  if s.queues.slotAt = s.cycle + 1 then .next s
  else
    let s := chipSide { s with queues := { s.queues with slotAt := s.cycle + 1 } }
    match holderOf s (sinceBoundary s % 64) with
    | some p => .next ((tileQueueOp s p).getD s)
    | none => .next s

end Sys2Proof.Machine
end

