-- ==== Sys2Proof/Machine/Items.lean ====
section
/-! DEFINITION. The items of a tick: their start on a tile, the budget monitor and shedding, restarts, spares, the guard, load balancing, the item timeout and the start of patrol replays (02 R46, R57, R58, R62 to R68, R75; 08 R264, R268; 10 R340, R341; 15 R472 to R476, R480, R485 to R487; 17 R537, R538). -/

namespace Sys2Proof.Machine

open Sys2Proof

/-! Input descriptors. -/

/-- The members of a target: those of a lock group, or the context itself (16 R526). -/
def targetMembers (s : State) (target : Nat) : List Nat := if target < 0x8000 then [target] else groupMembers s (target - 0x8000)

/-- A frame record: with no picture only CONTEXT and ABSENT are set; a picture keeps the addresses and pitches that it was written with (10 R323, R341). -/
def frameRecord (c : Nat) (pic : Option Picture) : List Byte :=
  match pic with
  | none => leBytes 2 c ++ [1] ++ List.replicate 109 0
  | some p =>
    let yp := p.yPitch
    let cp := p.cPitch
    let w := sampleLen p.tenBit
    let base := p.base
    let inChroma := p.cropY / 2 * cp + p.cropX / 2 * w
    let cb := base + yp * p.codedHeight
    leBytes 2 c ++ leBytes 1 ((if p.resync then 2 else 0) + (if p.tenBit then 4 else 0) + (if p.mono then 8 else 0)) ++ [0] ++ leBytes 4 p.seq
      ++ leBytes 8 (base + p.cropY * yp + p.cropX * w)
      ++ leBytes 8 (if p.mono then 0 else cb + inChroma)
      ++ leBytes 8 (if p.mono then 0 else cb + cp * (p.codedHeight / 2) + inChroma)
      ++ leBytes 4 yp ++ leBytes 4 cp ++ leBytes 2 p.width ++ leBytes 2 p.height ++ leBytes 4 0
      ++ leBytes 8 p.capture ++ leBytes 8 p.rtpExt ++ slice p.chain 0 48

/-- The picture of a context that an item's frame list names: its number plus 1, or 0 for none. -/
def pictureOf (s : State) (c n : Nat) : Option Picture := if n = 0 then none else (ctxOf s c).pics.find? fun p => p.num = n - 1

/-- The input descriptor of an item (10 R340, R341). -/
def descriptor (s : State) (i : Item) (attempt : Nat) : List Byte :=
  let m := targetMembers s i.target
  leBytes 2 i.ctx ++ leBytes 2 i.job ++ leBytes 2 (if i.target < 0x8000 then 0xFFFF else i.target - 0x8000) ++ leBytes 1 m.length
    ++ leBytes 1 ((if s.ctrl.holdover then 1 else 0) + (if s.ctrl.rephase then 2 else 0))
    ++ leBytes 8 i.tick ++ leBytes 8 s.ctrl.time ++ leBytes 8 i.seed.toNat ++ leBytes 1 attempt ++ List.replicate 31 0
    ++ (m.zip i.frames).flatMap fun x => frameRecord x.1 (pictureOf s x.1 x.2)

/-! The start of an attempt. -/

/-- A block cut into the 64-byte writes that one core-memory port makes, lowest address first (03 R88, 08 R264). -/
def portWrites : Nat → Nat → List Byte → List (Nat × List Byte)
  | 0, _, _ => []
  | k + 1, a, b => if b.isEmpty then [] else (a, b.take 64) :: portWrites k (a + 64) (b.drop 64)

/-- The array at the start of an item: no descriptor of an earlier item counts, and its status, digests and range monitors are 0; what its memories hold stays (05 R182, R191; 06 R212). -/
def arrItemStart (a : ArrayUnit) : ArrayUnit :=
  { weights := a.weights, scales := a.scales, grid := a.grid, acc := a.acc, weightBad := a.weightBad, tableBad := a.tableBad }

/-- The DMA engine at the start of an item: every channel IDLE, every register 0 and the crossing set empty (09 R296). -/
def dmaItemStart (d : Dma) : Dma := { portAt := d.portAt, portUsed := d.portUsed }

/-- What an item start sets in its tile: the descriptor goes, 64 bytes a cycle through port 1, to the half that the last item did not use; then the registers of the core, the vector engine, the array and the DMA engine, and the attempt (03 R88; 04 R132; 05 R191; 06 R212; 08 R264; 09 R296). Code may issue from the cycle fetchAt on, once the descriptor is written. A vector result of an earlier item still in flight stays in flight and lands in the zeroed registers (DESIGN CHOICE, notes/assumptions/44.md). -/
def itemStart (t : Tile) (i : Item) (run : JobRun) (desc : List Byte) (pc fetchAt : Nat) : Tile :=
  let half := 1 - t.descHalf
  let a := descArea + 0x800 * half
  { t with
    descWrites := portWrites desc.length a desc
    arr := arrItemStart t.arr
    dma := dmaItemStart t.dma
    descHalf := half
    job := { g := (Vector.replicate 64 (0 : Word)).set 1 (BitVec.ofNat 64 a), pc := BitVec.ofNat 32 pc, fetchAt := fetchAt }
    rot := 0
    intCtrl := 0
    intEnable := 0
    intPending := 0
    intWait := 0
    bellFrom := 0
    seed := i.seed
    jobId := BitVec.ofNat 16 i.job
    ctxId := BitVec.ofNat 16 i.ctx
    vl := 0
    vew := 0
    vresume := 0
    vfaultIdx := 0
    vfaultAddr := 0
    v := Vector.replicate 32 0
    vBad := []
    shadow := none
    entry := none
    reissueAt := none
    vReissueAt := none
    rerun := false
    nintEnd := 0
    run := some run }

/-- ENTRY_PC of an item (16 R526). -/
def entryPc (s : State) (i : Item) : Nat :=
  match s.ctrl.plan with
  | some p => (match p.entries[i.entry]? with | some e => e.pc | none => 0)
  | none => 0

/-- TIMING_VARIED where the tick runs with refresh doubled under hbm.refresh_mode 0 (14 R450). -/
def startMarks (s : State) : BitVec 16 := if s.hbm.doubled && cfgNat s oHbmRefreshMode = 0 then flagTimingVaried else 0

/-- An attempt of an item, or its replay, begins on a tile. The marks RAW_READ and TICK_READ of an earlier attempt go (14 R444; notes/assumptions/38.md). -/
def startAttempt (s : State) (k : Nat) (p : PTile) (attempt : Nat) (replay : Bool) (copy : Nat) : State :=
  let i := itemOf s k
  let run : JobRun := { item := k, attempt := attempt, start := s.cycle, markAt := s.cycle, replay := replay }
  let s := modTile s p fun t => itemStart t i run (descriptor s i attempt) (entryPc s i) (s.cycle + copy + ceilDiv (descriptor s i attempt).length 64)
  if replay then s
  else modItem s k fun i => { i with
    state := .running p
    attempt := attempt
    firstTile := if attempt = 0 then p.val else i.firstTile
    lastTile := p.val
    marks := (i.marks &&& ~~~(flagRawRead ||| flagTickRead)) ||| startMarks s }

/-! Who runs what. -/

/-- The items of the present tick, in planned order: logical tile ascending, then entry order (02 R58; 16 R526). -/
def tickItems (s : State) : List (Nat × Item) := s.ctrl.items.filter fun i => i.2.tick = s.ctrl.tick

/-- With load balancing on, items of classes 1 and 2 belong to no tile (02 R66). -/
def shared (s : State) (i : Item) : Bool := cfgOn s oPlanLoadBalance && i.cls ≠ 3

/-- An item that has not started and runs tile code (02 R62, R75). -/
def unstarted (i : Item) : Bool := i.state = .waiting && i.worst ≠ 0

/-- The unstarted items bound to a logical tile. -/
def boundItems (s : State) (lid : Nat) : List (Nat × Item) := (tickItems s).filter fun i => unstarted i.2 && !shared s i.2 && i.2.tile = lid

/-- The tiles that hold a logical id, by ascending id (01 R23). -/
def servingTiles (s : State) : List PTile := (List.range (gradeTiles s)).filterMap (holderOf s)

/-- The tile on which an item's attempt 1 runs: that of attempt 0 while it holds an id (15 R472). -/
def sameTile (s : State) (i : Item) : Option PTile :=
  if i.state = .restart && i.attempt = 0 then
    match i.faultTile with
    | some p => if ((tile s p).role = 0 || (tile s p).role = 4) && (tile s p).logical ≠ 255 then some p else none
    | none => none
  else none

/-- A restart waits for the tile (02 R64). -/
def restartWaits (s : State) (p : PTile) : Bool := (tickItems s).any fun i => sameTile s i.2 = some p

/-- An item may start on the tile: it is in Run, nothing runs on it, no scrub holds it and no restart waits for it (02 R58, R64; 08 R268; 17 R538). -/
def tileFree (s : State) (p : PTile) : Bool :=
  let t := tile s p
  t.power = 0 && t.run.isNone && t.scrubUntil.isNone && !restartWaits s p

/-! The budget monitor. -/

/-- Steps that n steps of live tile cycles take at the throttle level in force (17 R543). -/
def throttled (s : State) (n : Nat) : Nat := ceilDiv (n * 16) (16 - s.power.level)

/-- The worst case of an attempt on a tile: the spare worst case on an acting spare (15 R474). -/
def worstOn (t : Tile) (i : Item) : Nat := if t.role = 2 then i.spareWorst else i.worst

/-- Live tile cycles of an attempt from its start to cycle c (15 R476, 17 R543). -/
def liveCycles (r : JobRun) (c : Nat) : Nat := c - r.start - r.idle

/-- Remaining worst-case steps of a running item: a class-1 item in live cycles, to which handlers and step re-runs do not count; a window in steps (02 R62, R73; 17 R543). -/
def remainingSteps (s : State) (t : Tile) (r : JobRun) : Nat :=
  let i := itemOf s r.item
  if i.cls = 1 then throttled s (ceilDiv (worstOn t i * 8192 - (liveCycles r s.cycle - r.c0cycles - r.rerunCycles)) 8192)
  else worstOn t i - (s.cycle - r.start) / 8192

/-- Steps that a scrub still holds a tile (08 R268). -/
def scrubSteps (s : State) (t : Tile) : Nat :=
  match t.scrubUntil with
  | none => 0
  | some 0 => 2
  | some e => ceilDiv (e - s.cycle) 8192

/-- Need of an item that has not started (02 R62, 17 R543). -/
def unstartedNeed (s : State) (i : Item) : Nat := if i.cls = 1 then throttled s i.worst else i.worst

/-- The sum of a list of figures. -/
def sumBy {α : Type} (f : α → Nat) (l : List α) : Nat := l.foldl (fun n x => n + f x) 0

/-- Need of a tile without its unstarted items: scrub, running item, and restarts at their full worst case (02 R62, R64; 08 R268). -/
def busyNeed (s : State) (p : PTile) : Nat :=
  let t := tile s p
  scrubSteps s t
    + (match t.run with | some r => if r.replay then 0 else remainingSteps s t r | none => 0)
    + sumBy (fun i => if sameTile s i.2 = some p then unstartedNeed s i.2 else 0) (tickItems s)

/-- Room in steps (02 R62). -/
def roomNow (s : State) : Nat := stepsNow s - s.ctrl.step

/-- Place of a context in the rotation of the tick (02 R63). -/
def rotationOf (s : State) (i : Item) : Nat := (i.ctx + 1024 - s.ctrl.tick % 1024) % 1024

/-- An item stands nearer the tails of the load-balancing queues: in a lower queue, or later in planned order (02 R66, R68; 07 R246). -/
def nearerTail (a b : Item) : Bool := if a.prio ≠ b.prio then a.prio < b.prio else b.entry < a.entry

/-- One item is shed before another: class 3, then class 2, each the last planned first, then class 1 in rotation, within a context the highest job id first (02 R62, R63). With load balancing on, slices and the items of one context go from the tails of the queues, so that readers go before their producers (02 R68, 07 R246; DEDUCED, notes/assumptions/52.md). -/
def shedBefore (s : State) (a b : Nat × Item) : Bool :=
  if a.2.cls ≠ b.2.cls then b.2.cls < a.2.cls
  else if a.2.cls = 1 then
    if rotationOf s a.2 ≠ rotationOf s b.2 then rotationOf s a.2 < rotationOf s b.2
    else if cfgOn s oPlanLoadBalance then nearerTail a.2 b.2
    else if a.2.job ≠ b.2.job then b.2.job < a.2.job
    else b.2.entry < a.2.entry
  else if a.2.cls = 2 && cfgOn s oPlanLoadBalance then nearerTail a.2 b.2
  else if a.2.cls = 3 && a.2.start ≠ b.2.start then b.2.start < a.2.start
  else b.2.entry < a.2.entry

/-- The item of a list that is shed first. -/
def shedNext (s : State) : List (Nat × Item) → Option (Nat × Item)
  | [] => none
  | x :: r => some (r.foldl (fun a b => if shedBefore s b a then b else a) x)

/-- An item leaves the load-balancing queues: its cell returns to the pool (02 R68, 09 R307). -/
def dropShared (s : State) (k : Nat) (i : Item) : State :=
  let q := 1024 + i.prio
  match (queueOf s q).items.find? fun x => x.item = some k with
  | some x => freeCells (unlinkItem s q x) x.cells
  | none =>
    let gone := s.queues.sys.filter fun o => o.queue = q && o.item = some k
    let s := freeCells s (gone.flatMap (·.cells))
    { s with queues := { s.queues with sys := s.queues.sys.filter fun o => !(o.queue = q && o.item = some k) } }

/-- An unstarted item ends NOT_RUN(shed) and is counted (02 R63, R68). -/
def shedItem (s : State) (k : Nat) : State :=
  let i := itemOf s k
  let s := if shared s i then dropShared s k i else s
  endItemWith (roAdd s oPlanShed 1) k cNotRun 0

/-- The monitor sheds an item; the first of a tick counts the tick (02 R63). -/
def monitorShed (s : State) (k : Nat) : State :=
  let s := shedItem s k
  if s.ctrl.shedTick then s else { roAdd s oPlanOverrunTicks 1 with ctrl := { (roAdd s oPlanOverrunTicks 1).ctrl with shedTick := true } }

/-- The monitor on one tile: items are shed until need is at most room (02 R62). -/
def shedTile : Nat → State → PTile → State
  | 0, s, _ => s
  | n + 1, s, p =>
    let l := boundItems s (tile s p).logical
    if busyNeed s p + sumBy (fun i => unstartedNeed s i.2) l ≤ roomNow s then s
    else match shedNext s l with
      | none => s
      | some x => shedTile n (monitorShed s x.1) p

/-- The monitor over the queues and all tiles together (02 R68). -/
def shedAll : Nat → State → State
  | 0, s => s
  | n + 1, s =>
    let tiles := servingTiles s
    let l := (tickItems s).filter fun i => unstarted i.2
    if sumBy (busyNeed s) tiles + sumBy (fun i => unstartedNeed s i.2) l ≤ roomNow s * tiles.length then s
    else match shedNext s l with
      | none => s
      | some x => shedAll n (monitorShed s x.1)

/-- The budget monitor of a step boundary (02 R62, R68). -/
def budgetMonitor (s : State) : State :=
  let n := (tickItems s).length
  if cfgOn s oPlanLoadBalance then shedAll n s
  else (servingTiles s).foldl (shedTile n) s

/-! Spares. -/

/-- Tile cycles in which the code image of an acting id is copied, 64 bytes a cycle (16 R528). -/
def copyCycles (s : State) (lid : Nat) : Nat := ceilDiv (codeImage s lid).length 64

/-- A spare takes an acting id with its code image, and an attempt begins on it (15 R480, 16 R528). -/
def actOn (s : State) (p : PTile) (k attempt : Nat) (replay : Bool) : State :=
  let i := itemOf s k
  let s := modTile s p fun t => { t with role := 2, logical := i.tile, c0 := zeroBank, c0wait := [], trigs := [] }
  startAttempt (writeCode s p) k p attempt replay (copyCycles s i.tile)

/-- A spare that a restart may take: a free one, or one that runs a patrol replay (15 R480). -/
def restartMayTake (s : State) (used : List PTile) (p : PTile) : Bool :=
  !used.contains p && (tile s p).scrubUntil.isNone && (spareFree s p || ((tile s p).role = 2 && replaying s p && !s.ctrl.withdraw.contains p))

/-- The spare that a restart takes: that of the region of the tile that failed, else that of the lowest region that has one (15 R480). -/
def restartSpare (s : State) (used : List PTile) (i : Item) : Option PTile :=
  let r := match i.faultTile with | some p => p.val / 9 | none => 0
  (regionTiles r ++ List.finRange 72).find? (restartMayTake s used)

/-- A patrol replay stopped and abandoned (15 R480, R485). -/
def dropReplay (s : State) (p : PTile) : State := abandonReplay (stopAttempt s p false) p

/-- An item ends FAILED(RESTART_NO_TIME) (15 R474). -/
def noTime (s : State) (k : Nat) : State := endItemWith s k cFailed cRestartNoTime

/-- A restart on a spare: it begins once the spare is in Run, and not when it would end after the last step (02 R64; 15 R472, R474, R495; 17 R538). The list holds the spares that this boundary has given away. -/
def restartOnSpare (s : State) (used : List PTile) (k : Nat) : State × List PTile :=
  let i := itemOf s k
  if i.spareWorst = 0 || stepsNow s < s.ctrl.step + i.spareWorst then (noTime s k, used)
  else match restartSpare s used i with
    | none => (s, used)
    | some p =>
      let s := if replaying s p then dropReplay s p else s
      if (tile s p).power ≠ 0 then (requestRun s p.val, p :: used)
      else (actOn (roAdd s oFaultRestarts 1) p k (i.attempt + 1) false, p :: used)

/-- A restart that waits at a step boundary (02 R64; 15 R472, R474). -/
def restartItem (a : State × List PTile) (x : Nat × Item) : State × List PTile :=
  let s := a.1
  let i := itemOf s x.1
  if i.state ≠ .restart then a
  else match sameTile s i with
    | none => restartOnSpare s a.2 x.1
    | some p =>
      let t := tile s p
      if roomNow s < scrubSteps s t + unstartedNeed s i then (noTime s x.1, a.2)
      else if t.power = 0 && t.run.isNone && t.scrubUntil.isNone then (startAttempt (roAdd s oFaultRestarts 1) x.1 p (i.attempt + 1) false 0, a.2)
      else a

/-! Starts. -/

/-- The first unstarted item of a tile starts when its step has come and the tile is free (02 R58). -/
def startOnTile (s : State) (p : PTile) : State :=
  if !tileFree s p then s
  else match (boundItems s (tile s p).logical).head? with
    | none => s
    | some x => if x.2.start ≤ s.ctrl.step then startAttempt s x.1 p 0 false 0 else s

/-- An empty entry completes at its start step, or at the boundary where that step is not read (02 R75; 14 R458; 16 R526). -/
def emptyItem (s : State) (x : Nat × Item) : State :=
  if x.2.state = .waiting && x.2.worst = 0 && (shared s x.2 || x.2.start ≤ s.ctrl.step) then
    postItemRecord (modItem s x.1 fun i => { i with state := .final cDone cEmpty }) x.1
  else s

/-- The power schedule of a tile at a step (17 R538). -/
def powerPairs (s : State) (lid : Nat) : List (Nat × Nat × Nat) :=
  match s.ctrl.plan with
  | some p => (match p.tiles[lid]? with | some t => tilePowers p t | none => [])
  | none => []

/-- The requests that the power schedules make at the present step (17 R538). -/
def powerRequests (s : State) : State :=
  (servingTiles s).foldl (fun s p =>
    match (powerPairs s (tile s p).logical).find? fun w => w.1 = s.ctrl.step with
    | some w => requestState s p.val w.2.1
    | none => s) s

/-! Patrol replay. -/

/-- The class-1 entries of the plan that a patrol pass works through, in planned order: those with tile code, a write set and a spare worst case (15 R485, R486, R495). -/
def patrolEntries (s : State) : List Nat :=
  match s.ctrl.plan with
  | none => []
  | some p => p.tiles.flatMap fun t => ((List.range t.entryCount).map (t.entryFirst + ·)).filter fun e =>
      match p.entries[e]? with
      | some x => x.cls = 1 && x.worst ≠ 0 && x.spareWorst ≠ 0 && writeSetLen p x ≠ 0
      | none => false

/-- The item of an entry that is eligible in the present tick: its record is sent with DONE or RESTARTED and without RAW_READ (15 R485; notes/assumptions/39.md). -/
def eligible (s : State) (e : Nat) : Option (Nat × Item) :=
  (tickItems s).find? fun i => i.2.entry = e && i.2.recorded && i.2.marks &&& flagRawRead = 0 &&
    (match i.2.state with | .final st _ => st = cDone || st = cRestarted | _ => false)

/-- An entry is being replayed. -/
def inReplay (s : State) (e : Nat) : Bool := (s.ctrl.patrol.replays ++ s.ctrl.patrol.wait3).any fun r => (itemOf s r.item).entry = e

/-- A replay begins on a spare (15 R486). -/
def beginReplay (s : State) (r : Replay) (p : PTile) : State :=
  let s := modPatrol s fun x => { x with replays := x.replays ++ [{ r with tile := p }] }
  actOn s p r.item (itemOf s r.item).attempt true

/-- A spare for a patrol replay: the lowest that is free. -/
def replaySpare (s : State) (used : List PTile) (ok : PTile → Bool) : Option PTile :=
  (List.finRange 72).find? fun p => spareFree s p && !used.contains p && (tile s p).scrubUntil.isNone && ok p

/-- A replay on a spare, or a wake-up of that spare (15 R485; 17 R538). -/
def replayOn (a : State × List PTile) (r : Replay) (ok : PTile → Bool) (go : State → State) : State × List PTile :=
  match replaySpare a.1 a.2 ok with
  | none => a
  | some p => if (tile a.1 p).power ≠ 0 then (requestRun a.1 p.val, p :: a.2) else (beginReplay (go a.1) r p, p :: a.2)

/-- The worst case of a run on a spare ends by the last step (15 R485). -/
def spareFits (s : State) (i : Item) : Bool := s.ctrl.step + i.spareWorst ≤ stepsNow s

/-- A third execution begins on a spare of another region, or the verdict is PATROL_INCONCLUSIVE when it no longer fits (15 R487). -/
def thirdRun (a : State × List PTile) (r : Replay) : State × List PTile :=
  let drop (s : State) : State := modPatrol s fun p => { p with wait3 := p.wait3.filter fun x => x.item ≠ r.item }
  let i := itemOf a.1 r.item
  if !spareFits a.1 i then (patrolInconclusive (drop a.1) i r.firstTile.val, a.2)
  else replayOn a r (fun p => p.val / 9 ≠ r.firstTile.val / 9) drop

/-- The replay of an entry begins when it is eligible and fits (15 R485). -/
def firstRun (a : State × List PTile) (e : Nat) : State × List PTile :=
  if a.1.ctrl.patrol.done.contains e || inReplay a.1 e then a
  else match eligible a.1 e with
    | none => a
    | some x => if spareFits a.1 x.2 then replayOn a { item := x.1 } (fun _ => true) id else a

/-- The pass: its length is reported when every entry is taken, and the next one begins when the period has passed too (15 R485). -/
def patrolPass (s : State) : State :=
  let now := nowNs s
  match s.ctrl.patrol.passAt with
  | none => modPatrol s fun p => { p with passAt := some now }
  | some t =>
    let done := (patrolEntries s).all fun e => s.ctrl.patrol.done.contains e
    let s := if done && !s.ctrl.patrol.ended then modPatrol (roPut s oPatrolLastPass (now - t)) fun p => { p with ended := true } else s
    if done && t + cfgNat s oPatrolPeriod ≤ now then modPatrol s fun p => { p with passAt := some now, done := [], ended := false } else s

/-- Patrol replay at a step boundary (15 R485, R487). -/
def patrolStep (a : State × List PTile) : State × List PTile :=
  let s := patrolPass a.1
  let b := s.ctrl.patrol.wait3.foldl thirdRun (s, a.2)
  (patrolEntries b.1).foldl firstRun b

/-- At the guard of a tick past the period, entries that are not eligible are passed over and counted (15 R485; notes/assumptions/39.md). -/
def patrolPassOver (s : State) : State :=
  match s.ctrl.patrol.passAt with
  | none => s
  | some t =>
    if nowNs s < t + cfgNat s oPatrolPeriod then s
    else
      let l := (patrolEntries s).filter fun e => !s.ctrl.patrol.done.contains e && (eligible s e).isNone
      modPatrol s fun p => { p with done := l.foldl setInsert p.done, passed := p.passed + l.length }

/-! Step boundaries and the guard. -/

/-- Scrubs that are due begin and hold their tile for 16,384 tile cycles (08 R268). -/
def beginScrubs (s : State) : State :=
  { s with tiles := s.tiles.map fun t => if t.scrubUntil = some 0 then { t with scrubUntil := some (s.cycle + 16384) } else t }

/-- Spares that no attempt needs are lowered to Rest (17 R541). -/
def restSpares (a : State × List PTile) : State :=
  (List.finRange 72).foldl (fun s p =>
    let t := tile s p
    if t.role = 1 && t.power < 2 && t.scrubUntil.isNone && !a.2.contains p then requestLower s p.val 2 else s) a.1

/-- What every step boundary does, the first of a tick included: the throttle level and scrubs that are due act, slots that parity struck are refilled, and, while a plan runs, power requests, empty entries, the monitor, restarts, item starts and patrol replays follow (02 R42, R58, R62, R64; 08 R263, R268; 15 R485; 17 R538, R542). -/
def stepActions (s : State) : State :=
  let l := if cfgOn s oPowerCapEnable then s.power.next else 0
  let s := { s with power := { s.power with level := l, next := l } }
  let s := s.meadow.refills.foldl refillSlot s
  let s := beginScrubs { s with meadow := { s.meadow with refills := [] } }
  let s := (List.finRange 72).foldl freeSpare s
  if !s.ctrl.runs then restSpares (s, [])
  else
    let s := powerRequests s
    let s := (tickItems s).foldl emptyItem s
    let s := budgetMonitor s
    let a := (tickItems s).foldl restartItem (s, [])
    let s := (servingTiles a.1).foldl startOnTile a.1
    restSpares (patrolStep (s, a.2))

/-- The cycle of a step boundary of the present tick (02 R42). -/
def stepCycle (s : State) (n : Nat) : Nat := s.ctrl.boundary + 8192 * n

/-- The part serves ticks: boundaries have begun and no power-fail commit runs (16 R508, R531). -/
def ticking (s : State) : Bool := s.power.phase = 8 && s.power.cut.isNone

/-- STEP_BOUNDARY: 8,192 tile cycles after the last one STEP_COUNT advances on every tile, and the actions of the step follow (02 R42). -/
def execStepBoundary (s : State) : Host.Outcome State Fault Refusal :=
  if ticking s && !s.ctrl.guard && s.ctrl.step + 1 < stepsNow s && stepCycle s (s.ctrl.step + 1) ≤ s.cycle then
    .next (stepActions { s with ctrl := { s.ctrl with step := s.ctrl.step + 1 } })
  else .next s

/-- What runs on a tile stops at the guard: an item with no record linked ends FAILED(TICK_OVERRUN), a patrol replay is abandoned (02 R46; 15 R475, R485). -/
def guardTile (s : State) (p : PTile) : State :=
  match (tile s p).run with
  | none => s
  | some r =>
    if r.replay then dropReplay s p
    else
      let s := freeSpare (stopAttempt s p true) p
      if (itemOf s r.item).linked then s else endItemWith s r.item cFailed cTickOverrun

/-- What did not run ends at the guard: no item of classes 1 to 3 starts any more (02 R46, R68; 15 R474, R475). -/
def guardItem (s : State) (x : Nat × Item) : State :=
  match (itemOf s x.1).state with
  | .waiting => shedItem s x.1
  | .restart => noTime s x.1
  | .ended => if (itemOf s x.1).linked then s else endItemWith s x.1 cFailed cTickOverrun
  | _ => s

/-- The start of the guard: STEP_COUNT holds S, and everything of classes 1 to 3 ends (02 R42, R46; 15 R485, R487). -/
def guardActions (s : State) : State :=
  let s := { s with ctrl := { s.ctrl with step := stepsNow s, guard := true, guardAt := s.cycle } }
  let s := (List.finRange 72).foldl guardTile s
  let s := (tickItems s).foldl guardItem s
  let w := s.ctrl.patrol.wait3
  let s := w.foldl (fun s r => patrolInconclusive s (itemOf s r.item) r.firstTile.val) (modPatrol s fun p => { p with wait3 := [] })
  patrolPassOver s

/-- GUARD_START: S steps after the boundary the guard begins (02 R46). -/
def execGuardStart (s : State) : Host.Outcome State Fault Refusal :=
  if ticking s && !s.ctrl.guard && stepsNow s ≤ s.ctrl.step + 1 && stepCycle s (stepsNow s) ≤ s.cycle then .next (guardActions s) else .next s

/-! Load balancing. -/

/-- The tile that takes next: the lowest logical tile id that is free (02 R66, 01 R20). -/
def takesNext (s : State) (p : PTile) : Bool := (servingTiles s).find? (tileFree s) = some p

/-- The head of the highest-priority load-balancing queue that is not empty (02 R66). -/
def sharedHead (s : State) : Option (Nat × QItem) :=
  [7, 6, 5, 4, 3, 2, 1, 0].findSome? fun k => (headItem (queueOf s (1024 + k))).map fun q => (1024 + k, q)

/-- LB_ITEM_TAKE: with load balancing on, a free tile takes the head of the highest queue, and its cell returns to the pool; a poisoned entry ends its item FAILED(QUEUE_POISON) (02 R66, R67; 09 R307, R315; 14 R455). -/
def execLbItemTake (p : PTile) (s : State) : Host.Outcome State Fault Refusal :=
  if !(ticking s && s.ctrl.runs && !s.ctrl.guard && cfgOn s oPlanLoadBalance && takesNext s p) then .next s
  else match sharedHead s with
    | none => .next s
    | some (q, x) =>
      if s.queues.ptrBad.contains q then .next (comparePointers (resetQueue s q)) else
      let s := unlinkItem s q x
      let r := readItem s x.cells
      let s := roAdd (freeCells s x.cells) oQueuePoisoned r.2
      match x.item with
      | none => .next s
      | some k =>
        if r.2 ≠ 0 then .next (endItemWith s k cFailed cQueuePoison)
        else .next (startAttempt (modItem s k fun i => { i with marks := i.marks ||| 8 }) k p 0 false 0)

/-! The item timeout. -/

/-- Class-0 handler cycles on a tile since its attempt began, those of a handler that runs included (15 R476). -/
def handlerCycles (s : State) (t : Tile) (r : JobRun) : Nat := r.c0cycles + (match t.c0run with | some h => s.cycle - h.first | none => 0)

/-- Steps that an attempt may run: its worst case, those of its step re-runs, its handler time in whole steps, and 2 (15 R476). -/
def allowedSteps (s : State) (t : Tile) (r : JobRun) : Nat :=
  worstOn t (itemOf s r.item) + ceilDiv r.rerunCycles 8192 + ceilDiv (handlerCycles s t r) 8192 + 2

/-- ITEM_TIMEOUT: at the last step boundary the attempt of a tile had run more steps than it may, and raises the job fault (15 R476). -/
def execItemTimeout (p : PTile) (s : State) : Host.Outcome State Fault Refusal :=
  let t := tile s p
  match t.run with
  | none => .next s
  | some r =>
    if ticking s && !s.ctrl.guard && allowedSteps s t r * 8192 < liveCycles r (stepCycle s s.ctrl.step) then .next (jobFault s p cItemTimeout 0) else .next s

end Sys2Proof.Machine
end

