-- ==== Sys2Proof/Machine/Apply.lean ====
section
/-! DEFINITION. What a tick boundary applies: input sets, commits that are due and their effects, plan activation, and the loads that follow it (01 R29; 02 R44, R45, R49, R56; 08 R262; 10 R323; 12 R380 to R383; 16 R513, R514, R527, R528, R531; notes/assumptions/36.md, 37.md and 40.md). -/

namespace Sys2Proof.Machine

open Sys2Proof

/-! Input sets. -/

/-- Every picture of a context changed. -/
def mapPics (s : State) (c : Nat) (f : Picture → Picture) : State := modCtx s c fun x => { x with pics := x.pics.map f }

/-- Of the pictures of a context that qualify, the newest joins the input set; those of isOver that were not taken are superseded and counted (01 R29). -/
def takePicture (s : State) (c : Nat) (ok isOver : Picture → Bool) : State :=
  let l := (ctxOf s c).pics
  let n := newestComplete (l.filter ok)
  let chosen (p : Picture) : Bool := ok p && !p.taken && p.num = n
  let lost (p : Picture) : Bool := isOver p && !p.taken && !chosen p
  let k := (l.filter lost).length
  let s := mapPics s c fun p => if chosen p then { p with taken := true, inSet := true } else if lost p then { p with taken := true } else p
  if k = 0 then s else roAdd s (oCtxSuperseded c) k

/-- The picture was complete strictly before the present tile cycle (01 R29). -/
def completed (s : State) (p : Picture) : Bool := match p.complete with | some t => t < s.cycle | none => false

/-- The lock groups in force, with their members (02 R55). -/
def lockGroups (s : State) : List Nat := (groupList s).filter fun g => cfgOn s (oLockgroupEnable g)

/-- The length of a period in ns. -/
def periodNs (s : State) : Nat := periodN s * 1000000000 / max 1 (periodD s)

/-- The time T of the boundary that lock groups count from: t(k) with source 1, else the part's time (02 R48, R56). -/
def groupTime (s : State) : Nat := if cfgNat s oTickSource = 1 then tickTime s s.ctrl.tick else nowNs s

/-- A member of a lock group: the newest frame captured in [T − o − period, T − o) joins; without one the member is absent and counted; earlier frames are superseded (02 R56). -/
def takeMember (g : Nat) (s : State) (c : Nat) : State :=
  let hi : Int := (groupTime s : Int) - (cfgNat s (oLockgroupOffset g) : Int)
  let lo : Int := hi - (periodNs s : Int)
  let ok (p : Picture) : Bool := completed s p && decide (lo ≤ (p.capture : Int)) && decide ((p.capture : Int) < hi)
  let there := (ctxOf s c).pics.any fun p => ok p && !p.taken
  let s := takePicture s c ok fun p => completed s p && decide ((p.capture : Int) < hi)
  if there then s else roAdd s (oLockgroupAbsent g) 1

/-- The input sets close: pictures of the last set are released, each context gives its newest complete frame, and the members of lock groups theirs (01 R29; 02 R44, R56). -/
def closeInputs (s : State) : State :=
  let s := { s with intake := { s.intake with ctx := s.intake.ctx.map fun x => (x.1, { x.2 with pics := x.2.pics.map fun p => { p with inSet := false } }) } }
  let groups := lockGroups s
  let members := groups.flatMap (groupMembers s)
  let s := (s.intake.ctx.map (·.1)).foldl (fun s c => if members.contains c then s else takePicture s c (completed s) (completed s)) s
  groups.foldl (fun s g => (groupMembers s g).foldl (takeMember g) s) s

/-- The frames of a paused tick are superseded (14 R451). -/
def supersedeInputs (s : State) : State :=
  (s.intake.ctx.map (·.1)).foldl (fun s c =>
    let k := ((ctxOf s c).pics.filter (·.inSet)).length
    if k = 0 then s else roAdd (mapPics s c fun p => { p with inSet := false }) (oCtxSuperseded c) k) s

/-! Power of the tiles of a plan. -/

/-- The tiles in service lowered to a state (14 R451; 17 R541). -/
def lowerTiles (s : State) (st : Nat) : State := (servingTiles s).foldl (fun s p => requestLower s p.val st) s

/-- The state that the power schedule of a tile gives before a step: that of the latest pair up to it, else of the last pair of the tick; a tile with no pairs stays in Run, and without a plan it rests (17 R538, R541, R558). -/
def scheduled (s : State) (lid step : Nat) : Nat :=
  let l := powerPairs s lid
  match (l.filter fun w => w.1 ≤ step).getLast?, l.getLast? with
  | some w, _ => w.2.1
  | none, some w => w.2.1
  | none, none => if s.ctrl.plan.isSome then 0 else 2

/-- The tiles in service brought to what the power schedule gives at step 0; with load balancing on to Run (02 R66; 17 R538). -/
def scheduleTiles (s : State) : State :=
  (servingTiles s).foldl (fun s p => requestState s p.val (if cfgOn s oPlanLoadBalance then 0 else scheduled s (tile s p).logical 0)) s

/-! Plans. -/

/-- A boundary from which on no class-0 handler runs: one that runs ends as by c0.end, and triggers that wait or are under way are dropped (14 R451; 15 R490; 16 R528; notes/assumptions/37.md). -/
def endHandlers (s : State) : State :=
  let s := (List.finRange 72).foldl (fun s p => if (tile s p).c0run.isSome then handlerEnd s p 0 else s) s
  { s with tiles := s.tiles.map fun t => { t with trigs := [], c0wait := [] } }

/-- The plan in force ends: its handlers end, nothing of it starts any more, and a checkpoint in progress is abandoned (16 R514, R528). -/
def endPlan (s : State) : State :=
  let s := endHandlers s
  { s with
    meadow := { s.meadow with refills := [] }
    ctrl := { s.ctrl with plan := none, loading := false, runs := false, patrol := {}, checkpoint := none, paused := false, verify := 0, save := none, saving := false, clean := false, restore := none } }

/-- The plan of a held package becomes active at the present boundary; it runs from the first boundary after its load (14 R442, R467; 16 R528). -/
def activate (s : State) (p : Package) (restore : Option Nat) : State :=
  let plan := toPlan (packageBytes s p).1
  let s := (List.finRange 72).foldl (fun s q => modTile s q fun t => { t with c0 := zeroBank }) (endPlan s)
  scheduleTiles { s with ctrl := { s.ctrl with
    plan := some plan
    loading := true
    activatedAt := s.ctrl.time
    replaySpares := (List.finRange 72).filter fun q => (tile s q).role = 1
    clean := p.fresh && restore.isNone
    restore := restore
    nextRun := 0 } }

/-- A commit of plan.package has applied: the named plan becomes active (02 R582; 16 R528). -/
def planCommitted (s : State) : State :=
  match heldPackage s (planPackage s) with
    | some p => activate s p none
    | none => s

/-- A carried region written in one copy with its packaged contents (14 R467; 16 R527, R528). -/
def loadCopy (s : State) (base : Nat) (r : PlanRegion) (at_ : Nat) : State :=
  if r.source = 0 then chipWrite s at_ (List.replicate r.length 0)
  else
    let b := chipRead s (base + r.source) r.length
    chipWrite b.2 at_ b.1

/-- A region as a plan load leaves it: an image region slot by slot; a carried region in both copies at a clean activation or before a restore (08 R262, R263; 16 R528, R531). -/
def loadRegion (carried : Bool) (base : Nat) (s : State) (r : PlanRegion) : State :=
  if r.kind = 1 then
    let first := (r.base - meadowBase) / 128
    (List.range ((r.base + r.length - meadowBase + 127) / 128 - first)).foldl (fun s i => loadSlot s base (first + i) r) s
  else if carried && (r.kind = 2 || r.kind = 3) then loadCopy (loadCopy s base r r.base) base r r.copy1
  else s

/-- The slots of a checkpoint written into the carried copy that its run tick reads (16 R513, R531). -/
def restoreSlots (s : State) (p : Plan) (run : Nat) : State :=
  match p.regions.find? fun r => r.kind = 3 with
  | none => s
  | some r => s.keep.recs.foldl (fun s x =>
    match x.body with
    | .checkpoint c t b => if t = run && !recDead s.keep x then chipWrite s (carriedCopy r run + 4096 * c) b else s
    | _ => s) s

/-- PLAN_ACTIVATION_LOAD: code images, image regions and, at a clean activation, carried regions lie in place, restored slots over them; the plan runs from the next boundary (16 R528, R531). -/
def execPlanActivationLoad (s : State) : Host.Outcome State Fault Refusal :=
  match s.ctrl.plan with
  | none => .next s
  | some p =>
    if !s.ctrl.loading then .next s
    else
      let s := (servingTiles s).foldl writeCode s
      let s := p.regions.foldl (loadRegion (s.ctrl.clean || s.ctrl.restore.isSome) p.base) s
      let s := match s.ctrl.restore with | some run => restoreSlots s p run | none => s
      .next { s with ctrl := { s.ctrl with loading := false, nextRun := s.ctrl.restore.getD 0 } }

/-! Commits. -/

/-- An object's value differs between two configurations. -/
def changedKey (a b : State) (key : Nat) : Bool := cfgBytes a key ≠ cfgBytes b key

/-- Keys of an index among a list. -/
def ofIndex (keys : List Nat) (i : Nat) : Bool := keys.any fun k => k / 256 = i

/-- Contexts whose fields the boundary changed start again; memberships that nothing uses are left (10 R323, R324). a is the state before. -/
def applyContexts (a s : State) (changed : List Nat) : State :=
  let ctxs := (changed.filter fun k => within 0x5400 0x57FF (k / 256)).foldl (fun l k => setInsert l (k / 256 - 0x5400)) []
  if ctxs.isEmpty then s
  else ([0, 1] : List (Fin 2)).foldl (fun s e => leaveGroups s e (memberships a e.val)) (ctxs.foldl startContext s)

/-- What a port does after its objects changed: a new mode is journaled for the boot ROM and takes the link down, preemption is DISABLED or verified, MKA starts anew, and the gate list waits for its cycle start (11 R344, R350, R352, R362; 16 R501; notes/assumptions/36.md). -/
def applyPort (changed touched : List Nat) (s : State) (e : Fin 2) : State :=
  let s := if changed.contains (oPortPreemptEnable e.val) then modPort s e fun p => { p with preempt := if p.link && cfgOn s (oPortPreemptEnable e.val) then 1 else 0, verifies := 0 } else s
  let s := if changed.contains (oPortMode e.val) then linkDown (journal s (.bootPort e.val (cfgNat s (oPortMode e.val)))) e else s
  let s := if ofIndex changed (0x4008 + e.val) then modPort s e fun p => { p with mka := if cfgOn s (oMacsecEnable e.val) then 1 else 0, peers := [], sak := 0 } else s
  if ofIndex touched (0x4010 + e.val) then gclCommit s e else s

/-- CAKs written before the commit are in use from it on; a new one starts MKA anew (11 R362). -/
def useCaks (s : State) : State :=
  let l := s.keep.cakNext
  let s := { s with keep := { s.keep with cak := l.foldl (fun m x => smPut m x.1 x.2) s.keep.cak, cakNext := [] } }
  ([0, 1] : List (Fin 2)).foldl (fun s e =>
    if (smFind l e.val).isSome && cfgOn s (oMacsecEnable e.val) then modPort s e fun p => { p with mka := 1, peers := [], sak := 0 } else s) s

/-- A new period without an epoch pair makes the boundary at which it applies the epoch, with its own tick number; the pair is journaled (02 R49). a is the state before. -/
def applyPeriod (a s : State) (changed touched : List Nat) : State :=
  if !changed.contains oTickPeriod || touched.contains oTickEpoch || touched.contains oTickEpochNumber then s
  else
    let e := if cfgNat a oTickSource = 1 then tickTime a s.ctrl.tick else s.ctrl.time
    journalEpoch (cfgPutNat (cfgPutNat s oTickEpoch e) oTickEpochNumber s.ctrl.tick)
where
  /-- The epoch pair journaled as a configuration record. -/
  journalEpoch (s : State) : State :=
    let bytes (k : Nat) : List (Nat × Byte) := (List.range 8).map fun i => (k * 65536 + i, (cfgBytes s k).getD i 0)
    let s := journal s (.config s.alaust.groups s.ctrl.tick (bytes oTickEpoch ++ bytes oTickEpochNumber))
    { s with alaust := { s.alaust with groups := s.alaust.groups + 1 } }

/-- A new tick source is acquired, or free-run begins; with sources that count boundaries a committed epoch pair gives the next boundary its number (02 R49 to R52; notes/assumptions/36.md). -/
def applySource (s : State) (changed touched : List Nat) : State :=
  let s := if changed.contains oTickSource then
      setLock { s with ctrl := { s.ctrl with edgeAt := none, nextTick := none, edgesMissed := 0, edgePeriod := 0, edgeErrs := [] } } (if cfgNat s oTickSource = 0 then 0 else 1)
    else if changed.contains oTickPeriod then { s with ctrl := { s.ctrl with edgePeriod := 0 } }
    else s
  if (touched.contains oTickEpoch || touched.contains oTickEpochNumber) && (cfgNat s oTickSource = 0 || cfgNat s oTickSource = 2) then
    { s with ctrl := { s.ctrl with nextTick := some (max (s.ctrl.tick + 1) (tickAt s (s.ctrl.time + periodNs s))) } }
  else s

/-- Filters that a commit rewrote have full meters and pass again (11 R355). -/
def renewFilters (s : State) (bytes : SMap Byte) : State :=
  let l := (bytes.filter fun b => b.1 / 65536 = oQciFilters).map fun b => b.1 % 65536 / 32
  if l.isEmpty then s
  else { s with eth := { s.eth with qci := { s.eth.qci with tokens := s.eth.qci.tokens.filter fun x => !l.contains x.1, blocked := s.eth.qci.blocked.filter fun i => !l.contains i } } }

/-- Queues whose settings changed are judged by them (09 R293, R307). -/
def applyStreams (s : State) (changed : List Nat) : State :=
  let qs := changed.filterMap fun k =>
    if within 0x5400 0x57FF (k / 256) && within 0x17 0x1B (k % 256) then some (k / 256 - 0x5400)
    else if within 0x6340 0x637F (k / 256) then some (1024 + (k / 256 - 0x6340))
    else none
  { s with queues := { s.queues with touched := s.queues.touched ++ (qs.foldl setInsert []).map fun q => (q, queueFill s q) } }

/-- The effects of the objects that the boundary's commits wrote (02 R44, R49; 09 R307; 10 R323; 11 R350, R362; 12 R392; 13 R419; 16 R521, R528; 17 R535, R542). a is the state before them. -/
def applyEffects (a s : State) (touched : List Nat) : State :=
  let changed := touched.filter (changedKey a s)
  let s := applySource (applyPeriod a s changed touched) changed touched
  let s := applyStreams (applyContexts a s changed) changed
  let s := ([0, 1] : List (Fin 2)).foldl (applyPort changed touched) (useCaks s)
  let s := if touched.any fun k => within 0x7010 0x7013 (k / 256) then
      linksAtBoundary ((List.range 4).foldl (fun s n => requestState s (86 + n) (if cfgOn s (oLinkEnable n) then 0 else 4)) s)
    else s
  let s := if changed.contains oAlaustUdpPort || changed.contains oAlaustPorts then s.alaust.sessions.foldl (fun s x => endSession s x.num) s else s
  let s := if !cfgOn s oPowerCapEnable then { s with power := { s.power with level := 0, next := 0 } } else s
  let s := if changed.contains oLcOwnerKeys && s.keep.otp.lc = 0 then { s with alaust := { s.alaust with lcTo := some 1 } } else s
  if touched.contains oPlanPackage then planCommitted s else s

/-- Every commit that is due at the boundary applies, in order, and then its effects (02 R44; 12 R380, R382, R384). -/
def applyCommits (s : State) : State :=
  let due := sortBy groupLe (s.alaust.accepted.filter fun g => g.tick ≤ s.ctrl.tick)
  if due.isEmpty then s
  else
    let touched := due.foldl (fun l g => (touchedKeys g.bytes).foldl setInsert l) []
    let b := due.foldl (fun s g => renewFilters (applyBytes s g.bytes) g.bytes) s
    applyEffects s { b with alaust := { b.alaust with accepted := b.alaust.accepted.filter fun g => s.ctrl.tick < g.tick, lastApplied := s.ctrl.tick } } touched

/-! The first boundary of a start. -/

/-- The checkpoint that an autonomous start restores: the newest that counts with the layout of the package (16 R514, R531). -/
def restorable (s : State) (p : Plan) : Option Nat :=
  if p.cpLayout = 0 then none else (((checkpoints s.keep).take 2).find? fun c => c.2.2.1 = p.cpLayout).map (·.2.1)

/-- The plan of the package that the start loaded is admitted and becomes active (02 R60; 16 R531 steps 4 and 5). -/
def startPackage (s : State) : State :=
  match s.ctrl.startPlan with
  | none => s
  | some d =>
    let s := { s with ctrl := { s.ctrl with startPlan := none } }
    match heldPackage s d with
    | none => s
    | some p =>
      let b := (packageBytes s p).1
      let code := admission s b
      if code ≠ cDone then roPut s oPlanAdmission code
      else
        let plan := toPlan b
        let r := restorable s plan
        let s := if plan.cpLayout ≠ 0 && r.isNone && !(checkpoints s.keep).isEmpty then notify s cCheckpointInvalid 0 0 else s
        roPut (activate s p r) oPlanWorstTileSteps (worstTile plan)

/-- What the first boundary does beside the commits that are due: contexts are enabled, gate lists and links begin, and an autonomous start activates its plan (10 R323; 11 R350; 13 R419; 16 R531; 17 R555). -/
def firstBoundary (s : State) : State :=
  let s := (s.cfg.filterMap fun x => if within 0x5400 0x57FF (x.1 / 256) && x.1 = oCtxEnable (x.1 / 256 - 0x5400) then some (x.1 / 256 - 0x5400) else none).foldl startContext s
  let s := linksAtBoundary (([0, 1] : List (Fin 2)).foldl gclCommit s)
  let s := roPut s oResetReadyTime (2 * (s.cycle - s.power.riseAt))
  if s.ctrl.plan.isSome then s else startPackage s

/-- Granules that an uncorrectable read lost, in a package of the model store: their 64 KiB are loaded again (08 R275). -/
def reloadLost (s : State) : State :=
  let lost := s.hbm.lost
  lost.foldl (fun s g =>
    match s.ctrl.packages.find? fun p => p.base ≤ g * 64 && g * 64 < p.base + p.length with
    | none => s
    | some p => match storeFind s p.digest with
      | none => s
      | some x =>
        let o := (g * 64 - p.base) / 65536 * 65536
        hbmSet s (p.base + o) (slice x.bytes o (min 65536 (p.length - o)))) { s with hbm := { s.hbm with lost := [] } }

end Sys2Proof.Machine
end

