-- ==== Sys2Proof/Machine/Boundary.lean ====
section
/-! DEFINITION. The tick boundary: numbers, lock and phase, pause and resume, the items of a running tick, records of an interrupted tick, and the commands that place boundaries (02 R44 to R54, R66, R75; 13 R435; 14 R442, R450 to R453, R459, R462; 15 R481, R490, R491; 16 R506, R512, R513, R521, R522, R531; notes/assumptions/36.md, 37.md, 38.md and 41.md). -/

namespace Sys2Proof.Machine

open Sys2Proof

/-! When a boundary falls, and its number. -/

/-- The tick number at the present time: the largest k with t(k) not after it (02 R48). -/
def reachedTick (s : State) : Nat := tickAt s (nowNs s)

/-- How much of a phase error the next guard removes: at most tick.slew_limit tile cycles, of 2 ns each (02 R54). -/
def slewed (s : State) (err : Int) : Int :=
  let m : Int := 2 * (cfgNat s oTickSlewLimit : Int)
  max (-m) (min m err)

/-- The time at which the next boundary falls under source 1. Each boundary of a locked tick stands at its t(k), a phase error being slewed out; in HOLDOVER the phase stays as it is; and a re-phase tick ends at the first t(k) that does not shorten it (02 R48, R53, R54; 17 R550). -/
def nextTime (s : State) : Int :=
  let t (k : Nat) : Int := tickTime s k
  if s.ctrl.rephase then t (tickAt s (s.ctrl.time + periodNs s - 1) + 1)
  else
    let err := phaseError s
    t (s.ctrl.tick + 1) + (if s.ctrl.lock = 3 then err else err - slewed s err)

/-- The tile cycle at which the next boundary falls under sources 2 and 3 without an edge: a period of the source after the last one, with the same corrections (02 R50, R53, R54; 13 R435). -/
def nextCycle (s : State) : Int :=
  let p : Int := edgePeriod s
  let b : Int := s.ctrl.boundary
  let err := phaseError s
  if s.ctrl.lock = 3 then b + p
  else if s.ctrl.rephase then (if 0 < err then b + 2 * p - err / 2 else b + p - err / 2)
  else b + p - slewed s err / 2

/-- A later boundary may fall: the tick is in its guard (02 R46, R54). -/
def boundaryOpen (s : State) : Bool := s.power.cut.isNone && s.power.phase ≠ 7 && ticking s && s.ctrl.guard

/-- The source of a locked part has a boundary now, within the 1 µs of LOCKED: where the first boundary falls (01 R38; 02 R48, R52). -/
def sourceNow (s : State) : Bool :=
  match cfgNat s oTickSource, s.ctrl.edgeAt with
  | 1, _ => (nowNs s : Int) - (tickTime s (reachedTick s) : Int) ≤ 1000
  | _, some e => edgeError s e ≤ 1000
  | _, none => true

/-- A boundary may fall now. The first one: free-run is selected, the wait for lock is over, or the source is locked and has a boundary now. A later one: in the guard, once its place is reached; the command is the instant (01 R38; 02 R44, R47, R48, R52 to R54; 16 R531; notes/assumptions/2.md and 36.md). -/
def boundaryDue (s : State) : Bool :=
  if s.power.phase = 7 then s.power.cut.isNone && (cfgNat s oTickSource = 0 || s.ctrl.lock = 3 || (s.ctrl.lock = 2 && sourceNow s))
  else boundaryOpen s &&
    (match cfgNat s oTickSource with
     | 0 => decide (s.ctrl.boundary + pNom (periodN s) (periodD s) ≤ s.cycle)
     | 1 => decide (nextTime s ≤ (nowNs s : Int))
     | _ => decide (nextCycle s ≤ (s.cycle : Int)))

/-- At the first boundary of a start, a source whose number is not above the last one: tick.epoch_number is raised so that the boundary takes the next number, the pair is journaled, and EVENT_GAP is raised (16 R506). -/
def raiseEpoch (s : State) : State :=
  let k := reachedTick s
  if s.power.phase ≠ 7 || cfgNat s oTickSource ≠ 1 || s.ctrl.tick < k then s
  else
    let s := cfgPutNat s oTickEpochNumber (cfgNat s oTickEpochNumber + (s.ctrl.tick + 1 - k))
    notify (applyPeriod.journalEpoch s) cEventGap 0 3 (leBytes 8 k ++ leBytes 8 (s.ctrl.tick + 1))

/-- The number of the boundary: never the last one or below; by R48 with source 1, from a TICK frame or a committed epoch pair where there is one, else the next (02 R48 to R50; 13 R436). -/
def boundaryNumber (s : State) : Nat :=
  max (s.ctrl.tick + 1) (if cfgNat s oTickSource = 1 then reachedTick s else s.ctrl.nextTick.getD 0)

/-- The record sets that are still open close at the boundary (14 R462, R464). -/
def closeSets (s : State) : State :=
  let n := (s.ctrl.sets.filter fun x => !x.closed).length
  let s := { s with ctrl := { s.ctrl with sets := s.ctrl.sets.map fun x => if x.closed then x else { x with closed := true, atBoundary := true } } }
  if n = 0 then s else roAdd s oDetClosedAtBoundary n

/-- The report of a re-phase tick at its end: the phase error it removed and its guard (02 R54; 14 R459). guard is the length of the guard that ends, err the error. -/
def reportRephase (s : State) (was : Bool) (err : Int) (guard : Nat) : State := if was then tickEvent s 3 err guard else s

/-- Step 1 of a boundary: the tick number advances, numbers passed over are reported, and the clocks of the tick start anew (02 R42, R44, R48, R49; 16 R506). -/
def advanceTick (s : State) : State :=
  let s := closeSets (raiseEpoch s)
  let old := s.ctrl.tick
  let k := boundaryNumber s
  let err := phaseError s
  let was := s.ctrl.rephase
  let guard := s.cycle - s.ctrl.guardAt
  let s := { s with ctrl := { s.ctrl with
    tick := k
    boundary := s.cycle
    time := nowNs s
    step := 0
    guard := false
    guardLast := if s.power.phase = 8 then guard else s.ctrl.guardLast
    nextTick := none
    rephase := false
    holdover := s.ctrl.lock = 3
    shedTick := false } }
  let s := reserve s 3 k
  let s := if old + 1 < k then tickEvent s 2 (old + 1) (k - 1) else s
  reportRephase s was err guard

/-- After the commits of the boundary: the lock state, and whether the tick is a re-phase tick, a phase error above tick.rephase_threshold (02 R52, R54). -/
def judgePhase (s : State) : State :=
  let s := lockGptp s
  { s with ctrl := { s.ctrl with
      holdover := s.ctrl.lock = 3
      rephase := s.ctrl.lock ≠ 3 && cfgNat s oTickSource ≠ 0 && cfgNat s oTickRephaseThreshold < (phaseError s).natAbs } }

/-! Pause. -/

/-- The pause begins: PAUSED is sent, class-0 handlers end, the save digest is computed from here on, a checkpoint in progress is abandoned, and the tiles go to Hold (14 R451, R452, R459; 16 R514). -/
def beginPause (s : State) : State :=
  let s := endHandlers (tickEvent s 5 s.ctrl.tick 0)
  lowerTiles { s with ctrl := { s.ctrl with paused := true, pausedTicks := 0, save := none, saving := true, verify := 0, checkpoint := none } } 1

/-- The pause ends: RESUMED is sent, and the tiles follow the power schedule (14 R453, R459; 17 R538). -/
def endPause (s : State) : State :=
  let s := tickEvent s 6 s.ctrl.tick s.ctrl.pausedTicks
  scheduleTiles { s with ctrl := { s.ctrl with paused := false, verify := 0, saving := false } }

/-- The pause goes on for a tick (14 R451). -/
def stayPaused (s : State) : State := supersedeInputs { s with ctrl := { s.ctrl with pausedTicks := s.ctrl.pausedTicks + 1 } }

/-- Step 4 of a boundary: the pause that det.pause asks for begins, lasts, is verified or ends (02 R44; 14 R451 to R453; notes/assumptions/37.md). -/
def pauseStep (s : State) : State :=
  let want := cfgOn s oDetPause
  if !s.ctrl.paused then (if want then stayPaused (beginPause s) else s)
  else if want then stayPaused { s with ctrl := { s.ctrl with verify := if s.ctrl.verify = 3 then 3 else 0 } }
  else if s.ctrl.verify = 2 || (s.ctrl.save.isNone && !s.ctrl.saving) || !(cfgOn s oDetVerifyResume || s.ctrl.verify ≠ 0) then endPause s
  else stayPaused { s with ctrl := { s.ctrl with verify := if s.ctrl.verify = 0 then 1 else s.ctrl.verify } }

/-! The items of a running tick. -/

/-- The number plus 1 of a context's picture in the input set, 0 without one (10 R340). -/
def setPicture (s : State) (c : Nat) : Nat :=
  match (ctxOf s c).pics.find? (·.inSet) with
  | some p => p.num + 1
  | none => 0

/-- The row of an entry in the item table of a tick (00 R14; 14 R443; 16 R526). -/
def itemRow (s : State) (p : Plan) (tick run lid k : Nat) (e : PlanEntry) : Item :=
  let m := targetMembers s e.target
  let ctx := (m.head?).getD 0
  { tick := tick, runTick := run, ctx := ctx, target := e.target, job := e.job, entry := k, cls := e.cls, tile := lid, start := e.start, worst := e.worst
    spareWorst := e.spareWorst, prio := e.prio, safety := e.flags % 2 = 1, seed := seedOf run p.seed ctx e.job, frames := m.map (setPicture s) }

/-- A row added to the item table. -/
def addItem (s : State) (i : Item) : State :=
  { s with ctrl := { s.ctrl with items := smPut s.ctrl.items s.ctrl.nextItem i, nextItem := s.ctrl.nextItem + 1 } }

/-- The entries of a tile, each with its index in the entry table (16 R525). -/
def entriesOf (p : Plan) (t : PlanTile) : List (Nat × PlanEntry) :=
  ((List.range t.entryCount).map (t.entryFirst + ·)).filterMap fun k => (p.entries[k]?).map fun e => (k, e)

/-- The item that an entry gives in the present tick; a window of length 0 gives none, and one bound to a vacant id ends FAILED(TILE_VACANT) at once (02 R75; 15 R481). -/
def createItem (p : Plan) (lid : Nat) (s : State) (x : Nat × PlanEntry) : State :=
  if x.2.cls ≠ 1 && x.2.worst = 0 then s
  else
    let i := itemRow s p s.ctrl.tick s.ctrl.runTick lid x.1 x.2
    let k := s.ctrl.nextItem
    let s := addItem s i
    if s.ctrl.vacant.contains lid && !shared s i then endItemWith s k cFailed cTileVacant else s

/-- One shared item is placed in the queue of its priority: linked at the boundary, in one cell, or kept waiting by the system controller while the pool has no cell or one before it waits (02 R66; 09 R307, R308). The bytes of its cell are not in the spec, and are free values. -/
def placeShared (s : State) (x : Nat × Item) : State :=
  let b := drawBytes 64 s
  let o : ChipOp := { queue := 1024 + x.2.prio, bytes := b.1, item := some x.1 }
  let s := b.2
  match if s.queues.sys.any (fun y => y.item.isSome && 1024 ≤ y.queue && y.queue ≤ 1031) then none else chipCell s o with
  | some r => r.2.2
  | none => { s with queues := { s.queues with sys := s.queues.sys ++ [o] } }

/-- With load balancing on, every item of classes 1 and 2 is placed in its queue at the boundary, in the order of the entry table (02 R66; 16 R526). -/
def queueShared (s : State) : State :=
  (sortBy (fun a b => a.2.entry ≤ b.2.entry) ((tickItems s).filter fun i => shared s i.2 && unstarted i.2)).foldl placeShared s

/-- Test alarms that waited for a tick are triggered (14 R462; 15 R491). -/
def waitingTests (s : State) : State :=
  s.ctrl.testAlarms.foldl (fun s x => match holderOf s x.1 with | some p => sendTrigger s p 64 x.2 | none => s) { s with ctrl := { s.ctrl with testAlarms := [] } }

/-- A checkpoint falls due at the first boundary at or after each multiple of its period from the plan's activation; was is the time of the boundary before (16 R513). -/
def checkpointDue (s : State) (p : Plan) (was : Nat) : Bool :=
  let n := max 1 (checkpointPeriod s)
  let t0 := s.ctrl.activatedAt
  p.cpLayout ≠ 0 && s.ctrl.runTick ≠ 0 && (was - t0) / n < (s.ctrl.time - t0) / n

/-- The record set of a tick in which a plan runs (14 R462, R464). -/
def newSet (s : State) (p : Plan) : TickSet :=
  { tick := s.ctrl.tick, runTick := s.ctrl.runTick, time := tickTime s s.ctrl.tick, package := p.digest, weights := p.weights
    holdover := s.ctrl.holdover, rephase := s.ctrl.rephase, varied := !detRepeatable s, suspect := s.ctrl.latched }

/-- The plan runs in the tick that begins: its run tick, record set and items (02 R44, R57; 14 R442; 16 R513). -/
def runTick (s : State) (p : Plan) (was : Nat) : State :=
  let s := { s with ctrl := { s.ctrl with
    runs := true
    runTick := s.ctrl.nextRun
    nextRun := s.ctrl.nextRun + 1
    packages := s.ctrl.packages.map fun (x : Package) => if x.digest = p.digest then { x with fresh := false } else x } }
  let s := { s with ctrl := { s.ctrl with
    sets := s.ctrl.sets ++ [newSet s p]
    checkpoint := if checkpointDue s p was then some s.ctrl.runTick else s.ctrl.checkpoint } }
  let s := ((List.range p.tiles.length).zip p.tiles).foldl (fun s t => (entriesOf p t.2).foldl (createItem p t.1) s) s
  waitingTests (queueShared s)

/-! Records of the tick that a power cut interrupted. -/

/-- The plan whose entries a power-fail record counts: that of its package where the part holds it, else the plan in force (16 R511, R512; notes/assumptions/41.md). -/
def interruptedPlan (s : State) (digest : List Byte) : Option Plan :=
  match heldPackage s digest with
  | some p => some (toPlan (packageBytes s p).1)
  | none => s.ctrl.plan

/-- The logical tile of an entry. -/
def entryTile (p : Plan) (k : Nat) : Nat := (p.tiles.findIdx? fun t => t.entryFirst ≤ k && k < t.entryFirst + t.entryCount).getD 255

/-- An entry that had no record at the fall of power ends FAILED(POWER_FAIL_COMMIT) in its tick (16 R512). -/
def failEntry (p : Plan) (tick run : Nat) (s : State) (k : Nat) : State :=
  let e := (p.entries[k]?).getD {}
  let key := s.ctrl.nextItem
  endItemWith (addItem s { itemRow s p tick run (entryTile p k) k e with frames := [] }) key cFailed cPowerFailCommit

/-- A held alarm record of the power-fail record (16 R511). -/
def heldAlarm (b : List Byte) (j : Nat) : AlarmTx :=
  let x := slice b (8352 + 112 * j) 112
  { tile := leAt x 2 1, handler := leAt x 3 1, step := leAt x 4 4, tick := leAt b 0 8, event := leAt x 16 8, time := leAt x 24 8, body := slice x 32 64
    job := leAt x 96 2, code := leAt x 98 2, ptile := ⟨leAt x 100 1 % 72, Nat.mod_lt _ (by decide)⟩ }

/-- A held alarm record written: one of a handler that ended without an emit has no payload (14 R458; 16 R511, R512). -/
def postHeld (b : List Byte) (s : State) (j : Nat) : State :=
  let x := heldAlarm b j
  let payload := slice b (8352 + 112 * j) 96
  if allZero payload then postMsg s { kind := 1, ended := some x, tick := x.tick } (sysRecord 0 x.job [])
  else postMsg s { kind := 1, alarm := some x, tick := x.tick } (sysRecord (leAt x.body 4 2) x.job payload)

/-- The records of an interrupted tick are written in the first tick in which a plan runs; the event numbers of lost alarm records are reported (16 R512). -/
def interruptedRecords (s : State) : State :=
  match s.ctrl.interrupted with
  | none => s
  | some b =>
    match interruptedPlan s (slice b 96 48) with
    | none => s
    | some p =>
      let s := { s with ctrl := { s.ctrl with interrupted := none } }
      let open_ := (List.range (leAt b 144 4)).filter fun k =>
        !bitAt (k % 8) (leAt b (160 + k / 8) 1) && (match p.entries[k]? with | some e => e.cls = 1 || e.worst ≠ 0 | none => true)
      let s := open_.foldl (failEntry p (leAt b 0 8) (leAt b 8 8)) s
      let n := leAt b 152 1
      let s := (List.range n).foldl (postHeld b) s
      if leAt b 153 1 = 0 then s
      else
        let next := ((List.range n).map fun j => (heldAlarm b j).event + 1).foldl max (leAt b 16 8 - leAt b 153 1)
        reportGap s 0 next (leAt b 16 8 - 1)

/-! The boundary. -/

/-- A plan runs in the tick that begins: it is loaded, nothing pauses it, the controller serves, and the life-cycle state allows plans (14 R451; 15 R490; 16 R521, R528). -/
def planRuns (s : State) : Bool :=
  s.ctrl.plan.isSome && !s.ctrl.loading && !s.ctrl.paused && (s.keep.otp.lc = 1 || s.keep.otp.lc = 2)
    && (match s.ctrl.down with | some t => s.ctrl.tick < t | none => true)

/-- Steps 1 to 3 of a boundary: number, input sets, commits, and what a first boundary enables (02 R44). -/
def boundaryApply (s : State) : State :=
  let first := s.power.phase = 7
  let s := closeInputs (advanceTick s)
  let s := applyCommits s
  let s := if first then firstBoundary { s with power := { s.power with phase := 8 } } else s
  judgePhase s

/-- A life-cycle transition at the boundary: every session ends, keys are carried, the fuse is blown, and the part resets (16 R522). -/
def lifeCycle (s : State) (new : Nat) : State :=
  restart (lcBlow (s.alaust.sessions.foldl (fun s x => endSession s x.num) s) new) 2

/-- What the configuration and the state of the part bring about at the boundary beside its commits: windows, firmware, spares, HBM repair and refresh. was is the time of the boundary before (08 R272, R275, R276; 13 R432; 15 R480 to R484; 16 R529). -/
def boundaryUpkeep (s : State) (was : Nat) : State :=
  let s := switchAtBoundary (windowsAtBoundary s)
  let s := fillVacant (rotateRegions (isolateRegions (withdrawTiles s)))
  let s := reloadLost (moveLanes (remapsActive (bistAges s was)))
  { s with hbm := { s.hbm with doubled := cfgNat s oHbmRefreshMode = 1 || decide (85 < s.hbm.temp) } }

/-- Steps 4 and 5 of a boundary: pause, and step 0 of the plan, with the actions of a step boundary (02 R44; 16 R512). -/
def boundaryRun (s : State) (was : Nat) : State :=
  let s := pauseStep s
  match s.ctrl.plan with
  | none => stepActions { s with ctrl := { s.ctrl with runs := false } }
  | some p =>
    if planRuns s then stepActions (interruptedRecords (runTick s p was))
    else stepActions (endHandlers { s with ctrl := { s.ctrl with runs := false } })

/-- The end of a boundary: TICK frames and TICK_OUT, and after an autonomous start its report (02 R51; 13 R435; 16 R531). -/
def boundarySignals (s : State) (first : Bool) : State :=
  let s := sendTicks s
  let s := if cfgOn s oTickTickOut then { s with power := { s.power with tickOutAt := some (s.cycle + 10) } } else s
  if first && cfgOn s oKeepAutostart then tickEvent s 8 (s.ctrl.restore.getD 0) (liveContexts s).length else s

/-- The tick boundary in its fixed order (02 R44). -/
def tickBoundary (s : State) : State :=
  let first := s.power.phase = 7
  let was := s.ctrl.time
  let s := boundaryApply s
  match s.alaust.lcTo with
  | some new => lifeCycle s new
  | none => boundarySignals (boundaryRun (boundaryUpkeep s was) was) first

/-- A boundary in whose tick no edge of TICK_IN, or no TICK frame, came: one expected of the source is missing (02 R50; 13 R436). -/
def missEdge (s : State) : State :=
  let missing := match s.ctrl.edgeAt with | some e => e ≤ s.ctrl.boundary | none => true
  if s.power.phase = 8 && ((cfgNat s oTickSource = 2 && missing) || (cfgNat s oTickSource = 3 && s.ctrl.nextTick.isNone)) then
    { s with ctrl := { s.ctrl with edgesMissed := s.ctrl.edgesMissed + 1 } }
  else s

/-- TICK_BOUNDARY (02 R44). -/
def execTickBoundary (s : State) : Host.Outcome State Fault Refusal :=
  if boundaryDue s then .next (tickBoundary (missEdge s)) else .next s

/-- TICK_OUT_END: TICK_OUT falls 1 µs after its rise (02 R51). -/
def execTickOutEnd (s : State) : Host.Outcome State Fault Refusal :=
  match s.power.tickOutAt with
  | some c => if c + 500 ≤ s.cycle then .next { s with power := { s.power with tickOut := false, tickOutAt := none } } else .next s
  | none => .next s

/-! TICK_IN. -/

/-- An edge that is accepted: it gives the source's place and rate and resets the count of missing edges; in the guard it places the boundary when that one is LOCKED to it, or ends a re-phase tick that it does not shorten; the phase error of the boundary gives the lock state (02 R50, R52, R54; notes/assumptions/36.md). -/
def acceptEdge (s : State) : State :=
  let s := sourceEdge s s.cycle
  if s.power.phase = 7 then setLock s 2
  else
    let near := (phaseError s).natAbs ≤ 1000
    if boundaryOpen s && (s.ctrl.lock = 2 || (s.ctrl.rephase && s.ctrl.boundary + edgePeriod s ≤ s.cycle)) then setLock (tickBoundary s) 2
    else if near then setLock s 2
    else if s.ctrl.lock = 3 then setLock s 1
    else s

/-- TICK_IN_EDGE: with source 2, an edge within tick.tick_in_window of its expected time is accepted; another is ignored and counted, and while the part is not LOCKED it gives the expected time anew, and the source's period where it lies within 100 ppm of the nominal one (02 R41, R50; notes/assumptions/36.md). -/
def execTickInEdge (s : State) : Host.Outcome State Fault Refusal :=
  if cfgNat s oTickSource ≠ 2 || s.power.phase < 7 || 8 < s.power.phase || s.power.cut.isSome then .next s
  else match s.ctrl.edgeAt with
    | none => .next { s with ctrl := { s.ctrl with edgeAt := some s.cycle, edgesMissed := 0 } }
    | some e =>
      if edgeError s e ≤ cfgNat s oTickTickInWindow then .next (acceptEdge s)
      else
        let s := { s with ctrl := { s.ctrl with edgesIgnored := s.ctrl.edgesIgnored + 1 } }
        if s.ctrl.lock = 2 then .next s
        else
          let p := pNom (periodN s) (periodD s)
          let d := s.cycle - e
          .next { s with ctrl := { s.ctrl with edgeAt := some s.cycle, edgePeriod := if p ≤ d + p / 10000 && d ≤ p + p / 10000 then d else s.ctrl.edgePeriod } }

/-- TICK_IN_LOSS: tick.tick_in_loss expected edges in a row are missing, and the part enters HOLDOVER (02 R50, R53). -/
def execTickInLoss (s : State) : Host.Outcome State Fault Refusal :=
  if cfgNat s oTickSource = 2 && s.ctrl.lock ≠ 3 && cfgNat s oTickTickInLoss ≤ s.ctrl.edgesMissed then .next (setLock s 3) else .next s

end Sys2Proof.Machine
end

