-- ==== Sys2Proof/Machine/CtlRows.lean ====
section
/-! DEFINITION. The C slot rows: each is its operation issued alone in the present tile cycle (03 R86 to R123; notes/assumptions/3.md). -/

namespace Sys2Proof.Machine

open Sys2Proof

/-- BR: a branch relative to the branch bundle, with five delay bundles (03 R105, R120, R122). -/
def execBr (p : PTile) (off : BitVec 20) (s : State) : Host.Outcome State Fault Refusal :=
  .next (issueOne p (opBr p off) s)

/-- BR_Z: taken when the condition register is 0 (03 R120, R122). -/
def execBrZ (p : PTile) (g : Fin 64) (off : BitVec 20) (s : State) : Host.Outcome State Fault Refusal :=
  .next (issueOne p (opBrIf p true g off) s)

/-- BR_NZ: taken when the condition register is not 0 (03 R120, R122). -/
def execBrNz (p : PTile) (g : Fin 64) (off : BitVec 20) (s : State) : Host.Outcome State Fault Refusal :=
  .next (issueOne p (opBrIf p false g off) s)

/-- CALL: writes the return address to g31 (03 R120). -/
def execCall (p : PTile) (off : BitVec 20) (s : State) : Host.Outcome State Fault Refusal :=
  .next (issueOne p (opCall p off) s)

/-- BR_R: to the address in a g register (03 R120). -/
def execBrR (p : PTile) (g : Fin 64) (s : State) : Host.Outcome State Fault Refusal :=
  .next (issueOne p (opBrR p g) s)

/-- LOOP_SET: count, start and end of a level written and the level armed (03 R101). -/
def execLoopSet (p : PTile) (lvl : Fin 2) (g : Fin 64) (start : BitVec 10) (len : BitVec 9) (s : State) : Host.Outcome State Fault Refusal :=
  .next (issueOne p (opLoopSet p lvl g start len) s)

/-- LOOP_REST: the registers of a level from saved values (03 R101). -/
def execLoopRest (p : PTile) (lvl : Fin 2) (gc : Fin 64) (gs : Fin 64) (ge : Fin 64) (s : State) : Host.Outcome State Fault Refusal :=
  .next (issueOne p (opLoopRest p lvl gc gs ge) s)

/-- LOOP_CLR: a level is disarmed (03 R101). -/
def execLoopClr (p : PTile) (lvl : Fin 2) (s : State) : Host.Outcome State Fault Refusal :=
  .next (issueOne p (opLoopClr p lvl) s)

/-- CB_SET: a circular base and length pair, or CB_INVALID (03 R90). -/
def execCbSet (p : PTile) (n : Fin 8) (g : Fin 64) (s : State) : Host.Outcome State Fault Refusal :=
  .next (issueOne p (opCbSet p n g) s)

/-- MTC: a control register written (03 R87). -/
def execMtc (p : PTile) (g : Fin 64) (n : BitVec 8) (s : State) : Host.Outcome State Fault Refusal :=
  .next (issueOne p (opMtc p g n) s)

/-- MFC: a control register read (03 R87). -/
def execMfc (p : PTile) (d : Fin 64) (n : BitVec 8) (s : State) : Host.Outcome State Fault Refusal :=
  .next (issueOne p (opMfc p d n) s)

/-- INT_PENDING_CLEAR: the ones of g clear INT_PENDING bits (03 R86, R111). -/
def execIntPendingClear (p : PTile) (g : Fin 64) (s : State) : Host.Outcome State Fault Refusal :=
  .next (issueOne p (opMtc p g 0x12) s)

/-- BELL_FROM_CLEAR: the ones of g clear BELL_FROM bits (03 R123). -/
def execBellFromClear (p : PTile) (g : Fin 64) (s : State) : Host.Outcome State Fault Refusal :=
  .next (issueOne p (opMtc p g 0x16) s)

/-- QCROSS_REMOVE: the queue leaves the crossing set (09 R313). -/
def execQcrossRemove (p : PTile) (g : Fin 64) (s : State) : Host.Outcome State Fault Refusal :=
  .next (issueOne p (opMtc p g 0x4D) s)

/-- DMA_ENGINE_CLEAR: DMA_ENGINE written: bit 0 RECOVER, a 1 in bit 1 clears STOPPED (09 R303). -/
def execDmaEngineClear (p : PTile) (g : Fin 64) (s : State) : Host.Outcome State Fault Refusal :=
  .next (issueOne p (opMtc p g 0x4E) s)

/-- DMA_ABORT: the channels of the ones of g abort (09 R301). -/
def execDmaAbort (p : PTile) (g : Fin 64) (s : State) : Host.Outcome State Fault Refusal :=
  .next (issueOne p (opMtc p g 0x4F) s)

/-- ROT: the base of the rotating registers (03 R85). -/
def execRot (p : PTile) (s : State) : Host.Outcome State Fault Refusal :=
  .next (issueOne p (opRot p) s)

/-- NINT: a non-interruptible region (03 R112). -/
def execNint (p : PTile) (n : BitVec 9) (s : State) : Host.Outcome State Fault Refusal :=
  .next (issueOne p (opNint p n) s)

/-- MARK: the step shadow is written once scalar results have landed (03 R106). -/
def execMark (p : PTile) (f : Bool) (s : State) : Host.Outcome State Fault Refusal :=
  .next (issueOne p (opMark p f) s)

/-- DMA_START: a descriptor handed to a channel (09 R282, R283). -/
def execDmaStart (p : PTile) (c : Fin 8) (vs : Fin 32) (s : State) : Host.Outcome State Fault Refusal :=
  .next (issueOne p (opDmaStart p c vs) s)

/-- ARR_START: a descriptor handed to the array (05 R176). -/
def execArrStart (p : PTile) (vs : Fin 32) (s : State) : Host.Outcome State Fault Refusal :=
  .next (issueOne p (opArrStart p vs) s)

/-- WAIT_DMA: issue held until the channel has nothing active or pending (09 R297). -/
def execWaitDma (p : PTile) (c : Fin 8) (s : State) : Host.Outcome State Fault Refusal :=
  .next (issueOne p (opWaitDma p c false) s)

/-- WAIT_FLAG: issue held until the word in core memory equals g (07 R245). -/
def execWaitFlag (p : PTile) (g : Fin 64) (a : Fin 8) (s : State) : Host.Outcome State Fault Refusal :=
  .next (issueOne p (opWaitFlag p g a false) s)

/-- TIME_RD: gPTP time, or deterministic time in mode 1 (14 R446). -/
def execTimeRd (p : PTile) (d : Fin 64) (s : State) : Host.Outcome State Fault Refusal :=
  .next (issueOne p (opTimeRd p d) s)

/-- RNG: random bits, or the deterministic sequence in mode 1 (14 R447). -/
def execRng (p : PTile) (d : Fin 64) (s : State) : Host.Outcome State Fault Refusal :=
  .next (issueOne p (opRng p d) s)

/-- C0_TRIG: a class-0 handler on the same tile (03 R115). -/
def execC0Trig (p : PTile) (h : Fin 8) (s : State) : Host.Outcome State Fault Refusal :=
  .next (issueOne p (opC0Trig p h) s)

/-- C0_BELL: a class-0 doorbell (03 R115). -/
def execC0Bell (p : PTile) (l : Fin 64) (h : Fin 8) (s : State) : Host.Outcome State Fault Refusal :=
  .next (issueOne p (opC0Bell p l h) s)

/-- C1_BELL: a class-1 doorbell (03 R123). -/
def execC1Bell (p : PTile) (l : Fin 64) (s : State) : Host.Outcome State Fault Refusal :=
  .next (issueOne p (opC1Bell p l) s)

/-- EMIT: an alarm body sent (03 R116). -/
def execEmit (p : PTile) (a : Fin 8) (s : State) : Host.Outcome State Fault Refusal :=
  .next (issueOne p (opEmit p a) s)

/-- C0_END: the handler ends (03 R117). -/
def execC0End (p : PTile) (s : State) : Host.Outcome State Fault Refusal :=
  .next (issueOne p (opC0End p) s)

/-- RETI: return from interrupt (03 R110). -/
def execReti (p : PTile) (s : State) : Host.Outcome State Fault Refusal :=
  .next (issueOne p (opReti p) s)

/-- END: in-flight scalar operations land, then the item ends (03 R120). -/
def execEndItem (p : PTile) (s : State) : Host.Outcome State Fault Refusal :=
  .next (issueOne p (opEnd p) s)

end Sys2Proof.Machine
end

