-- ==== Sys2Proof/Machine/I2cBus.lean ====
section
/-! DEFINITION. The I2C subset of the dictionary, and the end of a firmware switch (12 R396, R403, R404; 16 R529). -/

namespace Sys2Proof.Machine

open Sys2Proof

/-- An object that I2C reaches (12 R404). -/
def i2cReaches (index sub : Nat) : Bool :=
  index = 0x1000 || (index = 0x1100 && sub = 1) || (index = 0x1180 && sub = 0x10) || index = 0x2000 || index = 0x2100 || index = 0x3000 || index = 0x3001
    || ((index = 0x4000 || index = 0x4001) && (within 1 9 sub || within 0x40 0x43 sub))
    || (index = 0x4100 && within 1 2 sub) || index = 0x8000

/-- The life-cycle states in which I2C may write (12 R404, 16 R521). -/
def i2cWrites (s : State) : Bool := s.keep.otp.lc = 0 || s.keep.otp.lc = 1

/-- The response of a command: STATUS, LENGTH and data, or ABORT and the code (12 R403). -/
def i2cBody (code : Nat) (data : List Byte) : List Byte :=
  if code = cDone || code = cEmpty then leBytes 1 0 ++ leBytes 1 data.length ++ data else leBytes 1 2 ++ leBytes 2 code

/-- A response made ready. -/
def i2cReady (s : State) (body : List Byte) : State :=
  { s with alaust := { s.alaust with i2c := { s.alaust.i2c with response := some body, busy := false } } }

/-- A READ command carried out (12 R403, R404, R408). -/
def i2cRead (s : State) (index sub offset length : Nat) : State :=
  if !i2cReaches index sub then i2cReady s (i2cBody cObjectNotFound [])
  else
    let r := readObject s .i2c false (index * 256 + sub) offset length
    i2cReady r.2.2 (i2cBody r.1 r.2.1)

/-- A write of an object over I2C: level Basic, lc.owner_keys excepted (12 R404, R406). -/
def i2cWriteObject (s : State) (key offset : Nat) (data : List Byte) : Nat × State :=
  match objNow s key with
  | none => (cObjectNotFound, s)
  | some r =>
    if !i2cWrites s then (cLifecycleDenied, s)
    else if r.acc = .const || r.acc = .ro then (cAccessDenied, s)
    else if r.expert && key ≠ oLcOwnerKeys then (cLevelDenied, s)
    else writeAllowed s .i2c r key offset data

/-- A WRITE command carried out (12 R403, R404, R408). -/
def i2cWrite (s : State) (index sub offset : Nat) (data : List Byte) : State :=
  if !i2cReaches index sub then i2cReady s (i2cBody cObjectNotFound [])
  else
    let r := i2cWriteObject s (index * 256 + sub) offset data
    i2cReady r.2 (i2cBody r.1 [])

/-- A command taken: one with a bad PEC is discarded, one during a firmware switch stays pending, and while one is pending a new one is not taken (12 R396, R403). The length of a command is 0 to 64. -/
def i2cCommand (pec : Bool) (length : Nat) (q : HeldReq) (run : State → State) (s : State) : Host.Outcome State Fault Refusal :=
  if s.power.phase < 5 || 8 < s.power.phase || s.power.cut.isSome || s.alaust.i2c.busy then .next s
  else if !pec then .next (i2cReady s (leBytes 1 3))
  else if 64 < length then .next (i2cReady s (i2cBody cLengthMismatch []))
  else if s.fw.state = 2 then .next (holdRequest { s with alaust := { s.alaust with i2c := { s.alaust.i2c with busy := true, response := none } } } q)
  else .next (run s)

/-- I2C_READ (12 R403). -/
def execI2cRead (pec : Bool) (index : BitVec 16) (sub : BitVec 8) (offset : BitVec 16) (length : BitVec 8) (s : State) : Host.Outcome State Fault Refusal :=
  i2cCommand pec length.toNat (.i2cRead index.toNat sub.toNat offset.toNat length.toNat)
    (fun s => i2cRead s index.toNat sub.toNat offset.toNat length.toNat) s

/-- I2C_WRITE (12 R403). -/
def execI2cWrite (pec : Bool) (index : BitVec 16) (sub : BitVec 8) (offset : BitVec 16) (data : List Byte) (s : State) : Host.Outcome State Fault Refusal :=
  i2cCommand pec data.length (.i2cWrite index.toNat sub.toNat offset.toNat data)
    (fun s => i2cWrite s index.toNat sub.toNat offset.toNat data) s

/-- I2C_RESPONSE: the host reads the response of the last command, or BUSY, and its PEC over the address byte of the read and every byte of it (12 R403). With no command yet there is nothing to read. -/
def execI2cResponse (s : State) : Host.Outcome State Fault Refusal :=
  let body := if s.alaust.i2c.busy then leBytes 1 1 else s.alaust.i2c.response.getD []
  let out := if body.isEmpty then [] else body ++ leBytes 1 (crc8 (BitVec.ofNat 8 (2 * s.power.i2cAddr + 1) :: body))
  .next { s with alaust := { s.alaust with data := out } }

/-- A held request carried out, I2C commands among them. -/
def runHeld (s : State) (q : HeldReq) : State :=
  match q with
  | .i2cRead i u o n => i2cRead s i u o n
  | .i2cWrite i u o d => i2cWrite s i u o d
  | q => runRequest q s

/-- FIRMWARE_SELF_CHECK_DONE: the new image serves and is rewritten, or the old one resumes; the requests held are carried out in order (12 R396; 16 R529). -/
def execFirmwareSelfCheckDone (pass : Bool) (s : State) : Host.Outcome State Fault Refusal :=
  if s.fw.state ≠ 2 then .next s
  else
    let s := if pass then { s with fw := { s.fw with state := 3 } } else switchFailed s
    let l := s.alaust.held
    .next (l.foldl runHeld { s with alaust := { s.alaust with held := [] } })

end Sys2Proof.Machine
end

