-- ==== Sys2Proof/Machine/VecRows.lean ====
section
/-! DEFINITION. The operations of the V slot, one per row (04 R164): each is its word, issued alone. -/

namespace Sys2Proof.Machine

open Sys2Proof

/-- SETVL: sets EW and VL := min(gs, VLMAX), and writes VL to gd (04 R133). -/
def execSetvl (p : PTile) (gd : Fin 64) (gs : Fin 64) (ew : Fin 4) (s : State) : Host.Outcome State Fault Refusal :=
  .next (issueOne p (opV p (BitVec.ofNat 32 (2 ^ 26 + gd.val * 2 ^ 20 + gs.val * 2 ^ 14 + ew.val * 2 ^ 12))) s)

/-- VLOAD: unit-stride load (04 R146, R148). -/
def execVload (p : PTile) (vd : Fin 32) (a : Fin 8) (upd : Bool) (vob : Bool) (masked : Bool) (s : State) : Host.Outcome State Fault Refusal :=
  .next (issueOne p (opV p (vMemWord 2 vd a upd vob masked 0)) s)

/-- VLOAD_S: strided load (04 R146, R148). -/
def execVloadS (p : PTile) (vd : Fin 32) (a : Fin 8) (g : Fin 64) (upd : Bool) (vob : Bool) (masked : Bool) (s : State) : Host.Outcome State Fault Refusal :=
  .next (issueOne p (opV p (vMemWord 3 vd a upd vob masked (g.val * 256))) s)

/-- VGATHER: indexed load (04 R146, R148). -/
def execVgather (p : PTile) (vd : Fin 32) (a : Fin 8) (vs2 : Fin 32) (scale : Fin 4) (vob : Bool) (masked : Bool) (s : State) : Host.Outcome State Fault Refusal :=
  .next (issueOne p (opV p (vMemWord 4 vd a false vob masked (vs2.val * 256 + scale.val))) s)

/-- VDEAL2: structure load of 2 fields (04 R146, R148). -/
def execVdeal2 (p : PTile) (vd : Fin 32) (a : Fin 8) (upd : Bool) (masked : Bool) (s : State) : Host.Outcome State Fault Refusal :=
  .next (issueOne p (opV p (vMemWord 5 vd a upd false masked 64)) s)

/-- VDEAL3: structure load of 3 fields (04 R146, R148). -/
def execVdeal3 (p : PTile) (vd : Fin 32) (a : Fin 8) (upd : Bool) (masked : Bool) (s : State) : Host.Outcome State Fault Refusal :=
  .next (issueOne p (opV p (vMemWord 5 vd a upd false masked 128)) s)

/-- VDEAL4: structure load of 4 fields (04 R146, R148). -/
def execVdeal4 (p : PTile) (vd : Fin 32) (a : Fin 8) (upd : Bool) (masked : Bool) (s : State) : Host.Outcome State Fault Refusal :=
  .next (issueOne p (opV p (vMemWord 5 vd a upd false masked 192)) s)

/-- VSTORE: unit-stride store (04 R147, R148). -/
def execVstore (p : PTile) (vs : Fin 32) (a : Fin 8) (upd : Bool) (vob : Bool) (masked : Bool) (s : State) : Host.Outcome State Fault Refusal :=
  .next (issueOne p (opV p (vMemWord 6 vs a upd vob masked 0)) s)

/-- VSTORE_S: strided store (04 R147, R148). -/
def execVstoreS (p : PTile) (vs : Fin 32) (a : Fin 8) (g : Fin 64) (upd : Bool) (vob : Bool) (masked : Bool) (s : State) : Host.Outcome State Fault Refusal :=
  .next (issueOne p (opV p (vMemWord 7 vs a upd vob masked (g.val * 256))) s)

/-- VSCATTER: indexed store (04 R147, R148). -/
def execVscatter (p : PTile) (vs : Fin 32) (a : Fin 8) (vs2 : Fin 32) (scale : Fin 4) (vob : Bool) (masked : Bool) (s : State) : Host.Outcome State Fault Refusal :=
  .next (issueOne p (opV p (vMemWord 8 vs a false vob masked (vs2.val * 256 + scale.val))) s)

/-- VSETTLE: holds issue until every vector operation in flight has landed (04 R162). -/
def execVsettle (p : PTile) (s : State) : Host.Outcome State Fault Refusal :=
  .next (issueOne p (opV p (BitVec.ofNat 32 (9 * 2 ^ 26))) s)

/-- VPICK: element gi of vs2, sign-extended, to gd (04 R164). -/
def execVpick (p : PTile) (gd : Fin 64) (vs2 : Fin 32) (gi : Fin 64) (s : State) : Host.Outcome State Fault Refusal :=
  .next (issueOne p (opV p (BitVec.ofNat 32 (10 * 2 ^ 26 + gd.val * 2 ^ 20 + gi.val * 2 ^ 14 + vs2.val * 512))) s)

/-- VPLACE: gs to element gi of vd (04 R164). -/
def execVplace (p : PTile) (vd : Fin 32) (gs : Fin 64) (gi : Fin 64) (s : State) : Host.Outcome State Fault Refusal :=
  .next (issueOne p (opV p (BitVec.ofNat 32 (11 * 2 ^ 26 + vd.val * 2 ^ 21 + gs.val * 2 ^ 15 + gi.val * 512))) s)

/-- VFIRST: element 0 of vs2, sign-extended, to gd (04 R164). -/
def execVfirst (p : PTile) (gd : Fin 64) (vs2 : Fin 32) (s : State) : Host.Outcome State Fault Refusal :=
  .next (issueOne p (opV p (BitVec.ofNat 32 (12 * 2 ^ 26 + gd.val * 2 ^ 20 + vs2.val * 512))) s)

/-- E_ADD: opcode 0x10, sub-operation 0 (04 R136, R164). -/
def execEAdd (p : PTile) (vd : Fin 32) (src1 : Fin 32) (vs2 : Fin 32) (masked : Bool) (form : Fin 4) (s : State) : Host.Outcome State Fault Refusal :=
  .next (issueOne p (opV p (vArithWord 0x10 0 vd src1 vs2 masked form)) s)

/-- E_SUB: opcode 0x10, sub-operation 1 (04 R136, R164). -/
def execESub (p : PTile) (vd : Fin 32) (src1 : Fin 32) (vs2 : Fin 32) (masked : Bool) (form : Fin 4) (s : State) : Host.Outcome State Fault Refusal :=
  .next (issueOne p (opV p (vArithWord 0x10 1 vd src1 vs2 masked form)) s)

/-- E_RSUB: opcode 0x10, sub-operation 2 (04 R136, R164). -/
def execERsub (p : PTile) (vd : Fin 32) (src1 : Fin 32) (vs2 : Fin 32) (masked : Bool) (form : Fin 4) (s : State) : Host.Outcome State Fault Refusal :=
  .next (issueOne p (opV p (vArithWord 0x10 2 vd src1 vs2 masked form)) s)

/-- E_AND: opcode 0x10, sub-operation 3 (04 R136, R164). -/
def execEAnd (p : PTile) (vd : Fin 32) (src1 : Fin 32) (vs2 : Fin 32) (masked : Bool) (form : Fin 4) (s : State) : Host.Outcome State Fault Refusal :=
  .next (issueOne p (opV p (vArithWord 0x10 3 vd src1 vs2 masked form)) s)

/-- E_OR: opcode 0x10, sub-operation 4 (04 R136, R164). -/
def execEOr (p : PTile) (vd : Fin 32) (src1 : Fin 32) (vs2 : Fin 32) (masked : Bool) (form : Fin 4) (s : State) : Host.Outcome State Fault Refusal :=
  .next (issueOne p (opV p (vArithWord 0x10 4 vd src1 vs2 masked form)) s)

/-- E_XOR: opcode 0x10, sub-operation 5 (04 R136, R164). -/
def execEXor (p : PTile) (vd : Fin 32) (src1 : Fin 32) (vs2 : Fin 32) (masked : Bool) (form : Fin 4) (s : State) : Host.Outcome State Fault Refusal :=
  .next (issueOne p (opV p (vArithWord 0x10 5 vd src1 vs2 masked form)) s)

/-- E_SHL: opcode 0x10, sub-operation 6 (04 R136, R164). -/
def execEShl (p : PTile) (vd : Fin 32) (src1 : Fin 32) (vs2 : Fin 32) (masked : Bool) (form : Fin 4) (s : State) : Host.Outcome State Fault Refusal :=
  .next (issueOne p (opV p (vArithWord 0x10 6 vd src1 vs2 masked form)) s)

/-- E_SHR: opcode 0x10, sub-operation 7 (04 R136, R164). -/
def execEShr (p : PTile) (vd : Fin 32) (src1 : Fin 32) (vs2 : Fin 32) (masked : Bool) (form : Fin 4) (s : State) : Host.Outcome State Fault Refusal :=
  .next (issueOne p (opV p (vArithWord 0x10 7 vd src1 vs2 masked form)) s)

/-- E_SAR: opcode 0x10, sub-operation 8 (04 R136, R164). -/
def execESar (p : PTile) (vd : Fin 32) (src1 : Fin 32) (vs2 : Fin 32) (masked : Bool) (form : Fin 4) (s : State) : Host.Outcome State Fault Refusal :=
  .next (issueOne p (opV p (vArithWord 0x10 8 vd src1 vs2 masked form)) s)

/-- E_MIN: opcode 0x10, sub-operation 9 (04 R136, R164). -/
def execEMin (p : PTile) (vd : Fin 32) (src1 : Fin 32) (vs2 : Fin 32) (masked : Bool) (form : Fin 4) (s : State) : Host.Outcome State Fault Refusal :=
  .next (issueOne p (opV p (vArithWord 0x10 9 vd src1 vs2 masked form)) s)

/-- E_MINU: opcode 0x10, sub-operation 10 (04 R136, R164). -/
def execEMinu (p : PTile) (vd : Fin 32) (src1 : Fin 32) (vs2 : Fin 32) (masked : Bool) (form : Fin 4) (s : State) : Host.Outcome State Fault Refusal :=
  .next (issueOne p (opV p (vArithWord 0x10 10 vd src1 vs2 masked form)) s)

/-- E_MAX: opcode 0x10, sub-operation 11 (04 R136, R164). -/
def execEMax (p : PTile) (vd : Fin 32) (src1 : Fin 32) (vs2 : Fin 32) (masked : Bool) (form : Fin 4) (s : State) : Host.Outcome State Fault Refusal :=
  .next (issueOne p (opV p (vArithWord 0x10 11 vd src1 vs2 masked form)) s)

/-- E_MAXU: opcode 0x10, sub-operation 12 (04 R136, R164). -/
def execEMaxu (p : PTile) (vd : Fin 32) (src1 : Fin 32) (vs2 : Fin 32) (masked : Bool) (form : Fin 4) (s : State) : Host.Outcome State Fault Refusal :=
  .next (issueOne p (opV p (vArithWord 0x10 12 vd src1 vs2 masked form)) s)

/-- E_ADDS: opcode 0x11, sub-operation 0 (04 R136, R164). -/
def execEAdds (p : PTile) (vd : Fin 32) (src1 : Fin 32) (vs2 : Fin 32) (masked : Bool) (form : Fin 4) (s : State) : Host.Outcome State Fault Refusal :=
  .next (issueOne p (opV p (vArithWord 0x11 0 vd src1 vs2 masked form)) s)

/-- E_ADDSU: opcode 0x11, sub-operation 1 (04 R136, R164). -/
def execEAddsu (p : PTile) (vd : Fin 32) (src1 : Fin 32) (vs2 : Fin 32) (masked : Bool) (form : Fin 4) (s : State) : Host.Outcome State Fault Refusal :=
  .next (issueOne p (opV p (vArithWord 0x11 1 vd src1 vs2 masked form)) s)

/-- E_SUBS: opcode 0x11, sub-operation 2 (04 R136, R164). -/
def execESubs (p : PTile) (vd : Fin 32) (src1 : Fin 32) (vs2 : Fin 32) (masked : Bool) (form : Fin 4) (s : State) : Host.Outcome State Fault Refusal :=
  .next (issueOne p (opV p (vArithWord 0x11 2 vd src1 vs2 masked form)) s)

/-- E_SUBSU: opcode 0x11, sub-operation 3 (04 R136, R164). -/
def execESubsu (p : PTile) (vd : Fin 32) (src1 : Fin 32) (vs2 : Fin 32) (masked : Bool) (form : Fin 4) (s : State) : Host.Outcome State Fault Refusal :=
  .next (issueOne p (opV p (vArithWord 0x11 3 vd src1 vs2 masked form)) s)

/-- E_MUL: opcode 0x12, sub-operation 0 (04 R136, R164). -/
def execEMul (p : PTile) (vd : Fin 32) (src1 : Fin 32) (vs2 : Fin 32) (masked : Bool) (form : Fin 4) (s : State) : Host.Outcome State Fault Refusal :=
  .next (issueOne p (opV p (vArithWord 0x12 0 vd src1 vs2 masked form)) s)

/-- E_MULH: opcode 0x12, sub-operation 1 (04 R136, R164). -/
def execEMulh (p : PTile) (vd : Fin 32) (src1 : Fin 32) (vs2 : Fin 32) (masked : Bool) (form : Fin 4) (s : State) : Host.Outcome State Fault Refusal :=
  .next (issueOne p (opV p (vArithWord 0x12 1 vd src1 vs2 masked form)) s)

/-- E_MULHU: opcode 0x12, sub-operation 2 (04 R136, R164). -/
def execEMulhu (p : PTile) (vd : Fin 32) (src1 : Fin 32) (vs2 : Fin 32) (masked : Bool) (form : Fin 4) (s : State) : Host.Outcome State Fault Refusal :=
  .next (issueOne p (opV p (vArithWord 0x12 2 vd src1 vs2 masked form)) s)

/-- E_MLA: opcode 0x12, sub-operation 3 (04 R136, R164). -/
def execEMla (p : PTile) (vd : Fin 32) (src1 : Fin 32) (vs2 : Fin 32) (masked : Bool) (form : Fin 4) (s : State) : Host.Outcome State Fault Refusal :=
  .next (issueOne p (opV p (vArithWord 0x12 3 vd src1 vs2 masked form)) s)

/-- E_MLS: opcode 0x12, sub-operation 4 (04 R136, R164). -/
def execEMls (p : PTile) (vd : Fin 32) (src1 : Fin 32) (vs2 : Fin 32) (masked : Bool) (form : Fin 4) (s : State) : Host.Outcome State Fault Refusal :=
  .next (issueOne p (opV p (vArithWord 0x12 4 vd src1 vs2 masked form)) s)

/-- W_ADD: opcode 0x13, sub-operation 0 (04 R136, R164). -/
def execWAdd (p : PTile) (vd : Fin 32) (src1 : Fin 32) (vs2 : Fin 32) (masked : Bool) (form : Fin 4) (s : State) : Host.Outcome State Fault Refusal :=
  .next (issueOne p (opV p (vArithWord 0x13 0 vd src1 vs2 masked form)) s)

/-- W_ADDU: opcode 0x13, sub-operation 1 (04 R136, R164). -/
def execWAddu (p : PTile) (vd : Fin 32) (src1 : Fin 32) (vs2 : Fin 32) (masked : Bool) (form : Fin 4) (s : State) : Host.Outcome State Fault Refusal :=
  .next (issueOne p (opV p (vArithWord 0x13 1 vd src1 vs2 masked form)) s)

/-- W_SUB: opcode 0x13, sub-operation 2 (04 R136, R164). -/
def execWSub (p : PTile) (vd : Fin 32) (src1 : Fin 32) (vs2 : Fin 32) (masked : Bool) (form : Fin 4) (s : State) : Host.Outcome State Fault Refusal :=
  .next (issueOne p (opV p (vArithWord 0x13 2 vd src1 vs2 masked form)) s)

/-- W_SUBU: opcode 0x13, sub-operation 3 (04 R136, R164). -/
def execWSubu (p : PTile) (vd : Fin 32) (src1 : Fin 32) (vs2 : Fin 32) (masked : Bool) (form : Fin 4) (s : State) : Host.Outcome State Fault Refusal :=
  .next (issueOne p (opV p (vArithWord 0x13 3 vd src1 vs2 masked form)) s)

/-- W_MUL: opcode 0x13, sub-operation 4 (04 R136, R164). -/
def execWMul (p : PTile) (vd : Fin 32) (src1 : Fin 32) (vs2 : Fin 32) (masked : Bool) (form : Fin 4) (s : State) : Host.Outcome State Fault Refusal :=
  .next (issueOne p (opV p (vArithWord 0x13 4 vd src1 vs2 masked form)) s)

/-- W_MULU: opcode 0x13, sub-operation 5 (04 R136, R164). -/
def execWMulu (p : PTile) (vd : Fin 32) (src1 : Fin 32) (vs2 : Fin 32) (masked : Bool) (form : Fin 4) (s : State) : Host.Outcome State Fault Refusal :=
  .next (issueOne p (opV p (vArithWord 0x13 5 vd src1 vs2 masked form)) s)

/-- W_MULSU: opcode 0x13, sub-operation 6 (04 R136, R164). -/
def execWMulsu (p : PTile) (vd : Fin 32) (src1 : Fin 32) (vs2 : Fin 32) (masked : Bool) (form : Fin 4) (s : State) : Host.Outcome State Fault Refusal :=
  .next (issueOne p (opV p (vArithWord 0x13 6 vd src1 vs2 masked form)) s)

/-- W_MLA: opcode 0x13, sub-operation 7 (04 R136, R164). -/
def execWMla (p : PTile) (vd : Fin 32) (src1 : Fin 32) (vs2 : Fin 32) (masked : Bool) (form : Fin 4) (s : State) : Host.Outcome State Fault Refusal :=
  .next (issueOne p (opV p (vArithWord 0x13 7 vd src1 vs2 masked form)) s)

/-- W_MLAU: opcode 0x13, sub-operation 8 (04 R136, R164). -/
def execWMlau (p : PTile) (vd : Fin 32) (src1 : Fin 32) (vs2 : Fin 32) (masked : Bool) (form : Fin 4) (s : State) : Host.Outcome State Fault Refusal :=
  .next (issueOne p (opV p (vArithWord 0x13 8 vd src1 vs2 masked form)) s)

/-- N_SHR: opcode 0x14, sub-operation 0 (04 R136, R164). -/
def execNShr (p : PTile) (vd : Fin 32) (src1 : Fin 32) (vs2 : Fin 32) (masked : Bool) (form : Fin 4) (s : State) : Host.Outcome State Fault Refusal :=
  .next (issueOne p (opV p (vArithWord 0x14 0 vd src1 vs2 masked form)) s)

/-- N_SAR: opcode 0x14, sub-operation 1 (04 R136, R164). -/
def execNSar (p : PTile) (vd : Fin 32) (src1 : Fin 32) (vs2 : Fin 32) (masked : Bool) (form : Fin 4) (s : State) : Host.Outcome State Fault Refusal :=
  .next (issueOne p (opV p (vArithWord 0x14 1 vd src1 vs2 masked form)) s)

/-- N_CLIP: opcode 0x14, sub-operation 2 (04 R136, R164). -/
def execNClip (p : PTile) (vd : Fin 32) (src1 : Fin 32) (vs2 : Fin 32) (masked : Bool) (form : Fin 4) (s : State) : Host.Outcome State Fault Refusal :=
  .next (issueOne p (opV p (vArithWord 0x14 2 vd src1 vs2 masked form)) s)

/-- N_CLIPU: opcode 0x14, sub-operation 3 (04 R136, R164). -/
def execNClipu (p : PTile) (vd : Fin 32) (src1 : Fin 32) (vs2 : Fin 32) (masked : Bool) (form : Fin 4) (s : State) : Host.Outcome State Fault Refusal :=
  .next (issueOne p (opV p (vArithWord 0x14 3 vd src1 vs2 masked form)) s)

/-- VDOT4_SS: opcode 0x15, sub-operation 0 (04 R136, R164). -/
def execVdot4Ss (p : PTile) (vd : Fin 32) (src1 : Fin 32) (vs2 : Fin 32) (masked : Bool) (form : Fin 4) (s : State) : Host.Outcome State Fault Refusal :=
  .next (issueOne p (opV p (vArithWord 0x15 0 vd src1 vs2 masked form)) s)

/-- VDOT4_UU: opcode 0x15, sub-operation 1 (04 R136, R164). -/
def execVdot4Uu (p : PTile) (vd : Fin 32) (src1 : Fin 32) (vs2 : Fin 32) (masked : Bool) (form : Fin 4) (s : State) : Host.Outcome State Fault Refusal :=
  .next (issueOne p (opV p (vArithWord 0x15 1 vd src1 vs2 masked form)) s)

/-- VDOT4_SU: opcode 0x15, sub-operation 2 (04 R136, R164). -/
def execVdot4Su (p : PTile) (vd : Fin 32) (src1 : Fin 32) (vs2 : Fin 32) (masked : Bool) (form : Fin 4) (s : State) : Host.Outcome State Fault Refusal :=
  .next (issueOne p (opV p (vArithWord 0x15 2 vd src1 vs2 masked form)) s)

/-- VDOT2_SS: opcode 0x15, sub-operation 3 (04 R136, R164). -/
def execVdot2Ss (p : PTile) (vd : Fin 32) (src1 : Fin 32) (vs2 : Fin 32) (masked : Bool) (form : Fin 4) (s : State) : Host.Outcome State Fault Refusal :=
  .next (issueOne p (opV p (vArithWord 0x15 3 vd src1 vs2 masked form)) s)

/-- VDOT2_UU: opcode 0x15, sub-operation 4 (04 R136, R164). -/
def execVdot2Uu (p : PTile) (vd : Fin 32) (src1 : Fin 32) (vs2 : Fin 32) (masked : Bool) (form : Fin 4) (s : State) : Host.Outcome State Fault Refusal :=
  .next (issueOne p (opV p (vArithWord 0x15 4 vd src1 vs2 masked form)) s)

/-- VDOT2_SU: opcode 0x15, sub-operation 5 (04 R136, R164). -/
def execVdot2Su (p : PTile) (vd : Fin 32) (src1 : Fin 32) (vs2 : Fin 32) (masked : Bool) (form : Fin 4) (s : State) : Host.Outcome State Fault Refusal :=
  .next (issueOne p (opV p (vArithWord 0x15 5 vd src1 vs2 masked form)) s)

/-- M_EQ: opcode 0x16, sub-operation 0 (04 R136, R164). -/
def execMEq (p : PTile) (vd : Fin 32) (src1 : Fin 32) (vs2 : Fin 32) (masked : Bool) (form : Fin 4) (s : State) : Host.Outcome State Fault Refusal :=
  .next (issueOne p (opV p (vArithWord 0x16 0 vd src1 vs2 masked form)) s)

/-- M_NE: opcode 0x16, sub-operation 1 (04 R136, R164). -/
def execMNe (p : PTile) (vd : Fin 32) (src1 : Fin 32) (vs2 : Fin 32) (masked : Bool) (form : Fin 4) (s : State) : Host.Outcome State Fault Refusal :=
  .next (issueOne p (opV p (vArithWord 0x16 1 vd src1 vs2 masked form)) s)

/-- M_LT: opcode 0x16, sub-operation 2 (04 R136, R164). -/
def execMLt (p : PTile) (vd : Fin 32) (src1 : Fin 32) (vs2 : Fin 32) (masked : Bool) (form : Fin 4) (s : State) : Host.Outcome State Fault Refusal :=
  .next (issueOne p (opV p (vArithWord 0x16 2 vd src1 vs2 masked form)) s)

/-- M_LTU: opcode 0x16, sub-operation 3 (04 R136, R164). -/
def execMLtu (p : PTile) (vd : Fin 32) (src1 : Fin 32) (vs2 : Fin 32) (masked : Bool) (form : Fin 4) (s : State) : Host.Outcome State Fault Refusal :=
  .next (issueOne p (opV p (vArithWord 0x16 3 vd src1 vs2 masked form)) s)

/-- M_LE: opcode 0x16, sub-operation 4 (04 R136, R164). -/
def execMLe (p : PTile) (vd : Fin 32) (src1 : Fin 32) (vs2 : Fin 32) (masked : Bool) (form : Fin 4) (s : State) : Host.Outcome State Fault Refusal :=
  .next (issueOne p (opV p (vArithWord 0x16 4 vd src1 vs2 masked form)) s)

/-- M_LEU: opcode 0x16, sub-operation 5 (04 R136, R164). -/
def execMLeu (p : PTile) (vd : Fin 32) (src1 : Fin 32) (vs2 : Fin 32) (masked : Bool) (form : Fin 4) (s : State) : Host.Outcome State Fault Refusal :=
  .next (issueOne p (opV p (vArithWord 0x16 5 vd src1 vs2 masked form)) s)

/-- E_BLEND: opcode 0x17, sub-operation 0 (04 R136, R164). -/
def execEBlend (p : PTile) (vd : Fin 32) (src1 : Fin 32) (vs2 : Fin 32) (masked : Bool) (form : Fin 4) (s : State) : Host.Outcome State Fault Refusal :=
  .next (issueOne p (opV p (vArithWord 0x17 0 vd src1 vs2 masked form)) s)

/-- E_FILL: opcode 0x17, sub-operation 1 (04 R136, R164). -/
def execEFill (p : PTile) (vd : Fin 32) (src1 : Fin 32) (vs2 : Fin 32) (masked : Bool) (form : Fin 4) (s : State) : Host.Outcome State Fault Refusal :=
  .next (issueOne p (opV p (vArithWord 0x17 1 vd src1 vs2 masked form)) s)

/-- X_UP: opcode 0x18, sub-operation 0 (04 R136, R164). -/
def execXUp (p : PTile) (vd : Fin 32) (src1 : Fin 32) (vs2 : Fin 32) (masked : Bool) (form : Fin 4) (s : State) : Host.Outcome State Fault Refusal :=
  .next (issueOne p (opV p (vArithWord 0x18 0 vd src1 vs2 masked form)) s)

/-- X_DOWN: opcode 0x18, sub-operation 1 (04 R136, R164). -/
def execXDown (p : PTile) (vd : Fin 32) (src1 : Fin 32) (vs2 : Fin 32) (masked : Bool) (form : Fin 4) (s : State) : Host.Outcome State Fault Refusal :=
  .next (issueOne p (opV p (vArithWord 0x18 1 vd src1 vs2 masked form)) s)

/-- X_PERM: opcode 0x18, sub-operation 2 (04 R136, R164). -/
def execXPerm (p : PTile) (vd : Fin 32) (src1 : Fin 32) (vs2 : Fin 32) (masked : Bool) (form : Fin 4) (s : State) : Host.Outcome State Fault Refusal :=
  .next (issueOne p (opV p (vArithWord 0x18 2 vd src1 vs2 masked form)) s)

/-- R_SUM: opcode 0x19, sub-operation 0 (04 R136, R164). -/
def execRSum (p : PTile) (vd : Fin 32) (src1 : Fin 32) (vs2 : Fin 32) (masked : Bool) (form : Fin 4) (s : State) : Host.Outcome State Fault Refusal :=
  .next (issueOne p (opV p (vArithWord 0x19 0 vd src1 vs2 masked form)) s)

/-- R_MAX: opcode 0x19, sub-operation 1 (04 R136, R164). -/
def execRMax (p : PTile) (vd : Fin 32) (src1 : Fin 32) (vs2 : Fin 32) (masked : Bool) (form : Fin 4) (s : State) : Host.Outcome State Fault Refusal :=
  .next (issueOne p (opV p (vArithWord 0x19 1 vd src1 vs2 masked form)) s)

/-- R_MAXU: opcode 0x19, sub-operation 2 (04 R136, R164). -/
def execRMaxu (p : PTile) (vd : Fin 32) (src1 : Fin 32) (vs2 : Fin 32) (masked : Bool) (form : Fin 4) (s : State) : Host.Outcome State Fault Refusal :=
  .next (issueOne p (opV p (vArithWord 0x19 2 vd src1 vs2 masked form)) s)

/-- R_MIN: opcode 0x19, sub-operation 3 (04 R136, R164). -/
def execRMin (p : PTile) (vd : Fin 32) (src1 : Fin 32) (vs2 : Fin 32) (masked : Bool) (form : Fin 4) (s : State) : Host.Outcome State Fault Refusal :=
  .next (issueOne p (opV p (vArithWord 0x19 3 vd src1 vs2 masked form)) s)

/-- R_MINU: opcode 0x19, sub-operation 4 (04 R136, R164). -/
def execRMinu (p : PTile) (vd : Fin 32) (src1 : Fin 32) (vs2 : Fin 32) (masked : Bool) (form : Fin 4) (s : State) : Host.Outcome State Fault Refusal :=
  .next (issueOne p (opV p (vArithWord 0x19 4 vd src1 vs2 masked form)) s)

/-- R_AND: opcode 0x19, sub-operation 5 (04 R136, R164). -/
def execRAnd (p : PTile) (vd : Fin 32) (src1 : Fin 32) (vs2 : Fin 32) (masked : Bool) (form : Fin 4) (s : State) : Host.Outcome State Fault Refusal :=
  .next (issueOne p (opV p (vArithWord 0x19 5 vd src1 vs2 masked form)) s)

/-- R_OR: opcode 0x19, sub-operation 6 (04 R136, R164). -/
def execROr (p : PTile) (vd : Fin 32) (src1 : Fin 32) (vs2 : Fin 32) (masked : Bool) (form : Fin 4) (s : State) : Host.Outcome State Fault Refusal :=
  .next (issueOne p (opV p (vArithWord 0x19 6 vd src1 vs2 masked form)) s)

/-- R_XOR: opcode 0x19, sub-operation 7 (04 R136, R164). -/
def execRXor (p : PTile) (vd : Fin 32) (src1 : Fin 32) (vs2 : Fin 32) (masked : Bool) (form : Fin 4) (s : State) : Host.Outcome State Fault Refusal :=
  .next (issueOne p (opV p (vArithWord 0x19 7 vd src1 vs2 masked form)) s)

/-- EF_ADD: opcode 0x20, sub-operation 0 (04 R136, R164). -/
def execEfAdd (p : PTile) (vd : Fin 32) (src1 : Fin 32) (vs2 : Fin 32) (masked : Bool) (form : Fin 4) (s : State) : Host.Outcome State Fault Refusal :=
  .next (issueOne p (opV p (vArithWord 0x20 0 vd src1 vs2 masked form)) s)

/-- EF_SUB: opcode 0x20, sub-operation 1 (04 R136, R164). -/
def execEfSub (p : PTile) (vd : Fin 32) (src1 : Fin 32) (vs2 : Fin 32) (masked : Bool) (form : Fin 4) (s : State) : Host.Outcome State Fault Refusal :=
  .next (issueOne p (opV p (vArithWord 0x20 1 vd src1 vs2 masked form)) s)

/-- EF_MUL: opcode 0x20, sub-operation 2 (04 R136, R164). -/
def execEfMul (p : PTile) (vd : Fin 32) (src1 : Fin 32) (vs2 : Fin 32) (masked : Bool) (form : Fin 4) (s : State) : Host.Outcome State Fault Refusal :=
  .next (issueOne p (opV p (vArithWord 0x20 2 vd src1 vs2 masked form)) s)

/-- EF_MLA: opcode 0x20, sub-operation 3 (04 R136, R164). -/
def execEfMla (p : PTile) (vd : Fin 32) (src1 : Fin 32) (vs2 : Fin 32) (masked : Bool) (form : Fin 4) (s : State) : Host.Outcome State Fault Refusal :=
  .next (issueOne p (opV p (vArithWord 0x20 3 vd src1 vs2 masked form)) s)

/-- EF_NMLA: opcode 0x20, sub-operation 4 (04 R136, R164). -/
def execEfNmla (p : PTile) (vd : Fin 32) (src1 : Fin 32) (vs2 : Fin 32) (masked : Bool) (form : Fin 4) (s : State) : Host.Outcome State Fault Refusal :=
  .next (issueOne p (opV p (vArithWord 0x20 4 vd src1 vs2 masked form)) s)

/-- EF_MLS: opcode 0x20, sub-operation 5 (04 R136, R164). -/
def execEfMls (p : PTile) (vd : Fin 32) (src1 : Fin 32) (vs2 : Fin 32) (masked : Bool) (form : Fin 4) (s : State) : Host.Outcome State Fault Refusal :=
  .next (issueOne p (opV p (vArithWord 0x20 5 vd src1 vs2 masked form)) s)

/-- EF_MIN: opcode 0x20, sub-operation 6 (04 R136, R164). -/
def execEfMin (p : PTile) (vd : Fin 32) (src1 : Fin 32) (vs2 : Fin 32) (masked : Bool) (form : Fin 4) (s : State) : Host.Outcome State Fault Refusal :=
  .next (issueOne p (opV p (vArithWord 0x20 6 vd src1 vs2 masked form)) s)

/-- EF_MAX: opcode 0x20, sub-operation 7 (04 R136, R164). -/
def execEfMax (p : PTile) (vd : Fin 32) (src1 : Fin 32) (vs2 : Fin 32) (masked : Bool) (form : Fin 4) (s : State) : Host.Outcome State Fault Refusal :=
  .next (issueOne p (opV p (vArithWord 0x20 7 vd src1 vs2 masked form)) s)

/-- EF_SGN: opcode 0x20, sub-operation 8 (04 R136, R164). -/
def execEfSgn (p : PTile) (vd : Fin 32) (src1 : Fin 32) (vs2 : Fin 32) (masked : Bool) (form : Fin 4) (s : State) : Host.Outcome State Fault Refusal :=
  .next (issueOne p (opV p (vArithWord 0x20 8 vd src1 vs2 masked form)) s)

/-- EF_SGNN: opcode 0x20, sub-operation 9 (04 R136, R164). -/
def execEfSgnn (p : PTile) (vd : Fin 32) (src1 : Fin 32) (vs2 : Fin 32) (masked : Bool) (form : Fin 4) (s : State) : Host.Outcome State Fault Refusal :=
  .next (issueOne p (opV p (vArithWord 0x20 9 vd src1 vs2 masked form)) s)

/-- EF_SGNX: opcode 0x20, sub-operation 10 (04 R136, R164). -/
def execEfSgnx (p : PTile) (vd : Fin 32) (src1 : Fin 32) (vs2 : Fin 32) (masked : Bool) (form : Fin 4) (s : State) : Host.Outcome State Fault Refusal :=
  .next (issueOne p (opV p (vArithWord 0x20 10 vd src1 vs2 masked form)) s)

/-- EF_DIV: opcode 0x21, sub-operation 0 (04 R136, R164). -/
def execEfDiv (p : PTile) (vd : Fin 32) (src1 : Fin 32) (vs2 : Fin 32) (masked : Bool) (form : Fin 4) (s : State) : Host.Outcome State Fault Refusal :=
  .next (issueOne p (opV p (vArithWord 0x21 0 vd src1 vs2 masked form)) s)

/-- EF_SQRT: opcode 0x21, sub-operation 1 (04 R136, R164). -/
def execEfSqrt (p : PTile) (vd : Fin 32) (src1 : Fin 32) (vs2 : Fin 32) (masked : Bool) (form : Fin 4) (s : State) : Host.Outcome State Fault Refusal :=
  .next (issueOne p (opV p (vArithWord 0x21 1 vd src1 vs2 masked form)) s)

/-- M_FEQ: opcode 0x22, sub-operation 0 (04 R136, R164). -/
def execMFeq (p : PTile) (vd : Fin 32) (src1 : Fin 32) (vs2 : Fin 32) (masked : Bool) (form : Fin 4) (s : State) : Host.Outcome State Fault Refusal :=
  .next (issueOne p (opV p (vArithWord 0x22 0 vd src1 vs2 masked form)) s)

/-- M_FLT: opcode 0x22, sub-operation 1 (04 R136, R164). -/
def execMFlt (p : PTile) (vd : Fin 32) (src1 : Fin 32) (vs2 : Fin 32) (masked : Bool) (form : Fin 4) (s : State) : Host.Outcome State Fault Refusal :=
  .next (issueOne p (opV p (vArithWord 0x22 1 vd src1 vs2 masked form)) s)

/-- M_FLE: opcode 0x22, sub-operation 2 (04 R136, R164). -/
def execMFle (p : PTile) (vd : Fin 32) (src1 : Fin 32) (vs2 : Fin 32) (masked : Bool) (form : Fin 4) (s : State) : Host.Outcome State Fault Refusal :=
  .next (issueOne p (opV p (vArithWord 0x22 2 vd src1 vs2 masked form)) s)

/-- EF_CVT_FI: opcode 0x23, sub-operation 0 (04 R136, R164). -/
def execEfCvtFi (p : PTile) (vd : Fin 32) (src1 : Fin 32) (vs2 : Fin 32) (masked : Bool) (form : Fin 4) (s : State) : Host.Outcome State Fault Refusal :=
  .next (issueOne p (opV p (vArithWord 0x23 0 vd src1 vs2 masked form)) s)

/-- EF_CVT_FU: opcode 0x23, sub-operation 1 (04 R136, R164). -/
def execEfCvtFu (p : PTile) (vd : Fin 32) (src1 : Fin 32) (vs2 : Fin 32) (masked : Bool) (form : Fin 4) (s : State) : Host.Outcome State Fault Refusal :=
  .next (issueOne p (opV p (vArithWord 0x23 1 vd src1 vs2 masked form)) s)

/-- EF_CVT_IF: opcode 0x23, sub-operation 2 (04 R136, R164). -/
def execEfCvtIf (p : PTile) (vd : Fin 32) (src1 : Fin 32) (vs2 : Fin 32) (masked : Bool) (form : Fin 4) (s : State) : Host.Outcome State Fault Refusal :=
  .next (issueOne p (opV p (vArithWord 0x23 2 vd src1 vs2 masked form)) s)

/-- EF_CVT_UF: opcode 0x23, sub-operation 3 (04 R136, R164). -/
def execEfCvtUf (p : PTile) (vd : Fin 32) (src1 : Fin 32) (vs2 : Fin 32) (masked : Bool) (form : Fin 4) (s : State) : Host.Outcome State Fault Refusal :=
  .next (issueOne p (opV p (vArithWord 0x23 3 vd src1 vs2 masked form)) s)

/-- WF_CVT: opcode 0x24, sub-operation 0 (04 R136, R164). -/
def execWfCvt (p : PTile) (vd : Fin 32) (src1 : Fin 32) (vs2 : Fin 32) (masked : Bool) (form : Fin 4) (s : State) : Host.Outcome State Fault Refusal :=
  .next (issueOne p (opV p (vArithWord 0x24 0 vd src1 vs2 masked form)) s)

/-- WF_MLA: opcode 0x24, sub-operation 1 (04 R136, R164). -/
def execWfMla (p : PTile) (vd : Fin 32) (src1 : Fin 32) (vs2 : Fin 32) (masked : Bool) (form : Fin 4) (s : State) : Host.Outcome State Fault Refusal :=
  .next (issueOne p (opV p (vArithWord 0x24 1 vd src1 vs2 masked form)) s)

/-- NF_CVT: opcode 0x25, sub-operation 0 (04 R136, R164). -/
def execNfCvt (p : PTile) (vd : Fin 32) (src1 : Fin 32) (vs2 : Fin 32) (masked : Bool) (form : Fin 4) (s : State) : Host.Outcome State Fault Refusal :=
  .next (issueOne p (opV p (vArithWord 0x25 0 vd src1 vs2 masked form)) s)

/-- RF_TREE: opcode 0x26, sub-operation 0 (04 R136, R164). -/
def execRfTree (p : PTile) (vd : Fin 32) (src1 : Fin 32) (vs2 : Fin 32) (masked : Bool) (form : Fin 4) (s : State) : Host.Outcome State Fault Refusal :=
  .next (issueOne p (opV p (vArithWord 0x26 0 vd src1 vs2 masked form)) s)

/-- RF_SEQ: opcode 0x26, sub-operation 1 (04 R136, R164). -/
def execRfSeq (p : PTile) (vd : Fin 32) (src1 : Fin 32) (vs2 : Fin 32) (masked : Bool) (form : Fin 4) (s : State) : Host.Outcome State Fault Refusal :=
  .next (issueOne p (opV p (vArithWord 0x26 1 vd src1 vs2 masked form)) s)

/-- RF_MAX: opcode 0x26, sub-operation 2 (04 R136, R164). -/
def execRfMax (p : PTile) (vd : Fin 32) (src1 : Fin 32) (vs2 : Fin 32) (masked : Bool) (form : Fin 4) (s : State) : Host.Outcome State Fault Refusal :=
  .next (issueOne p (opV p (vArithWord 0x26 2 vd src1 vs2 masked form)) s)

/-- RF_MIN: opcode 0x26, sub-operation 3 (04 R136, R164). -/
def execRfMin (p : PTile) (vd : Fin 32) (src1 : Fin 32) (vs2 : Fin 32) (masked : Bool) (form : Fin 4) (s : State) : Host.Outcome State Fault Refusal :=
  .next (issueOne p (opV p (vArithWord 0x26 3 vd src1 vs2 masked form)) s)

/-- FADD: scalar floating point, sub-operation 0 (04 R138, R153, R164). -/
def execFadd (p : PTile) (fd : Fin 32) (fs1 : Fin 32) (fs2 : Fin 32) (fs3 : Fin 32) (fmt64 : Bool) (s : State) : Host.Outcome State Fault Refusal :=
  .next (issueOne p (opV p (vFpWord 0 fd fs1 fs2 fs3 fmt64)) s)

/-- FSUB: scalar floating point, sub-operation 1 (04 R138, R153, R164). -/
def execFsub (p : PTile) (fd : Fin 32) (fs1 : Fin 32) (fs2 : Fin 32) (fs3 : Fin 32) (fmt64 : Bool) (s : State) : Host.Outcome State Fault Refusal :=
  .next (issueOne p (opV p (vFpWord 1 fd fs1 fs2 fs3 fmt64)) s)

/-- FMUL: scalar floating point, sub-operation 2 (04 R138, R153, R164). -/
def execFmul (p : PTile) (fd : Fin 32) (fs1 : Fin 32) (fs2 : Fin 32) (fs3 : Fin 32) (fmt64 : Bool) (s : State) : Host.Outcome State Fault Refusal :=
  .next (issueOne p (opV p (vFpWord 2 fd fs1 fs2 fs3 fmt64)) s)

/-- FMA: scalar floating point, sub-operation 3 (04 R138, R153, R164). -/
def execFma (p : PTile) (fd : Fin 32) (fs1 : Fin 32) (fs2 : Fin 32) (fs3 : Fin 32) (fmt64 : Bool) (s : State) : Host.Outcome State Fault Refusal :=
  .next (issueOne p (opV p (vFpWord 3 fd fs1 fs2 fs3 fmt64)) s)

/-- FMIN: scalar floating point, sub-operation 4 (04 R138, R153, R164). -/
def execFmin (p : PTile) (fd : Fin 32) (fs1 : Fin 32) (fs2 : Fin 32) (fs3 : Fin 32) (fmt64 : Bool) (s : State) : Host.Outcome State Fault Refusal :=
  .next (issueOne p (opV p (vFpWord 4 fd fs1 fs2 fs3 fmt64)) s)

/-- FMAX: scalar floating point, sub-operation 5 (04 R138, R153, R164). -/
def execFmax (p : PTile) (fd : Fin 32) (fs1 : Fin 32) (fs2 : Fin 32) (fs3 : Fin 32) (fmt64 : Bool) (s : State) : Host.Outcome State Fault Refusal :=
  .next (issueOne p (opV p (vFpWord 5 fd fs1 fs2 fs3 fmt64)) s)

/-- FDIV: scalar floating point, sub-operation 6 (04 R138, R153, R164). -/
def execFdiv (p : PTile) (fd : Fin 32) (fs1 : Fin 32) (fs2 : Fin 32) (fs3 : Fin 32) (fmt64 : Bool) (s : State) : Host.Outcome State Fault Refusal :=
  .next (issueOne p (opV p (vFpWord 6 fd fs1 fs2 fs3 fmt64)) s)

/-- FSQRT: scalar floating point, sub-operation 7 (04 R138, R153, R164). -/
def execFsqrt (p : PTile) (fd : Fin 32) (fs1 : Fin 32) (fs2 : Fin 32) (fs3 : Fin 32) (fmt64 : Bool) (s : State) : Host.Outcome State Fault Refusal :=
  .next (issueOne p (opV p (vFpWord 7 fd fs1 fs2 fs3 fmt64)) s)

/-- FGET: between g and f, sub-operation 0 (04 R138, R153, R164). -/
def execFget (p : PTile) (g : Fin 64) (f : Fin 32) (s : State) : Host.Outcome State Fault Refusal :=
  .next (issueOne p (opV p (vMoveWord 0 g f)) s)

/-- FPUT: between g and f, sub-operation 1 (04 R138, R153, R164). -/
def execFput (p : PTile) (g : Fin 64) (f : Fin 32) (s : State) : Host.Outcome State Fault Refusal :=
  .next (issueOne p (opV p (vMoveWord 1 g f)) s)

/-- FCVT_GF: between g and f, sub-operation 2 (04 R138, R153, R164). -/
def execFcvtGf (p : PTile) (g : Fin 64) (f : Fin 32) (s : State) : Host.Outcome State Fault Refusal :=
  .next (issueOne p (opV p (vMoveWord 2 g f)) s)

/-- FCVT_FG: between g and f, sub-operation 3 (04 R138, R153, R164). -/
def execFcvtFg (p : PTile) (g : Fin 64) (f : Fin 32) (s : State) : Host.Outcome State Fault Refusal :=
  .next (issueOne p (opV p (vMoveWord 3 g f)) s)

end Sys2Proof.Machine
end

