-- ==== Sys2Proof/Machine/Dispatch.lean ====
section
/-! DEFINITION. The dispatch of a command to its meaning, one arm per command. -/

namespace Sys2Proof.Machine

open Sys2Proof

/-- The effect of a command on everything but the queue. -/
def exec (i : Instr) (s : State) : Host.Outcome State Fault Refusal :=
  match i with
  | .tickBoundary => Sys2Proof.Machine.execTickBoundary s
  | .tickOutEnd => Sys2Proof.Machine.execTickOutEnd s
  | .stepBoundary => Sys2Proof.Machine.execStepBoundary s
  | .guardStart => Sys2Proof.Machine.execGuardStart s
  | .lbItemTake p => Sys2Proof.Machine.execLbItemTake p s
  | .itemTimeout p => Sys2Proof.Machine.execItemTimeout p s
  | .tickInEdge => Sys2Proof.Machine.execTickInEdge s
  | .tickInLoss => Sys2Proof.Machine.execTickInLoss s
  | .bundleIssue p => Sys2Proof.Machine.execBundleIssue p s
  | .nop p => Sys2Proof.Machine.execNop p s
  | .add p d a b => Sys2Proof.Machine.execAdd p d a b s
  | .sub p d a b => Sys2Proof.Machine.execSub p d a b s
  | .and p d a b => Sys2Proof.Machine.execAnd p d a b s
  | .or p d a b => Sys2Proof.Machine.execOr p d a b s
  | .xor p d a b => Sys2Proof.Machine.execXor p d a b s
  | .shl p d a b => Sys2Proof.Machine.execShl p d a b s
  | .shr p d a b => Sys2Proof.Machine.execShr p d a b s
  | .sar p d a b => Sys2Proof.Machine.execSar p d a b s
  | .min p d a b => Sys2Proof.Machine.execMin p d a b s
  | .max p d a b => Sys2Proof.Machine.execMax p d a b s
  | .cmpEq p d a b => Sys2Proof.Machine.execCmpEq p d a b s
  | .cmpLt p d a b => Sys2Proof.Machine.execCmpLt p d a b s
  | .cmpLtu p d a b => Sys2Proof.Machine.execCmpLtu p d a b s
  | .abs p d a => Sys2Proof.Machine.execAbs p d a s
  | .sel p d a b c => Sys2Proof.Machine.execSel p d a b c s
  | .clamp p d a b => Sys2Proof.Machine.execClamp p d a b s
  | .add4Bu p d a b => Sys2Proof.Machine.execAdd4Bu p d a b s
  | .avg4Bu p d a b => Sys2Proof.Machine.execAvg4Bu p d a b s
  | .sad4Bu p d a b => Sys2Proof.Machine.execSad4Bu p d a b s
  | .addi p d a imm => Sys2Proof.Machine.execAddi p d a imm s
  | .andi p d a imm => Sys2Proof.Machine.execAndi p d a imm s
  | .ori p d a imm => Sys2Proof.Machine.execOri p d a imm s
  | .xori p d a imm => Sys2Proof.Machine.execXori p d a imm s
  | .shli p d a imm => Sys2Proof.Machine.execShli p d a imm s
  | .shri p d a imm => Sys2Proof.Machine.execShri p d a imm s
  | .sari p d a imm => Sys2Proof.Machine.execSari p d a imm s
  | .cmpiEq p d a imm => Sys2Proof.Machine.execCmpiEq p d a imm s
  | .cmpiLt p d a imm => Sys2Proof.Machine.execCmpiLt p d a imm s
  | .cmpiLtu p d a imm => Sys2Proof.Machine.execCmpiLtu p d a imm s
  | .movi0 p d imm => Sys2Proof.Machine.execMovi0 p d imm s
  | .movi1 p d a imm => Sys2Proof.Machine.execMovi1 p d a imm s
  | .movi2 p d a imm => Sys2Proof.Machine.execMovi2 p d a imm s
  | .movi3 p d a imm => Sys2Proof.Machine.execMovi3 p d a imm s
  | .movi4 p d a imm => Sys2Proof.Machine.execMovi4 p d a imm s
  | .ldB p port d a m => Sys2Proof.Machine.execLdB p port d a m s
  | .ldBu p port d a m => Sys2Proof.Machine.execLdBu p port d a m s
  | .ldH p port d a m => Sys2Proof.Machine.execLdH p port d a m s
  | .ldHu p port d a m => Sys2Proof.Machine.execLdHu p port d a m s
  | .ldW p port d a m => Sys2Proof.Machine.execLdW p port d a m s
  | .ldWu p port d a m => Sys2Proof.Machine.execLdWu p port d a m s
  | .ldD p port d a m => Sys2Proof.Machine.execLdD p port d a m s
  | .stB p port d a m => Sys2Proof.Machine.execStB p port d a m s
  | .stH p port d a m => Sys2Proof.Machine.execStH p port d a m s
  | .stW p port d a m => Sys2Proof.Machine.execStW p port d a m s
  | .stD p port d a m => Sys2Proof.Machine.execStD p port d a m s
  | .aupd p port a inc => Sys2Proof.Machine.execAupd p port a inc s
  | .mva p port d a => Sys2Proof.Machine.execMva p port d a s
  | .mvg p port d a => Sys2Proof.Machine.execMvg p port d a s
  | .mul p d a b => Sys2Proof.Machine.execMul p d a b s
  | .mulh p d a b => Sys2Proof.Machine.execMulh p d a b s
  | .mulrH p d a b => Sys2Proof.Machine.execMulrH p d a b s
  | .mac p n a b sub => Sys2Proof.Machine.execMac p n a b sub s
  | .msu p n a b sub => Sys2Proof.Machine.execMsu p n a b sub s
  | .mac2H p n a b sub => Sys2Proof.Machine.execMac2H p n a b sub s
  | .mac4B p n a b sub => Sys2Proof.Machine.execMac4B p n a b sub s
  | .accClr p n => Sys2Proof.Machine.execAccClr p n s
  | .accLd p n a shift => Sys2Proof.Machine.execAccLd p n a shift s
  | .accMv p d n shift sub => Sys2Proof.Machine.execAccMv p d n shift sub s
  | .accSh p n a => Sys2Proof.Machine.execAccSh p n a s
  | .norm p d n => Sys2Proof.Machine.execNorm p d n s
  | .exp p d n => Sys2Proof.Machine.execExp p d n s
  | .expmax p d n b => Sys2Proof.Machine.execExpmax p d n b s
  | .br p off => Sys2Proof.Machine.execBr p off s
  | .brZ p g off => Sys2Proof.Machine.execBrZ p g off s
  | .brNz p g off => Sys2Proof.Machine.execBrNz p g off s
  | .call p off => Sys2Proof.Machine.execCall p off s
  | .brR p g => Sys2Proof.Machine.execBrR p g s
  | .loopSet p lvl g start len => Sys2Proof.Machine.execLoopSet p lvl g start len s
  | .loopRest p lvl gc gs ge => Sys2Proof.Machine.execLoopRest p lvl gc gs ge s
  | .loopClr p lvl => Sys2Proof.Machine.execLoopClr p lvl s
  | .cbSet p n g => Sys2Proof.Machine.execCbSet p n g s
  | .mtc p g n => Sys2Proof.Machine.execMtc p g n s
  | .mfc p d n => Sys2Proof.Machine.execMfc p d n s
  | .intPendingClear p g => Sys2Proof.Machine.execIntPendingClear p g s
  | .bellFromClear p g => Sys2Proof.Machine.execBellFromClear p g s
  | .rot p => Sys2Proof.Machine.execRot p s
  | .nint p n => Sys2Proof.Machine.execNint p n s
  | .mark p f => Sys2Proof.Machine.execMark p f s
  | .dmaStart p c vs => Sys2Proof.Machine.execDmaStart p c vs s
  | .arrStart p vs => Sys2Proof.Machine.execArrStart p vs s
  | .waitDma p c => Sys2Proof.Machine.execWaitDma p c s
  | .waitFlag p g a => Sys2Proof.Machine.execWaitFlag p g a s
  | .waitRelease p => Sys2Proof.Machine.execWaitRelease p s
  | .timeRd p d => Sys2Proof.Machine.execTimeRd p d s
  | .rng p d => Sys2Proof.Machine.execRng p d s
  | .c0Trig p h => Sys2Proof.Machine.execC0Trig p h s
  | .c0Bell p l h => Sys2Proof.Machine.execC0Bell p l h s
  | .c1Bell p l => Sys2Proof.Machine.execC1Bell p l s
  | .emit p a => Sys2Proof.Machine.execEmit p a s
  | .c0End p => Sys2Proof.Machine.execC0End p s
  | .reti p => Sys2Proof.Machine.execReti p s
  | .endItem p => Sys2Proof.Machine.execEndItem p s
  | .waitReissue p => Sys2Proof.Machine.execWaitReissue p s
  | .vectorReissue p => Sys2Proof.Machine.execVectorReissue p s
  | .interruptEntry p => Sys2Proof.Machine.execInterruptEntry p s
  | .class0TriggerDelivery p => Sys2Proof.Machine.execClass0TriggerDelivery p s
  | .class0Dispatch p => Sys2Proof.Machine.execClass0Dispatch p s
  | .class0Overrun p => Sys2Proof.Machine.execClass0Overrun p s
  | .doorbellDelivery p => Sys2Proof.Machine.execDoorbellDelivery p s
  | .stepRerun p => Sys2Proof.Machine.execStepRerun p s
  | .setvl p gd gs ew => Sys2Proof.Machine.execSetvl p gd gs ew s
  | .vload p vd a upd vob masked => Sys2Proof.Machine.execVload p vd a upd vob masked s
  | .vloadS p vd a g upd vob masked => Sys2Proof.Machine.execVloadS p vd a g upd vob masked s
  | .vgather p vd a vs2 scale vob masked => Sys2Proof.Machine.execVgather p vd a vs2 scale vob masked s
  | .vdeal2 p vd a upd masked => Sys2Proof.Machine.execVdeal2 p vd a upd masked s
  | .vdeal3 p vd a upd masked => Sys2Proof.Machine.execVdeal3 p vd a upd masked s
  | .vdeal4 p vd a upd masked => Sys2Proof.Machine.execVdeal4 p vd a upd masked s
  | .vstore p vs a upd vob masked => Sys2Proof.Machine.execVstore p vs a upd vob masked s
  | .vstoreS p vs a g upd vob masked => Sys2Proof.Machine.execVstoreS p vs a g upd vob masked s
  | .vscatter p vs a vs2 scale vob masked => Sys2Proof.Machine.execVscatter p vs a vs2 scale vob masked s
  | .vsettle p => Sys2Proof.Machine.execVsettle p s
  | .vpick p gd vs2 gi => Sys2Proof.Machine.execVpick p gd vs2 gi s
  | .vplace p vd gs gi => Sys2Proof.Machine.execVplace p vd gs gi s
  | .vfirst p gd vs2 => Sys2Proof.Machine.execVfirst p gd vs2 s
  | .eAdd p vd src1 vs2 masked form => Sys2Proof.Machine.execEAdd p vd src1 vs2 masked form s
  | .eSub p vd src1 vs2 masked form => Sys2Proof.Machine.execESub p vd src1 vs2 masked form s
  | .eRsub p vd src1 vs2 masked form => Sys2Proof.Machine.execERsub p vd src1 vs2 masked form s
  | .eAnd p vd src1 vs2 masked form => Sys2Proof.Machine.execEAnd p vd src1 vs2 masked form s
  | .eOr p vd src1 vs2 masked form => Sys2Proof.Machine.execEOr p vd src1 vs2 masked form s
  | .eXor p vd src1 vs2 masked form => Sys2Proof.Machine.execEXor p vd src1 vs2 masked form s
  | .eShl p vd src1 vs2 masked form => Sys2Proof.Machine.execEShl p vd src1 vs2 masked form s
  | .eShr p vd src1 vs2 masked form => Sys2Proof.Machine.execEShr p vd src1 vs2 masked form s
  | .eSar p vd src1 vs2 masked form => Sys2Proof.Machine.execESar p vd src1 vs2 masked form s
  | .eMin p vd src1 vs2 masked form => Sys2Proof.Machine.execEMin p vd src1 vs2 masked form s
  | .eMinu p vd src1 vs2 masked form => Sys2Proof.Machine.execEMinu p vd src1 vs2 masked form s
  | .eMax p vd src1 vs2 masked form => Sys2Proof.Machine.execEMax p vd src1 vs2 masked form s
  | .eMaxu p vd src1 vs2 masked form => Sys2Proof.Machine.execEMaxu p vd src1 vs2 masked form s
  | .eAdds p vd src1 vs2 masked form => Sys2Proof.Machine.execEAdds p vd src1 vs2 masked form s
  | .eAddsu p vd src1 vs2 masked form => Sys2Proof.Machine.execEAddsu p vd src1 vs2 masked form s
  | .eSubs p vd src1 vs2 masked form => Sys2Proof.Machine.execESubs p vd src1 vs2 masked form s
  | .eSubsu p vd src1 vs2 masked form => Sys2Proof.Machine.execESubsu p vd src1 vs2 masked form s
  | .eMul p vd src1 vs2 masked form => Sys2Proof.Machine.execEMul p vd src1 vs2 masked form s
  | .eMulh p vd src1 vs2 masked form => Sys2Proof.Machine.execEMulh p vd src1 vs2 masked form s
  | .eMulhu p vd src1 vs2 masked form => Sys2Proof.Machine.execEMulhu p vd src1 vs2 masked form s
  | .eMla p vd src1 vs2 masked form => Sys2Proof.Machine.execEMla p vd src1 vs2 masked form s
  | .eMls p vd src1 vs2 masked form => Sys2Proof.Machine.execEMls p vd src1 vs2 masked form s
  | .wAdd p vd src1 vs2 masked form => Sys2Proof.Machine.execWAdd p vd src1 vs2 masked form s
  | .wAddu p vd src1 vs2 masked form => Sys2Proof.Machine.execWAddu p vd src1 vs2 masked form s
  | .wSub p vd src1 vs2 masked form => Sys2Proof.Machine.execWSub p vd src1 vs2 masked form s
  | .wSubu p vd src1 vs2 masked form => Sys2Proof.Machine.execWSubu p vd src1 vs2 masked form s
  | .wMul p vd src1 vs2 masked form => Sys2Proof.Machine.execWMul p vd src1 vs2 masked form s
  | .wMulu p vd src1 vs2 masked form => Sys2Proof.Machine.execWMulu p vd src1 vs2 masked form s
  | .wMulsu p vd src1 vs2 masked form => Sys2Proof.Machine.execWMulsu p vd src1 vs2 masked form s
  | .wMla p vd src1 vs2 masked form => Sys2Proof.Machine.execWMla p vd src1 vs2 masked form s
  | .wMlau p vd src1 vs2 masked form => Sys2Proof.Machine.execWMlau p vd src1 vs2 masked form s
  | .nShr p vd src1 vs2 masked form => Sys2Proof.Machine.execNShr p vd src1 vs2 masked form s
  | .nSar p vd src1 vs2 masked form => Sys2Proof.Machine.execNSar p vd src1 vs2 masked form s
  | .nClip p vd src1 vs2 masked form => Sys2Proof.Machine.execNClip p vd src1 vs2 masked form s
  | .nClipu p vd src1 vs2 masked form => Sys2Proof.Machine.execNClipu p vd src1 vs2 masked form s
  | .vdot4Ss p vd src1 vs2 masked form => Sys2Proof.Machine.execVdot4Ss p vd src1 vs2 masked form s
  | .vdot4Uu p vd src1 vs2 masked form => Sys2Proof.Machine.execVdot4Uu p vd src1 vs2 masked form s
  | .vdot4Su p vd src1 vs2 masked form => Sys2Proof.Machine.execVdot4Su p vd src1 vs2 masked form s
  | .vdot2Ss p vd src1 vs2 masked form => Sys2Proof.Machine.execVdot2Ss p vd src1 vs2 masked form s
  | .vdot2Uu p vd src1 vs2 masked form => Sys2Proof.Machine.execVdot2Uu p vd src1 vs2 masked form s
  | .vdot2Su p vd src1 vs2 masked form => Sys2Proof.Machine.execVdot2Su p vd src1 vs2 masked form s
  | .mEq p vd src1 vs2 masked form => Sys2Proof.Machine.execMEq p vd src1 vs2 masked form s
  | .mNe p vd src1 vs2 masked form => Sys2Proof.Machine.execMNe p vd src1 vs2 masked form s
  | .mLt p vd src1 vs2 masked form => Sys2Proof.Machine.execMLt p vd src1 vs2 masked form s
  | .mLtu p vd src1 vs2 masked form => Sys2Proof.Machine.execMLtu p vd src1 vs2 masked form s
  | .mLe p vd src1 vs2 masked form => Sys2Proof.Machine.execMLe p vd src1 vs2 masked form s
  | .mLeu p vd src1 vs2 masked form => Sys2Proof.Machine.execMLeu p vd src1 vs2 masked form s
  | .eBlend p vd src1 vs2 masked form => Sys2Proof.Machine.execEBlend p vd src1 vs2 masked form s
  | .eFill p vd src1 vs2 masked form => Sys2Proof.Machine.execEFill p vd src1 vs2 masked form s
  | .xUp p vd src1 vs2 masked form => Sys2Proof.Machine.execXUp p vd src1 vs2 masked form s
  | .xDown p vd src1 vs2 masked form => Sys2Proof.Machine.execXDown p vd src1 vs2 masked form s
  | .xPerm p vd src1 vs2 masked form => Sys2Proof.Machine.execXPerm p vd src1 vs2 masked form s
  | .rSum p vd src1 vs2 masked form => Sys2Proof.Machine.execRSum p vd src1 vs2 masked form s
  | .rMax p vd src1 vs2 masked form => Sys2Proof.Machine.execRMax p vd src1 vs2 masked form s
  | .rMaxu p vd src1 vs2 masked form => Sys2Proof.Machine.execRMaxu p vd src1 vs2 masked form s
  | .rMin p vd src1 vs2 masked form => Sys2Proof.Machine.execRMin p vd src1 vs2 masked form s
  | .rMinu p vd src1 vs2 masked form => Sys2Proof.Machine.execRMinu p vd src1 vs2 masked form s
  | .rAnd p vd src1 vs2 masked form => Sys2Proof.Machine.execRAnd p vd src1 vs2 masked form s
  | .rOr p vd src1 vs2 masked form => Sys2Proof.Machine.execROr p vd src1 vs2 masked form s
  | .rXor p vd src1 vs2 masked form => Sys2Proof.Machine.execRXor p vd src1 vs2 masked form s
  | .efAdd p vd src1 vs2 masked form => Sys2Proof.Machine.execEfAdd p vd src1 vs2 masked form s
  | .efSub p vd src1 vs2 masked form => Sys2Proof.Machine.execEfSub p vd src1 vs2 masked form s
  | .efMul p vd src1 vs2 masked form => Sys2Proof.Machine.execEfMul p vd src1 vs2 masked form s
  | .efMla p vd src1 vs2 masked form => Sys2Proof.Machine.execEfMla p vd src1 vs2 masked form s
  | .efNmla p vd src1 vs2 masked form => Sys2Proof.Machine.execEfNmla p vd src1 vs2 masked form s
  | .efMls p vd src1 vs2 masked form => Sys2Proof.Machine.execEfMls p vd src1 vs2 masked form s
  | .efMin p vd src1 vs2 masked form => Sys2Proof.Machine.execEfMin p vd src1 vs2 masked form s
  | .efMax p vd src1 vs2 masked form => Sys2Proof.Machine.execEfMax p vd src1 vs2 masked form s
  | .efSgn p vd src1 vs2 masked form => Sys2Proof.Machine.execEfSgn p vd src1 vs2 masked form s
  | .efSgnn p vd src1 vs2 masked form => Sys2Proof.Machine.execEfSgnn p vd src1 vs2 masked form s
  | .efSgnx p vd src1 vs2 masked form => Sys2Proof.Machine.execEfSgnx p vd src1 vs2 masked form s
  | .efDiv p vd src1 vs2 masked form => Sys2Proof.Machine.execEfDiv p vd src1 vs2 masked form s
  | .efSqrt p vd src1 vs2 masked form => Sys2Proof.Machine.execEfSqrt p vd src1 vs2 masked form s
  | .mFeq p vd src1 vs2 masked form => Sys2Proof.Machine.execMFeq p vd src1 vs2 masked form s
  | .mFlt p vd src1 vs2 masked form => Sys2Proof.Machine.execMFlt p vd src1 vs2 masked form s
  | .mFle p vd src1 vs2 masked form => Sys2Proof.Machine.execMFle p vd src1 vs2 masked form s
  | .efCvtFi p vd src1 vs2 masked form => Sys2Proof.Machine.execEfCvtFi p vd src1 vs2 masked form s
  | .efCvtFu p vd src1 vs2 masked form => Sys2Proof.Machine.execEfCvtFu p vd src1 vs2 masked form s
  | .efCvtIf p vd src1 vs2 masked form => Sys2Proof.Machine.execEfCvtIf p vd src1 vs2 masked form s
  | .efCvtUf p vd src1 vs2 masked form => Sys2Proof.Machine.execEfCvtUf p vd src1 vs2 masked form s
  | .wfCvt p vd src1 vs2 masked form => Sys2Proof.Machine.execWfCvt p vd src1 vs2 masked form s
  | .wfMla p vd src1 vs2 masked form => Sys2Proof.Machine.execWfMla p vd src1 vs2 masked form s
  | .nfCvt p vd src1 vs2 masked form => Sys2Proof.Machine.execNfCvt p vd src1 vs2 masked form s
  | .rfTree p vd src1 vs2 masked form => Sys2Proof.Machine.execRfTree p vd src1 vs2 masked form s
  | .rfSeq p vd src1 vs2 masked form => Sys2Proof.Machine.execRfSeq p vd src1 vs2 masked form s
  | .rfMax p vd src1 vs2 masked form => Sys2Proof.Machine.execRfMax p vd src1 vs2 masked form s
  | .rfMin p vd src1 vs2 masked form => Sys2Proof.Machine.execRfMin p vd src1 vs2 masked form s
  | .fadd p fd fs1 fs2 fs3 fmt64 => Sys2Proof.Machine.execFadd p fd fs1 fs2 fs3 fmt64 s
  | .fsub p fd fs1 fs2 fs3 fmt64 => Sys2Proof.Machine.execFsub p fd fs1 fs2 fs3 fmt64 s
  | .fmul p fd fs1 fs2 fs3 fmt64 => Sys2Proof.Machine.execFmul p fd fs1 fs2 fs3 fmt64 s
  | .fma p fd fs1 fs2 fs3 fmt64 => Sys2Proof.Machine.execFma p fd fs1 fs2 fs3 fmt64 s
  | .fmin p fd fs1 fs2 fs3 fmt64 => Sys2Proof.Machine.execFmin p fd fs1 fs2 fs3 fmt64 s
  | .fmax p fd fs1 fs2 fs3 fmt64 => Sys2Proof.Machine.execFmax p fd fs1 fs2 fs3 fmt64 s
  | .fdiv p fd fs1 fs2 fs3 fmt64 => Sys2Proof.Machine.execFdiv p fd fs1 fs2 fs3 fmt64 s
  | .fsqrt p fd fs1 fs2 fs3 fmt64 => Sys2Proof.Machine.execFsqrt p fd fs1 fs2 fs3 fmt64 s
  | .fget p g f => Sys2Proof.Machine.execFget p g f s
  | .fput p g f => Sys2Proof.Machine.execFput p g f s
  | .fcvtGf p g f => Sys2Proof.Machine.execFcvtGf p g f s
  | .fcvtFg p g f => Sys2Proof.Machine.execFcvtFg p g f s
  | .arraySpanStart p => Sys2Proof.Machine.execArraySpanStart p s
  | .arrayAccUpdate p => Sys2Proof.Machine.execArrayAccUpdate p s
  | .arrayDrainRead p n => Sys2Proof.Machine.execArrayDrainRead p n s
  | .arrayDrainWrite p => Sys2Proof.Machine.execArrayDrainWrite p s
  | .arrayComplete p => Sys2Proof.Machine.execArrayComplete p s
  | .arrayBoxListRead p => Sys2Proof.Machine.execArrayBoxListRead p s
  | .cropOutputWrite p => Sys2Proof.Machine.execCropOutputWrite p s
  | .dmaDescActivate p c => Sys2Proof.Machine.execDmaDescActivate p c s
  | .dmaBurstRead p c => Sys2Proof.Machine.execDmaBurstRead p c s
  | .dmaReadDeliver p c => Sys2Proof.Machine.execDmaReadDeliver p c s
  | .dmaBurstWrite p c => Sys2Proof.Machine.execDmaBurstWrite p c s
  | .dmaDescComplete p c => Sys2Proof.Machine.execDmaDescComplete p c s
  | .dmaAbort p g => Sys2Proof.Machine.execDmaAbort p g s
  | .dmaAbortComplete p c => Sys2Proof.Machine.execDmaAbortComplete p c s
  | .dmaEngineStopComplete p => Sys2Proof.Machine.execDmaEngineStopComplete p s
  | .dmaEngineClear p g => Sys2Proof.Machine.execDmaEngineClear p g s
  | .qcrossRemove p g => Sys2Proof.Machine.execQcrossRemove p g s
  | .queueSlot => Sys2Proof.Machine.execQueueSlot s
  | .pointerSweepComplete => Sys2Proof.Machine.execPointerSweepComplete s
  | .memEngineDone p c => Sys2Proof.Machine.execMemEngineDone p c s
  | .hbmPartialWriteback granule => Sys2Proof.Machine.execHbmPartialWriteback granule s
  | .hbmRefreshSlot c => Sys2Proof.Machine.execHbmRefreshSlot c s
  | .hbmTempChange degrees => Sys2Proof.Machine.execHbmTempChange degrees s
  | .hbmSoftRemap row => Sys2Proof.Machine.execHbmSoftRemap row s
  | .meadowRefill slot => Sys2Proof.Machine.execMeadowRefill slot s
  | .scrubEnd p => Sys2Proof.Machine.execScrubEnd p s
  | .rtpPacketReceive e f => Sys2Proof.Machine.execRtpPacketReceive e f s
  | .multicastJoin e c => Sys2Proof.Machine.execMulticastJoin e c s
  | .multicastJoinRepeat e c => Sys2Proof.Machine.execMulticastJoinRepeat e c s
  | .igmpQuery e h group => Sys2Proof.Machine.execIgmpQuery e h group s
  | .arpRequest e h mac ip target => Sys2Proof.Machine.execArpRequest e h mac ip target s
  | .neighborSolicitation e h src target => Sys2Proof.Machine.execNeighborSolicitation e h src target s
  | .icmpEchoRequest e h src dst data => Sys2Proof.Machine.execIcmpEchoRequest e h src dst data s
  | .frameDrop e h kind => Sys2Proof.Machine.execFrameDrop e h kind s
  | .decodeUnitTake => Sys2Proof.Machine.execDecodeUnitTake s
  | .decodeUnitDone g => Sys2Proof.Machine.execDecodeUnitDone g s
  | .decodeEngineFault g => Sys2Proof.Machine.execDecodeEngineFault g s
  | .portLinkChange e up phy fec => Sys2Proof.Machine.execPortLinkChange e up phy fec s
  | .preemptVerify e => Sys2Proof.Machine.execPreemptVerify e s
  | .preemptVerifyResponse e => Sys2Proof.Machine.execPreemptVerifyResponse e s
  | .gclEntryAdvance e => Sys2Proof.Machine.execGclEntryAdvance e s
  | .gclListSwitch e => Sys2Proof.Machine.execGclListSwitch e s
  | .frerRecoveryReset stream => Sys2Proof.Machine.execFrerRecoveryReset stream s
  | .mkpduReceive e sci prio ok sak => Sys2Proof.Machine.execMkpduReceive e sci prio ok sak s
  | .mkaHello e => Sys2Proof.Machine.execMkaHello e s
  | .mkaLifeExpire e => Sys2Proof.Machine.execMkaLifeExpire e s
  | .ptpSyncReceive e h master => Sys2Proof.Machine.execPtpSyncReceive e h master s
  | .ptpAnnounceReceive e h gm prio => Sys2Proof.Machine.execPtpAnnounceReceive e h gm prio s
  | .ptpPdelayTimer e => Sys2Proof.Machine.execPtpPdelayTimer e s
  | .ptpPdelayReqReceive e h seq => Sys2Proof.Machine.execPtpPdelayReqReceive e h seq s
  | .ptpPdelayRespReceive e h seq turn => Sys2Proof.Machine.execPtpPdelayRespReceive e h seq turn s
  | .ptpSyncTimeout e => Sys2Proof.Machine.execPtpSyncTimeout e s
  | .alarmEgress => Sys2Proof.Machine.execAlarmEgress s
  | .alarmPulseEnd => Sys2Proof.Machine.execAlarmPulseEnd s
  | .resultEgressSend => Sys2Proof.Machine.execResultEgressSend s
  | .recordSetClose => Sys2Proof.Machine.execRecordSetClose s
  | .onyxSealSigned => Sys2Proof.Machine.execOnyxSealSigned s
  | .saveDigestComplete => Sys2Proof.Machine.execSaveDigestComplete s
  | .resumeVerifyComplete => Sys2Proof.Machine.execResumeVerifyComplete s
  | .hello e f => Sys2Proof.Machine.execHello e f s
  | .proof e f num ok sig => Sys2Proof.Machine.execProof e f num ok sig s
  | .handshakeExpire num => Sys2Proof.Machine.execHandshakeExpire num s
  | .alaustRead m entries => Sys2Proof.Machine.execAlaustRead m entries s
  | .alaustWrite m entries => Sys2Proof.Machine.execAlaustWrite m entries s
  | .alaustCommit m target => Sys2Proof.Machine.execAlaustCommit m target s
  | .commitRequest num target => Sys2Proof.Machine.execCommitRequest num target s
  | .commitValidationEnd => Sys2Proof.Machine.execCommitValidationEnd s
  | .alaustDiscard m => Sys2Proof.Machine.execAlaustDiscard m s
  | .commitDiscard num => Sys2Proof.Machine.execCommitDiscard num s
  | .bulkOpen m target flags reserved length first digest => Sys2Proof.Machine.execBulkOpen m target flags reserved length first digest s
  | .bulkData m head seg bytes => Sys2Proof.Machine.execBulkData m head seg bytes s
  | .bulkAck m id next map => Sys2Proof.Machine.execBulkAck m id next map s
  | .bulkAckTimer id => Sys2Proof.Machine.execBulkAckTimer id s
  | .bulkResendTimer id seg => Sys2Proof.Machine.execBulkResendTimer id seg s
  | .bulkClose m id => Sys2Proof.Machine.execBulkClose m id s
  | .bulkVerifyDone id => Sys2Proof.Machine.execBulkVerifyDone id s
  | .bulkTimeout id => Sys2Proof.Machine.execBulkTimeout id s
  | .notify => Sys2Proof.Machine.execNotify s
  | .notifyResend num nseq => Sys2Proof.Machine.execNotifyResend num nseq s
  | .notifyAck m nseq => Sys2Proof.Machine.execNotifyAck m nseq s
  | .keepalive m => Sys2Proof.Machine.execKeepalive m s
  | .alaustEnd num host => Sys2Proof.Machine.execAlaustEnd num host s
  | .sessionIdleTimeout num => Sys2Proof.Machine.execSessionIdleTimeout num s
  | .i2cRead pec index sub offset length => Sys2Proof.Machine.execI2cRead pec index sub offset length s
  | .i2cWrite pec index sub offset data => Sys2Proof.Machine.execI2cWrite pec index sub offset data s
  | .i2cResponse => Sys2Proof.Machine.execI2cResponse s
  | .macsecCakWrite e key => Sys2Proof.Machine.execMacsecCakWrite e key s
  | .testDataRead offset length => Sys2Proof.Machine.execTestDataRead offset length s
  | .testDataWrite offset bytes => Sys2Proof.Machine.execTestDataWrite offset bytes s
  | .testInject v => Sys2Proof.Machine.execTestInject v s
  | .faultClear on => Sys2Proof.Machine.execFaultClear on s
  | .faultTestAlarm v => Sys2Proof.Machine.execFaultTestAlarm v s
  | .lcTransition state debug => Sys2Proof.Machine.execLcTransition state debug s
  | .lcPkgSvnRaise v => Sys2Proof.Machine.execLcPkgSvnRaise v s
  | .keepModelDelete digest => Sys2Proof.Machine.execKeepModelDelete digest s
  | .firmwareSwitch target => Sys2Proof.Machine.execFirmwareSwitch target s
  | .resetRequest v => Sys2Proof.Machine.execResetRequest v s
  | .berylWriteFrame n h a last offset tag payload => Sys2Proof.Machine.execBerylWriteFrame n h a last offset tag payload s
  | .berylIdleFrame n h => Sys2Proof.Machine.execBerylIdleFrame n h s
  | .berylBadFrame n => Sys2Proof.Machine.execBerylBadFrame n s
  | .berylTickFrame n h a tick period hops => Sys2Proof.Machine.execBerylTickFrame n h a tick period hops s
  | .windowGrant n h a offset size credits => Sys2Proof.Machine.execWindowGrant n h a offset size credits s
  | .windowCloseNotice n h a => Sys2Proof.Machine.execWindowCloseNotice n h a s
  | .windowFinalNotice n h a => Sys2Proof.Machine.execWindowFinalNotice n h a s
  | .berylEgressSlot n => Sys2Proof.Machine.execBerylEgressSlot n s
  | .linkTrainingDone n peer delay loop_ => Sys2Proof.Machine.execLinkTrainingDone n peer delay loop_ s
  | .berylDownLimit n => Sys2Proof.Machine.execBerylDownLimit n s
  | .berylLaneSpare n => Sys2Proof.Machine.execBerylLaneSpare n s
  | .lsinLoss => Sys2Proof.Machine.execLsinLoss s
  | .lsinRestore => Sys2Proof.Machine.execLsinRestore s
  | .bistRotation r => Sys2Proof.Machine.execBistRotation r s
  | .bistEnd p pass => Sys2Proof.Machine.execBistEnd p pass s
  | .regionMonitorTrip r supply long => Sys2Proof.Machine.execRegionMonitorTrip r supply long s
  | .trngHealthFail g => Sys2Proof.Machine.execTrngHealthFail g s
  | .controllerLockstep => Sys2Proof.Machine.execControllerLockstep s
  | .controllerRestartDone => Sys2Proof.Machine.execControllerRestartDone s
  | .enclaveSelftest pass retest => Sys2Proof.Machine.execEnclaveSelftest pass retest s
  | .checkpointCommit => Sys2Proof.Machine.execCheckpointCommit s
  | .planActivationLoad => Sys2Proof.Machine.execPlanActivationLoad s
  | .firmwareRewriteDone => Sys2Proof.Machine.execFirmwareRewriteDone s
  | .pwrFailNFall => Sys2Proof.Machine.execPwrFailNFall s
  | .pwrFailAccept => Sys2Proof.Machine.execPwrFailAccept s
  | .powerFailCommitEnd => Sys2Proof.Machine.execPowerFailCommitEnd s
  | .pwrFailNReturn => Sys2Proof.Machine.execPwrFailNReturn s
  | .porstNLow => Sys2Proof.Machine.execPorstNLow s
  | .porstNRise bootMode addr => Sys2Proof.Machine.execPorstNRise bootMode addr s
  | .fusesSensed => Sys2Proof.Machine.execFusesSensed s
  | .hbmTrained => Sys2Proof.Machine.execHbmTrained s
  | .imageReadDone => Sys2Proof.Machine.execImageReadDone s
  | .imageVerified => Sys2Proof.Machine.execImageVerified s
  | .firmwareSelftestDone => Sys2Proof.Machine.execFirmwareSelftestDone s
  | .journalReplayDone dead => Sys2Proof.Machine.execJournalReplayDone dead s
  | .wipeDone => Sys2Proof.Machine.execWipeDone s
  | .selfTestDone tiles engines => Sys2Proof.Machine.execSelfTestDone tiles engines s
  | .restartLockWait => Sys2Proof.Machine.execRestartLockWait s
  | .recoveryRequest e => Sys2Proof.Machine.execRecoveryRequest e s
  | .recoveryOffer e host length digest => Sys2Proof.Machine.execRecoveryOffer e host length digest s
  | .recoveryData e host offset bytes => Sys2Proof.Machine.execRecoveryData e host offset bytes s
  | .recoveryReadRepeat => Sys2Proof.Machine.execRecoveryReadRepeat s
  | .extestLoad => Sys2Proof.Machine.execExtestLoad s
  | .powerMeasure mw junction rails => Sys2Proof.Machine.execPowerMeasure mw junction rails s
  | .throttleUpdate => Sys2Proof.Machine.execThrottleUpdate s
  | .thermalLimit degrees => Sys2Proof.Machine.execThermalLimit degrees s
  | .thermalTrip degrees => Sys2Proof.Machine.execThermalTrip degrees s
  | .supplyRange rail mv => Sys2Proof.Machine.execSupplyRange rail mv s
  | .supplyFail rail => Sys2Proof.Machine.execSupplyFail rail s
  | .pllLockLoss pll => Sys2Proof.Machine.execPllLockLoss pll s
  | .refclkLoss eth => Sys2Proof.Machine.execRefclkLoss eth s
  | .refclkReturn => Sys2Proof.Machine.execRefclkReturn s
  | .wakeAdmissionSlot => Sys2Proof.Machine.execWakeAdmissionSlot s
  | .domainInRun d => Sys2Proof.Machine.execDomainInRun d s
  | .tileLower p => Sys2Proof.Machine.execTileLower p s
  | .ppsOutSecond => Sys2Proof.Machine.execPpsOutSecond s
  | .ppsInEdge => Sys2Proof.Machine.execPpsInEdge s
  | .ppsOutEnd => Sys2Proof.Machine.execPpsOutEnd s
  | .tickFrameLoss => Sys2Proof.Machine.execTickFrameLoss s
  | .ethRefclkReturn => Sys2Proof.Machine.execEthRefclkReturn s
  | .firmwareSelfCheckDone pass => Sys2Proof.Machine.execFirmwareSelfCheckDone pass s
  | .packageDirJournal digest => Sys2Proof.Machine.execPackageDirJournal digest s

end Sys2Proof.Machine
end

