-- ==== Sys2Proof/Safety.lean ====
section
/-! DEFINITION. The words the statements use: canonical memories, what a slot operation may name, results in flight, and states that differ in one tile only. -/

namespace Sys2Proof.Machine

open Sys2Proof

/-- The four memories of a tile are in canonical form. -/
def tileWf (t : Tile) : Bool := memWf t.core && memWf t.wbuf && memWf t.abuf && memWf t.vob

/-- Every memory of the part is in canonical form: addresses strictly rising, no byte listed that equals 0. -/
def MemoriesWf (s : State) : Prop :=
  memWf s.meadow.mem = true ∧ memWf s.hbm.mem = true ∧ ∀ p : PTile, tileWf (tile s p) = true

/-- The names of general registers are open to the context that runs on the tile: a class-0 handler has g0 to g31 (03 R113). -/
def NamesOpen (t : Tile) (l : List (Fin 64)) : Prop := t.inC0 = true → ∀ n ∈ l, n.val < 32

/-- A result v of an integer or DSP unit in flight for general register d on tile p, with its residue modulo 3, to land l tile cycles on (03 R80, R82; 15 R477). -/
def sendG (s : State) (p : PTile) (l : Nat) (d : Fin 64) (v : Word) : State := modTile s p fun t => landG t s.cycle l d v (residue3 v)

/-- A value moved to general register d, in flight with no residue (03 R80, R82; 15 R477). -/
def sendMoved (s : State) (p : PTile) (l : Nat) (d : Fin 64) (v : Word) : State := modTile s p fun t => landG t s.cycle l d v

/-- A result as sendG, with sticky bits for the DSP_STATUS of the running bank that land with the result (03 R97). -/
def sendDsp (s : State) (p : PTile) (l : Nat) (d : Fin 64) (v : Word) (bits : BitVec 32) : State :=
  modTile s p fun t => landDsp (landG t s.cycle l d v (residue3 v)) s.cycle l bits

/-- An access through an L slot meets no vector operation at port 0: none of its own flow, and none of the flow that a handler cut (04 R149, R161). -/
def PortFree (s : State) (t : Tile) (port : Fin 2) : Prop :=
  port = 0 → s.cycle ∉ t.port0 ∧ (t.inC0 = false → serving t = true → s.cycle ∉ t.port0Old)

/-- The low 72 bits of v in flight for an accumulator of the running bank: a mac-class operation sees it la tile cycles on, every other read lr on; OVF lands with the former when v is outside the signed 72-bit range (03 R96). -/
def sendAcc (s : State) (p : PTile) (n : Fin 4) (la lr : Nat) (v : Int) : State :=
  modTile s p fun t => landDsp (landAcc t s.cycle la lr n (BitVec.ofInt 72 v)) s.cycle la (if -(2 ^ 71) ≤ v ∧ v < 2 ^ 71 then 0 else dspOvf)

/-- A finite number of a format times 2^1100, an integer in every format; none for an infinity or a NaN. -/
def scaledF (f : FloatFmt) (x : Nat) : Option Int :=
  match fUnpack f x with
  | .fin neg m e => some (let v : Int := (m * 2 ^ (e + 1100).toNat : Nat); if neg then -v else v)
  | _ => none

/-- Two states agree but for one tile. -/
def OnlyTile (p : PTile) (s t : State) : Prop := ∃ u : Tile, t = modTile s p fun _ => u

/-- Ethernet port e takes a frame that it is handed: its link is up and secured (11 R348, R363). -/
def PortTakes (s : State) (e : Fin 2) : Prop := (ethPort s e).link = true ∧ portSecured s e = true

/-- A frame is handed to port e: it stands last in the port's queue, and none has left the part (11 R348). -/
def Handed (s u : State) (e : Fin 2) (f : EthTx) : Prop := (ethPort u e).queue = (ethPort s e).queue ++ [f] ∧ u.tx = s.tx

/-- A request that the part accepts from an established session and has not answered: s' is the state after the datagram's checks, x the session (12 R386, R391, R395). -/
def NewRequest (s : State) (m : AMsg) (s' : State) (x : Session) : Prop :=
  receive s m = (true, s') ∧ s'.fw.state ≠ 2 ∧ sessionOf s' m.session.toNat = some x ∧ x.txNext < 2 ^ 48
    ∧ x.replies.find? (fun r => r.1 = m.req.toNat) = none ∧ m.req.toNat ∉ x.waiting

/-- The newest reply that the part keeps for a session: the plaintext of OP + 80H with its REQ_ID, COUNT, CODE and body (12 R393, R395). -/
def Replied (u : State) (num op req count code : Nat) (body : List Byte) : Prop :=
  ∃ y, sessionOf u num = some y ∧ y.replies.head? = some (req, bodyHeader (op + 0x80) req count code ++ body)

/-- A protected datagram of the part is handed to the port of its session: outer header with SESSION and COUNTER, and the plaintext sealed under the key of that direction (12 R386, R391). -/
def SentProtected (s u : State) (x : Session) (plain : List Byte) : Prop :=
  ∃ f, Handed s u x.port f ∧ f.proto = 0 ∧ f.dst = x.host ∧ f.dport = x.hport ∧ f.body = outerHeader 5 x.num x.txNext ++ sealed x.keyOut 5 x.num x.txNext plain

/-- What fetch, issue and the engines of a tile hold, beside its registers and results in flight: memories, vector registers, engines and the attempt. -/
def SameMemories (t u : Tile) : Prop :=
  u.core = t.core ∧ u.wbuf = t.wbuf ∧ u.abuf = t.abuf ∧ u.vob = t.vob ∧ u.commits = t.commits

/-- A power-fail commit has started for a cause: its record is assembled and not yet written, no session stands, and everything but the enclave, the system controller and the always-on domain is Off with what it held (16 R508; 17 R536, R541). -/
def CutStarted (s u : State) (cause : Nat) : Prop :=
  (∃ c, u.power.cut = some c ∧ c.cause = cause ∧ c.done = false) ∧ u.hbm.mem = [] ∧ u.meadow.mem = [] ∧ u.alaust.sessions = [] ∧ u.cfg = s.cfg
    ∧ (∀ p : PTile, (tile u p).power = 4 ∧ (tile u p).core = [] ∧ (tile u p).run = none) ∧ (∀ d, d < 90 → domainState u d = 4) ∧ domainState u 90 = 0 ∧ domainState u 91 = 0 ∧ domainState u 92 = 0

end Sys2Proof.Machine
end

