-- ==== Sys2Proof/Certificates/Slice0/Obligations.lean ====
section
/-! DEFINITION. The statements about the block, each from the rules of the spec that it names. -/

open Sys2Proof Sys2Proof.Machine

/-- A step runs the command at the front of the queue on the state with the rest of the queue. The queue is the model's own (notes/assumptions/1.md). -/
def Obligations.StepRunsFrontCommand : Prop :=
  ∀ (c : Instr) (rest : List Instr) (s : State), step { s with pending := c :: rest } = exec c { s with pending := rest }

/-- On an empty queue one tile cycle passes; that the idle step is a tile cycle is the model's choice (notes/assumptions/1.md). -/
def Obligations.IdleStepIsOneTileCycle : Prop :=
  ∀ s : State, s.pending = [] → ∃ t, step s = .next t ∧ t.cycle = s.cycle + 1 ∧ t.pending = []

/-- Every two-source operation of an A slot, in both contexts: its result is in flight for the destination register with latency 1, and nothing else changes (03 R120, R121). clamp as signed numbers; the byte operations byte by byte, every other bit 0 (03 R120). -/
def Obligations.AluResults : Prop :=
  (∀ x ∈ ([(Instr.add, fun a b => a + b), (Instr.sub, fun a b => a - b), (Instr.and, fun a b => a &&& b), (Instr.or, fun a b => a ||| b),
      (Instr.xor, fun a b => a ^^^ b), (Instr.shl, fun a b => a <<< (b.toNat % 64)), (Instr.shr, fun a b => a >>> (b.toNat % 64)),
      (Instr.sar, fun a b => a.sshiftRight (b.toNat % 64)), (Instr.min, fun a b => if a.toInt ≤ b.toInt then a else b),
      (Instr.max, fun a b => if a.toInt ≤ b.toInt then b else a), (Instr.cmpEq, fun a b => if a = b then 1 else 0),
      (Instr.cmpLt, fun a b => if a.toInt < b.toInt then 1 else 0), (Instr.cmpLtu, fun a b => if a.toNat < b.toNat then 1 else 0),
      (Instr.clamp, wClamp), (Instr.add4Bu, bytes4 fun a b => min 255 (a + b)), (Instr.avg4Bu, bytes4 fun a b => (a + b + 1) / 2), (Instr.sad4Bu, sad4)] :
      List ((PTile → Fin 64 → Fin 64 → Fin 64 → Instr) × (Word → Word → Word))),
    ∀ (p : PTile) (d a b : Fin 64) (s : State), NamesOpen (tile s p) [d, a, b] →
      exec (x.1 p d a b) s = .next (sendG s p 1 d (x.2 (gVal (tile s p) a) (gVal (tile s p) b))))
  ∧ ((∀ x y : Word, (wClamp x y).toInt = min (max x.toInt (y.setWidth 32).toInt) ((y >>> 32).setWidth 32).toInt)
  ∧ (∀ x y : Word, ∀ i < 4, field (8 * i + 7) (8 * i) (bytes4 (fun a b => min 255 (a + b)) x y).toNat
      = min 255 (field (8 * i + 7) (8 * i) x.toNat + field (8 * i + 7) (8 * i) y.toNat))
  ∧ (∀ x y : Word, ∀ i < 4, field (8 * i + 7) (8 * i) (bytes4 (fun a b => (a + b + 1) / 2) x y).toNat
      = (field (8 * i + 7) (8 * i) x.toNat + field (8 * i + 7) (8 * i) y.toNat + 1) / 2)
  ∧ (∀ x y : Word, (bytes4 (fun a b => min 255 (a + b)) x y).toNat < 2 ^ 32 ∧ (bytes4 (fun a b => (a + b + 1) / 2) x y).toNat < 2 ^ 32)
  ∧ (∀ x y : Word, (sad4 x y).toNat = ((List.range 4).map fun i =>
      ((field (8 * i + 7) (8 * i) x.toNat : Int) - (field (8 * i + 7) (8 * i) y.toNat : Int)).natAbs).sum))

/-- The other operations of an A slot. abs of the most negative number is a free value (notes/assumptions/19.md). -/
def Obligations.ImmediateAluResults : Prop :=
  (∀ x ∈ ([(Instr.addi, fun a i => a + i), (Instr.andi, fun a i => a &&& i), (Instr.ori, fun a i => a ||| i), (Instr.xori, fun a i => a ^^^ i),
      (Instr.cmpiEq, fun a i => if a = i then 1 else 0), (Instr.cmpiLt, fun a i => if a.toInt < i.toInt then 1 else 0),
      (Instr.cmpiLtu, fun a i => if a.toNat < i.toNat then 1 else 0)] : List ((PTile → Fin 64 → Fin 64 → BitVec 14 → Instr) × (Word → Word → Word))),
    ∀ (p : PTile) (d a : Fin 64) (imm : BitVec 14) (s : State), NamesOpen (tile s p) [d, a] →
      exec (x.1 p d a imm) s = .next (sendG s p 1 d (x.2 (gVal (tile s p) a) (imm.signExtend 64))))
  ∧ (∀ x ∈ ([(Instr.shli, fun a n => a <<< n), (Instr.shri, fun a n => a >>> n), (Instr.sari, fun a n => a.sshiftRight n)] :
      List ((PTile → Fin 64 → Fin 64 → BitVec 14 → Instr) × (Word → Nat → Word))),
    ∀ (p : PTile) (d a : Fin 64) (imm : BitVec 14) (s : State), NamesOpen (tile s p) [d, a] →
      (imm.toNat < 64 → exec (x.1 p d a imm) s = .next (sendG s p 1 d (x.2 (gVal (tile s p) a) imm.toNat)))
      ∧ (64 ≤ imm.toNat → exec (x.1 p d a imm) s = .next (opFault s p cIllegalBundle 0)))
  ∧ (∀ (p : PTile) (d : Fin 64) (imm : BitVec 14) (s : State), NamesOpen (tile s p) [d] →
      exec (.movi0 p d imm) s = .next (sendG s p 1 d (imm.signExtend 64)))
  ∧ (∀ x ∈ ([(Instr.movi1, 1), (Instr.movi2, 2), (Instr.movi3, 3), (Instr.movi4, 4)] : List ((PTile → Fin 64 → Fin 64 → BitVec 14 → Instr) × Nat)),
    ∀ (p : PTile) (d a : Fin 64) (imm : BitVec 14) (s : State), NamesOpen (tile s p) [d, a] →
      ∃ v : Word, exec (x.1 p d a imm) s = .next (sendG s p 1 d v)
        ∧ ∀ i < 64, v.getLsbD i = if 14 * x.2 ≤ i ∧ i < 14 * x.2 + 14 then imm.getLsbD (i - 14 * x.2) else (gVal (tile s p) a).getLsbD i)
  ∧ (∀ (p : PTile) (d a b c : Fin 64) (s : State), NamesOpen (tile s p) [d, a, b, c] →
      exec (.sel p d a b c) s = .next (sendG s p 1 d (if gVal (tile s p) c = 0 then gVal (tile s p) b else gVal (tile s p) a)))
  ∧ (∀ (p : PTile) (d a : Fin 64) (s : State), NamesOpen (tile s p) [d, a] →
      ∃ v : Word, exec (.abs p d a) s = .next (sendG s p 1 d v)
        ∧ (gVal (tile s p) a ≠ BitVec.intMin 64 → v.toInt = (gVal (tile s p) a).toInt.natAbs))

/-- The operations that a context bars end in ILLEGAL_BUNDLE: of the handler in the class-0 context, of the job outside it (03 R113, R116, R117). -/
def Obligations.BarredOperationsFault : Prop :=
  (∀ x ∈ ([Instr.add, Instr.sub, Instr.and, Instr.or, Instr.xor, Instr.shl, Instr.shr, Instr.sar, Instr.min, Instr.max, Instr.cmpEq, Instr.cmpLt, Instr.cmpLtu,
      Instr.clamp, Instr.add4Bu, Instr.avg4Bu, Instr.sad4Bu] : List (PTile → Fin 64 → Fin 64 → Fin 64 → Instr)),
    ∀ (p : PTile) (d a b : Fin 64) (s : State), (tile s p).inC0 = true → (32 ≤ d.val ∨ 32 ≤ a.val ∨ 32 ≤ b.val) →
      exec (x p d a b) s = .next (handlerFault (countParity s p cIllegalBundle 0) p cIllegalBundle 0))
  ∧ (∀ (p : PTile) (f : Bool) (c : Fin 8) (vs : Fin 32) (l : Fin 64) (s : State), (tile s p).inC0 = true →
      ∀ i ∈ [Instr.rot p, .mark p f, .dmaStart p c vs, .arrStart p vs, .c1Bell p l, .reti p, .endItem p, .vsettle p],
        exec i s = .next (handlerFault (countParity s p cIllegalBundle 0) p cIllegalBundle 0))
  ∧ (∀ (p : PTile) (a : Fin 8) (s : State), (tile s p).inC0 = false →
      exec (.emit p a) s = .next (jobFault s p cIllegalBundle 0) ∧ exec (.c0End p) s = .next (jobFault s p cIllegalBundle 0))

/-- A general-register result that is due lands in the register named at issue and changes no other register, memory or tile; a residue that does not match raises ARITH_CHECK (03 R80, R82; 15 R477). Control-register writes at their landing (03 R86, R87, R97, R109; 04 R129, R130; 09 R303, R313). -/
def Obligations.ResultsLand : Prop :=
  ((∀ (s : State) (p : PTile) (c0 : Bool) (r : Fin 64) (v : Word) (due issue : Nat) (res : Option Nat), (res = none ∨ res = residue3 v) →
    frozen s p = false → (tile s p).entry = none → due ≤ s.cycle → (tile s p).sched = [{ due := due, issue := issue, act := .gReg c0 r v, res := res }] →
    ∃ u, landDue s p = modTile s p (fun _ => u) ∧ u.sched = [] ∧ SameMemories (tile s p) u ∧ u.v = (tile s p).v
      ∧ (∀ n : Fin 64, u.job.g[n] = if c0 = false ∧ n = r then v else (tile s p).job.g[n])
      ∧ (∀ n : Fin 64, u.c0.g[n] = if c0 = true ∧ n = r then v else (tile s p).c0.g[n])
      ∧ u.job.a = (tile s p).job.a ∧ u.job.cb = (tile s p).job.cb ∧ u.job.acc = (tile s p).job.acc ∧ u.job.dsp = (tile s p).job.dsp
      ∧ u.job.pc = (tile s p).job.pc ∧ u.c0.a = (tile s p).c0.a ∧ u.c0.pc = (tile s p).c0.pc)
  ∧ (∀ (s : State) (p : PTile) (c0 : Bool) (r : Fin 64) (v : Word) (due issue x : Nat), some x ≠ residue3 v →
    frozen s p = false → (tile s p).entry = none → due ≤ s.cycle → (tile s p).sched = [{ due := due, issue := issue, act := .gReg c0 r v, res := some x }] →
    ∃ u, u = landDue (modTile s p fun t => { t with sched := [{ due := due, issue := issue, act := .gReg c0 r v }] }) p
      ∧ landDue s p = if c0 then handlerFault u p cArithCheck 0 else jobFault u p cArithCheck 0))
  ∧ (∀ (s : State) (p : PTile) (c0 : Bool) (v : Word),
    (∃ b : Bank, ctlWrite s p c0 0x00 v = modTile s p (fun t => modBankOf t c0 fun _ => b)
      ∧ b = { (if c0 then (tile s p).c0 else (tile s p).job) with dsp := b.dsp }
      ∧ ∀ i < 32, b.dsp.getLsbD i = if 9 ≤ i ∧ i ≤ 15 then v.getLsbD i
          else if i ≤ 1 then (if c0 then (tile s p).c0 else (tile s p).job).dsp.getLsbD i && !v.getLsbD i else false)
    ∧ ctlWrite s p c0 0x01 v = modTile s p (fun t => { t with rot := v.setWidth 5 })
    ∧ ctlWrite s p c0 0x10 v = s
    ∧ ctlWrite s p c0 0x11 v = modTile s p (fun t => { t with intEnable := v.setWidth 16 &&& 0x8FFF })
    ∧ ctlWrite s p c0 0x12 v = modTile s p (fun t => { t with intPending := t.intPending &&& ~~~(v.setWidth 16) })
    ∧ ctlWrite s p c0 0x13 v = modTile s p (fun t => { t with intPc := v.setWidth 32 })
    ∧ ctlWrite s p c0 0x14 v = modTile s p (fun t => { t with intVector := v.setWidth 32 })
    ∧ ctlWrite s p c0 0x16 v = modTile s p (fun t => { t with bellFrom := t.bellFrom &&& ~~~v })
    ∧ (∃ w : BitVec 32, ctlWrite s p c0 0x41 v = modTile s p (fun t => { t with vew := w })
        ∧ ∀ i < 32, w.getLsbD i = if i = 4 ∨ i = 5 then v.getLsbD i
            else if 8 ≤ i ∧ i ≤ 12 then (tile s p).vew.getLsbD i && !v.getLsbD i else (tile s p).vew.getLsbD i)
    ∧ (∃ w : Word, ctlWrite s p c0 0x42 v = modTile s p (fun t => { t with vresume := w })
        ∧ ∀ i < 64, w.getLsbD i = if i < 32 then (tile s p).vresume.getLsbD i else (decide (i ≤ 40 ∨ 62 ≤ i)) && v.getLsbD i)
    ∧ (∃ l : List Nat, ctlWrite s p c0 0x4D v = modTile s p (fun t => { t with dma := { t.dma with qcross := l } })
        ∧ ∀ q, q ∈ l ↔ q ∈ (tile s p).dma.qcross ∧ q ≠ v.toNat % 2048)
    ∧ ctlWrite s p c0 0x4E v = modTile s p (fun t => { t with dma := { t.dma with recover := v.getLsbD 0, stopped := t.dma.stopped && !v.getLsbD 1, cleared := if t.dma.stopped = true ∧ v.getLsbD 1 = true then s.cycle + 1 else t.dma.cleared } }))

/-- g0 reads as 0, and a result for g0 changes nothing at all (03 R84). Register rotation: where a name goes, and what rot does to it (03 R85). -/
def Obligations.GeneralRegisters : Prop :=
  ((∀ t : Tile, gVal t 0 = 0)
  ∧ (∀ (p : PTile) (a b : Fin 64) (s : State), NamesOpen (tile s p) [0, a, b] → ∃ t, exec (.add p 0 a b) s = .next t ∧ t = s))
  ∧ ((∀ (t : Tile) (n : Fin 64), n.val < 32 → gPhys t n = n)
  ∧ (∀ (t : Tile) (n : Fin 64), 32 ≤ n.val → (gPhys t n).val = 32 + (n.val - 32 + t.rot.toNat) % 32)
  ∧ (∀ (p : PTile) (s : State), (tile s p).inC0 = false →
      ∃ t, exec (.rot p) s = .next t ∧ t = modTile s p (fun u => { u with rot := u.rot - 1 })
        ∧ ∀ n : Fin 64, ∀ h : n.val + 1 < 64, 32 ≤ n.val → gPhys (tile t p) ⟨n.val + 1, h⟩ = gPhys (tile s p) n))

/-- The five addressing modes, linear and circular (03 R91, R92). aupd, mva and mvg (03 R91, R121). -/
def Obligations.AddressingModes : Prop :=
  ((∀ (t : Tile) (a : Fin 8) (o : BitVec 14), field 53 32 (bankOf t).cb[a].toNat = 0 →
    (lEa t a (.offset o) : Int) = ((aVal t a).toNat + o.toInt) % 2 ^ 64 ∧ lEa t a (.postImm o) = (aVal t a).toNat
      ∧ lNext t a (.offset o) = none ∧ lNext t a (.postImm o) = some (aVal t a + o.signExtend 32) ∧ lNext t a (.update o) = some (aVal t a + o.signExtend 32))
  ∧ (∀ (t : Tile) (a : Fin 8) (g : Fin 64), field 53 32 (bankOf t).cb[a].toNat = 0 →
    (lEa t a (.index g) : Int) = ((aVal t a).toNat + (gVal t g).toInt) % 2 ^ 64 ∧ lEa t a (.postReg g) = (aVal t a).toNat
      ∧ lNext t a (.index g) = none ∧ lNext t a (.postReg g) = some (aVal t a + (gVal t g).setWidth 32))
  ∧ (∀ (t : Tile) (a : Fin 8) (m : LMode), field 53 32 (bankOf t).cb[a].toNat ≠ 0 →
    let len := field 53 32 (bankOf t).cb[a].toNat
    let base := field 20 0 (bankOf t).cb[a].toNat
    let off : Int := match m with | .offset _ | .index _ => lStep t m | _ => 0
    base ≤ lEa t a m ∧ lEa t a m < base + len ∧ ((lEa t a m : Int) - ((aVal t a).toNat + off)) % len = 0)
  ∧ (∀ (t : Tile) (a : Fin 8) (m : LMode) (v : BitVec 32), field 53 32 (bankOf t).cb[a].toNat ≠ 0 → lNext t a m = some v →
    let len := field 53 32 (bankOf t).cb[a].toNat
    let base := field 20 0 (bankOf t).cb[a].toNat
    base ≤ v.toNat ∧ v.toNat < base + len ∧ ((v.toNat : Int) - ((aVal t a).toNat + lStep t m)) % len = 0))
  ∧ (∀ (p : PTile) (port : Fin 2) (d : Fin 64) (a : Fin 8) (inc : BitVec 14) (s : State),
    (exec (.aupd p port a inc) s = .next (modTile s p fun t => lUpdate t s.cycle a (.update inc)))
    ∧ (NamesOpen (tile s p) [d] → exec (.mva p port d a) s = .next (modTile s p fun t => land t s.cycle 1 (.aReg t.inC0 a ((gVal t d).setWidth 32))))
    ∧ (NamesOpen (tile s p) [d] → exec (.mvg p port d a) s = .next (sendMoved s p 1 d ((aVal (tile s p) a).setWidth 64))))

/-- Every load, on either port and in every mode that makes an access: the value lands with latency 5, an updated an with latency 1 (03 R91, R94, R120). -/
def Obligations.LoadResults : Prop :=
  ∀ x ∈ ([(Instr.ldB, 1, true), (Instr.ldBu, 1, false), (Instr.ldH, 2, true), (Instr.ldHu, 2, false), (Instr.ldW, 4, true), (Instr.ldWu, 4, false),
      (Instr.ldD, 8, false)] : List ((PTile → Fin 2 → Fin 64 → Fin 8 → LMode → Instr) × Nat × Bool)),
    ∀ (p : PTile) (port : Fin 2) (d : Fin 64) (a : Fin 8) (m : LMode) (s : State),
      (∀ i, m ≠ .update i) → NamesOpen (tile s p) (d :: lNames m) → PortFree s (tile s p) port →
      aHigh (tile s p) a = false → lEa (tile s p) a m < coreSize → lEa (tile s p) a m % x.2.1 = 0 →
      badByte (tile s p).coreBad (lEa (tile s p) a m) x.2.1 = none →
      ∃ u, exec (x.1 p port d a m) s = .next (modTile s p fun _ => u)
        ∧ u = { lUpdate (landG (tile s p) s.cycle 5 d (loadValue x.2.1 x.2.2 (memRead (tile s p).core (lEa (tile s p) a m) x.2.1))) s.cycle a m with
                l1Used := if port = 1 then s.cycle + 1 else (tile s p).l1Used }
        ∧ SameMemories (tile s p) u

/-- CORE_RANGE, CORE_ALIGN, CORE_PARITY and ILLEGAL_BUNDLE of loads and stores, and the wait of a handler's access for port 0 (03 R93, R95, R121; 04 R149, R161; 08 R264). -/
def Obligations.CoreAccessFaults : Prop :=
  ∀ x ∈ ([(Instr.ldB, 1, false), (Instr.ldBu, 1, false), (Instr.ldH, 2, false), (Instr.ldHu, 2, false), (Instr.ldW, 4, false), (Instr.ldWu, 4, false),
      (Instr.ldD, 8, false), (Instr.stB, 1, true), (Instr.stH, 2, true), (Instr.stW, 4, true), (Instr.stD, 8, true)] :
      List ((PTile → Fin 2 → Fin 64 → Fin 8 → LMode → Instr) × Nat × Bool)),
    ∀ (p : PTile) (port : Fin 2) (d : Fin 64) (a : Fin 8) (m : LMode) (s : State),
      NamesOpen (tile s p) (d :: lNames m) →
      let t := tile s p
      let ea := lEa t a m
      let waits := port = 0 ∧ (t.inC0 = true ∧ s.cycle ∈ t.port0 ∨ t.inC0 = false ∧ serving t = true ∧ s.cycle ∈ t.port0Old)
      let bad := aHigh t a = true ∨ coreSize ≤ ea ∨ (x.2.2 = true ∧ t.inC0 = false ∧ descArea ≤ ea)
      ((∃ i, m = .update i) → exec (x.1 p port d a m) s = .next (opFault s p cIllegalBundle 0))
      ∧ ((∀ i, m ≠ .update i) → waits → exec (x.1 p port d a m) s = .next s)
      ∧ ((∀ i, m ≠ .update i) → ¬ waits → port = 0 → s.cycle ∈ t.port0 → exec (x.1 p port d a m) s = .next (opFault s p cIllegalBundle 0))
      ∧ ((∀ i, m ≠ .update i) → PortFree s t port → bad → exec (x.1 p port d a m) s = .next (opFault s p cCoreRange (coreGlobal t ea)))
      ∧ ((∀ i, m ≠ .update i) → PortFree s t port → ¬ bad → ea % x.2.1 ≠ 0 → exec (x.1 p port d a m) s = .next (opFault s p cCoreAlign (coreGlobal t ea)))
      ∧ (∀ b, (∀ i, m ≠ .update i) → PortFree s t port → ¬ bad → ea % x.2.1 = 0 → x.2.2 = false → badByte t.coreBad ea x.2.1 = some b →
          exec (x.1 p port d a m) s = .next (opFault s p cCoreParity (coreGlobal t b)))

/-- Every store: its bytes join the writes of the cycle; a class-0 store outside the window is suppressed and counted (03 R94, R114). -/
def Obligations.StoreEffects : Prop :=
  ∀ x ∈ ([(Instr.stB, 1), (Instr.stH, 2), (Instr.stW, 4), (Instr.stD, 8)] : List ((PTile → Fin 2 → Fin 64 → Fin 8 → LMode → Instr) × Nat)),
    ∀ (p : PTile) (port : Fin 2) (d : Fin 64) (a : Fin 8) (m : LMode) (s : State),
      let t := tile s p
      let ea := lEa t a m
      (∀ i, m ≠ .update i) → NamesOpen t (d :: lNames m) → PortFree s t port →
      aHigh t a = false → ea < coreSize → (t.inC0 = false → ea < descArea) → ea % x.2 = 0 →
      ∃ u : State, exec (x.1 p port d a m) s = .next u ∧ (∀ q, q ≠ p → tile u q = tile s q)
        ∧ (tile u p).core = t.core ∧ (tile u p).vob = t.vob ∧ (tile u p).job.g = t.job.g ∧ (tile u p).c0.g = t.c0.g
        ∧ (tile u p).sched = (lUpdate t s.cycle a m).sched
        ∧ ((t.inC0 = false ∨ inWindow t ea x.2 = true) →
            (tile u p).commits = t.commits ++ [{ space := .core, addr := ea, bytes := leBytes x.2 (gVal t d).toNat, rank := port.val }] ∧ u.ro = s.ro)
        ∧ (t.inC0 = true → inWindow t ea x.2 = false →
            (tile u p).commits = t.commits ∧ roGet u (oTileClass0Suppressed p.val) = (roGet s (oTileClass0Suppressed p.val) + 1) % 2 ^ objBits (oTileClass0Suppressed p.val))

/-- What the end of a tile cycle does to core memory, byte by byte: the stored bytes, the higher rank kept, every other byte unchanged (03 R94, 04 R150). Read after write in the model's memories, and their canonical form (the form is the model's, notes/assumptions/5.md). -/
def Obligations.StoredBytes : Prop :=
  ((∀ (t : Tile) (c : Commit), memWf t.core = true → t.commits = [c] → c.space = .core → c.rank ≤ 3 →
    (∀ x, memGet (commitTile t).core x = if c.addr ≤ x ∧ x < c.addr + c.bytes.length then c.bytes.getD (x - c.addr) 0 else memGet t.core x)
    ∧ (commitTile t).wbuf = t.wbuf ∧ (commitTile t).abuf = t.abuf ∧ (commitTile t).vob = t.vob ∧ (commitTile t).commits = [] ∧ (commitTile t).v = t.v)
  ∧ (∀ (t : Tile) (c e : Commit), memWf t.core = true → t.commits = [c, e] ∨ t.commits = [e, c] → c.space = .core → e.space = .core → c.rank < e.rank → e.rank ≤ 3 →
    ∀ x, memGet (commitTile t).core x =
      if e.addr ≤ x ∧ x < e.addr + e.bytes.length then e.bytes.getD (x - e.addr) 0
      else if c.addr ≤ x ∧ x < c.addr + c.bytes.length then c.bytes.getD (x - c.addr) 0 else memGet t.core x))
  ∧ (∀ (m : Mem), memWf m = true →
    (∀ a b x, memGet (memPut m a b) x = if x = a then b else memGet m x)
    ∧ (∀ a bs x, memGet (memWrite m a bs) x = if a ≤ x ∧ x < a + bs.length then bs.getD (x - a) 0 else memGet m x)
    ∧ (∀ a n b x, memGet (memFill m a n b) x = if a ≤ x ∧ x < a + n then b else memGet m x)
    ∧ (∀ a bs, memWf (memWrite m a bs) = true) ∧ (∀ a n, memWf (memClear m a n) = true) ∧ (∀ a n b, memWf (memFill m a n b) = true))

/-- mul, mulh, norm, exp and expmax: result, latency, and nothing else changed (03 R100, R120). acc.mv and mulr.h: value, rounding, saturation and SATF (03 R97, R98, R100). RND 0 convergent, 1 toward minus infinity, 2 half away from zero, 3 toward zero (03 R97, R98). -/
def Obligations.DspReads : Prop :=
  ((∀ (p : PTile) (d a b : Fin 64) (s : State), NamesOpen (tile s p) [d, a, b] →
    exec (.mul p d a b) s = .next (sendG s p 3 d (BitVec.ofInt 64 ((gVal (tile s p) a).toInt * (gVal (tile s p) b).toInt)))
    ∧ exec (.mulh p d a b) s = .next (sendG s p 3 d ((BitVec.ofInt 128 ((gVal (tile s p) a).toInt * (gVal (tile s p) b).toInt)).extractLsb' 64 64)))
  ∧ (∀ (p : PTile) (d b : Fin 64) (n : Fin 4) (s : State), NamesOpen (tile s p) [d, b] →
    ∃ k ≤ 71, (∀ i < 71, (∀ j, i ≤ j → j ≤ 71 → (bankOf (tile s p)).acc[n].getLsbD j = (bankOf (tile s p)).acc[n].getLsbD 71) ↔ 71 ≤ i + k)
      ∧ exec (.norm p d n) s = .next (sendG s p 2 d (BitVec.ofNat 64 k))
      ∧ exec (.exp p d n) s = .next (sendG s p 2 d (BitVec.ofInt 64 (8 - (k : Int))))
      ∧ exec (.expmax p d n b) s = .next (sendG s p 2 d (BitVec.ofInt 64 (max (8 - (k : Int)) (gVal (tile s p) b).toInt)))))
  ∧ ((∀ (p : PTile) (d : Fin 64) (n : Fin 4) (shift : BitVec 6) (sub : BitVec 2) (s : State), NamesOpen (tile s p) [d] →
    let q := (bankOf (tile s p)).dsp
    let x := shiftBy (dspRnd q) (bankOf (tile s p)).acc[n].toInt (shift.toInt + dspScale q)
    let w := 16 * 2 ^ sub.toNat
    (sub = 3 → exec (.accMv p d n shift sub) s = .next (opFault s p cIllegalBundle 0))
    ∧ (sub ≠ 3 → ∃ v : Word, exec (.accMv p d n shift sub) s = .next (sendDsp s p 2 d v
          (if -((2 ^ (w - 1) : Nat) : Int) ≤ x ∧ x < ((2 ^ (w - 1) : Nat) : Int) then 0 else dspSatf))
        ∧ (dspSat q = true → v.toInt = max (-((2 ^ (w - 1) : Nat) : Int)) (min x (((2 ^ (w - 1) : Nat) : Int) - 1)))
        ∧ (dspSat q = false → ∃ m : Int, v.toInt = x + m * ((2 ^ w : Nat) : Int) ∧ -((2 ^ (w - 1) : Nat) : Int) ≤ v.toInt ∧ v.toInt < ((2 ^ (w - 1) : Nat) : Int))))
  ∧ (∀ (p : PTile) (d a b : Fin 64) (s : State), NamesOpen (tile s p) [d, a, b] →
    let q := (bankOf (tile s p)).dsp
    let x := ((gVal (tile s p) a).setWidth 16).toInt
    let y := ((gVal (tile s p) b).setWidth 16).toInt
    ∃ v : Word, exec (.mulrH p d a b) s = .next (sendDsp s p 3 d v (if x = -32768 ∧ y = -32768 then dspSatf else 0))
      ∧ (¬ (x = -32768 ∧ y = -32768) → v.toInt = roundShift (dspRnd q) (2 * (x * y)) 16)
      ∧ (x = -32768 ∧ y = -32768 → v.toInt = if dspSat q then 32767 else -32768)))
  ∧ (∀ (x : Int) (k : Nat), 1 ≤ k →
    let u : Int := ((2 ^ k : Nat) : Int)
    (2 * (roundShift 0 x k * u - x) ≤ u ∧ -u ≤ 2 * (roundShift 0 x k * u - x))
    ∧ ((2 * (roundShift 0 x k * u - x) = u ∨ 2 * (roundShift 0 x k * u - x) = -u) → roundShift 0 x k % 2 = 0)
    ∧ (roundShift 1 x k * u ≤ x ∧ x < roundShift 1 x k * u + u)
    ∧ (2 * (roundShift 2 x k * u - x) ≤ u ∧ -u ≤ 2 * (roundShift 2 x k * u - x))
    ∧ (2 * (roundShift 2 x k * u - x) = u → 0 < x) ∧ (2 * (roundShift 2 x k * u - x) = -u → x < 0)
    ∧ (0 ≤ x → roundShift 3 x k * u ≤ x ∧ x < roundShift 3 x k * u + u)
    ∧ (x < 0 → x ≤ roundShift 3 x k * u ∧ roundShift 3 x k * u - u < x)
    ∧ (∀ r, shiftBy r x k = x * u ∧ shiftBy r x (-(k : Int)) = roundShift r x k))

/-- The operations with an accumulator destination (03 R96, R99, R100, R121); that acc.ld and acc.sh reach both views after 2 cycles is read from the latencies (notes/assumptions/42.md). -/
def Obligations.AccumulatorWrites : Prop :=
  (∀ x ∈ ([(Instr.mac, 2, 32, 1, 1), (Instr.msu, 2, 32, 1, -1), (Instr.mac2H, 2, 16, 2, 1), (Instr.mac4B, 1, 8, 4, 1)] :
      List ((PTile → Fin 4 → Fin 64 → Fin 64 → BitVec 2 → Instr) × Nat × Nat × Nat × Int)),
    ∀ (p : PTile) (n : Fin 4) (a b : Fin 64) (sub : BitVec 2) (s : State), NamesOpen (tile s p) [a, b] →
      let part : Word → Nat → Int := fun v i => if sub = 1 then ((v.extractLsb' (x.2.2.1 * i) x.2.2.1).toNat : Int) else (v.extractLsb' (x.2.2.1 * i) x.2.2.1).toInt
      let total := ((List.range x.2.2.2.1).map fun i => (if sub = 2 then 2 else 1) * (part (gVal (tile s p) a) i * part (gVal (tile s p) b) i)).sum
      (x.2.1 < sub.toNat → exec (x.1 p n a b sub) s = .next (opFault s p cIllegalBundle 0))
      ∧ (sub.toNat ≤ x.2.1 → exec (x.1 p n a b sub) s = .next (sendAcc s p n 1 3 ((bankOf (tile s p)).accm[n].toInt + x.2.2.2.2 * total))))
  ∧ (∀ (p : PTile) (n : Fin 4) (s : State), exec (.accClr p n) s = .next (sendAcc s p n 1 3 0))
  ∧ (∀ (p : PTile) (n : Fin 4) (a : Fin 64) (shift : BitVec 6) (s : State), NamesOpen (tile s p) [a] →
    exec (.accLd p n a shift) s = .next (sendAcc s p n 2 2 (shiftBy (dspRnd (bankOf (tile s p)).dsp) (gVal (tile s p) a).toInt shift.toInt))
    ∧ (exec (.accSh p n a) s
        = .next (sendAcc s p n 2 2 (shiftBy (dspRnd (bankOf (tile s p)).dsp) (bankOf (tile s p)).acc[n].toInt (gVal (tile s p) a).toInt))))

/-- The branches (03 R105, R120, R122). That br.r takes the low 32 bits is the model's reading (notes/assumptions/43.md). loop.set, loop.rest, loop.clr and cb.set (03 R90, R101, R112). That loop.rest has latency 7 is read from R101 (notes/assumptions/43.md). -/
def Obligations.ControlFlowOperations : Prop :=
  (∀ (p : PTile) (g : Fin 64) (off : BitVec 20) (s : State),
    let goes : BitVec 32 → Tile → Tile := fun target t => modBank t fun b => { b with branch := b.branch ++ [{ target := target, left := 5 }] }
    let rel := (bankOf (tile s p)).pc + off.signExtend 32 * 32
    (exec (.br p off) s = .next (modTile s p (goes rel)))
    ∧ (exec (.call p off) s = .next (modTile (sendMoved s p 1 31 (((bankOf (tile s p)).pc + 192).setWidth 64)) p (goes rel)))
    ∧ (NamesOpen (tile s p) [g] →
        exec (.brZ p g off) s = .next (if gVal (tile s p) g = 0 then modTile s p (goes rel) else s)
        ∧ exec (.brNz p g off) s = .next (if gVal (tile s p) g = 0 then s else modTile s p (goes rel))
        ∧ exec (.brR p g) s = .next (modTile s p (goes ((gVal (tile s p) g).setWidth 32)))))
  ∧ (∀ (p : PTile) (lvl : Fin 2) (n : Fin 8) (g gs ge : Fin 64) (start : BitVec 10) (len : BitVec 9) (s : State),
    let st := (bankOf (tile s p)).pc + start.signExtend 32 * 32
    let v := gVal (tile s p) g
    let base := (v.extractLsb' 0 21).toNat
    let size := (v.extractLsb' 32 22).toNat
    let good := base % 8 = 0 ∧ size % 8 = 0 ∧ base + size ≤ 0x200000 ∧ v.extractLsb' 21 11 = 0 ∧ v.extractLsb' 54 10 = 0
    (NamesOpen (tile s p) [g] → exec (.loopSet p lvl g start len) s = .next (modTile s p fun t =>
        pairHold (land t s.cycle 7 (.loopSet t.inC0 lvl (v.setWidth 32) st (st + len.setWidth 32 * 32) true)) (s.cycle + 7)))
    ∧ (NamesOpen (tile s p) [g, gs, ge] →
        ((gVal (tile s p) gs).setWidth 32).toNat ≤ ((gVal (tile s p) ge).setWidth 32).toNat →
        exec (.loopRest p lvl g gs ge) s = .next (modTile s p fun t =>
          land t s.cycle 7 (.loopSet t.inC0 lvl (v.setWidth 32) ((gVal (tile s p) gs).setWidth 32) ((gVal (tile s p) ge).setWidth 32) false)))
    ∧ (((gVal (tile s p) ge).setWidth 32).toNat < ((gVal (tile s p) gs).setWidth 32).toNat →
        exec (.loopRest p lvl g gs ge) s = .next (opFault s p cIllegalBundle 0))
    ∧ (exec (.loopClr p lvl) s = .next (modTile s p fun t => land t s.cycle 2 (.loopClr t.inC0 lvl)))
    ∧ (NamesOpen (tile s p) [g] → good → exec (.cbSet p n g) s = .next (modTile s p fun t => pairHold (land t s.cycle 7 (.cbReg t.inC0 n v)) (s.cycle + 7)))
    ∧ (NamesOpen (tile s p) [g] → ¬ good → exec (.cbSet p n g) s = .next (opFault s p cCbInvalid 0)))

/-- Control-register writes at issue (03 R86, R87, R113). mfc of the registers of the core and the vector engine (03 R86, R87; 04 R127; 14 R444). -/
def Obligations.ControlRegisterAccess : Prop :=
  ((∀ (p : PTile) (g : Fin 64) (n : BitVec 8) (s : State), NamesOpen (tile s p) [g] →
    let open_ := n = 0x00 ∨ ((tile s p).inC0 = false ∧ n ∈ ([0x01, 0x10, 0x11, 0x12, 0x13, 0x14, 0x16, 0x41, 0x42, 0x4D, 0x4E, 0x4F] : List (BitVec 8)))
    (open_ → exec (.mtc p g n) s = .next (modTile s p fun t => land t s.cycle 2 (.ctl t.inC0 n.toNat (gVal t g))))
    ∧ (¬ open_ → exec (.mtc p g n) s = .next (opFault s p cIllegalBundle 0)))
  ∧ (∀ x ∈ ([(Instr.intPendingClear, 0x12), (Instr.bellFromClear, 0x16), (Instr.qcrossRemove, 0x4D), (Instr.dmaEngineClear, 0x4E), (Instr.dmaAbort, 0x4F)] :
      List ((PTile → Fin 64 → Instr) × Nat)),
    ∀ (p : PTile) (g : Fin 64) (s : State),
      ((tile s p).inC0 = false → exec (x.1 p g) s = .next (modTile s p fun t => land t s.cycle 2 (.ctl false x.2 (gVal t g))))
      ∧ ((tile s p).inC0 = true → exec (x.1 p g) s = .next (opFault s p cIllegalBundle 0)))
  ∧ (∀ (p : PTile) (d : Fin 64) (n : BitVec 8) (s : State), mfcListed (tile s p).inC0 n.toNat = false →
      exec (.mfc p d n) s = .next (opFault s p cIllegalBundle 0)))
  ∧ (∀ x ∈ ([(0x00, fun t => (bankOf t).dsp.setWidth 64), (0x02, fun t => (bankOf t).loopCtrl.setWidth 64),
      (0x04, fun t => (bankOf t).loopCount[(0 : Fin 2)].setWidth 64), (0x05, fun t => (bankOf t).loopStart[(0 : Fin 2)].setWidth 64), (0x06, fun t => (bankOf t).loopEnd[(0 : Fin 2)].setWidth 64),
      (0x08, fun t => (bankOf t).loopCount[(1 : Fin 2)].setWidth 64), (0x09, fun t => (bankOf t).loopStart[(1 : Fin 2)].setWidth 64), (0x0A, fun t => (bankOf t).loopEnd[(1 : Fin 2)].setWidth 64),
      (0x18, fun t => t.c0Window.setWidth 64), (0x22, fun t => t.seed), (0x23, fun t => t.jobId.setWidth 64), (0x24, fun t => t.ctxId.setWidth 64),
      (0x30, fun _ => 0x00200000), (0x31, fun _ => 0x10000000)] : List (BitVec 8 × (Tile → Word))),
    ∀ y ∈ ([(0x01, fun t => t.rot.setWidth 64), (0x10, fun t => t.intCtrl.setWidth 64), (0x11, fun t => t.intEnable.setWidth 64), (0x12, fun t => t.intPending.setWidth 64),
      (0x13, fun t => t.intPc.setWidth 64), (0x14, fun t => t.intVector.setWidth 64), (0x15, fun t => t.intCause.setWidth 64), (0x16, fun t => t.bellFrom), (0x17, fun t => t.intWait.setWidth 64),
      (0x41, fun t => t.vew.setWidth 64), (0x42, fun t => t.vresume), (0x43, fun t => t.vfaultIdx.setWidth 64), (0x44, fun t => t.vfaultAddr.setWidth 64)] :
      List (BitVec 8 × (Tile → Word))),
    ∀ (p : PTile) (d : Fin 64) (s : State), NamesOpen (tile s p) [d] →
      exec (.mfc p d x.1) s = .next (sendMoved s p 2 d (x.2 (tile s p)))
      ∧ ((tile s p).inC0 = false → exec (.mfc p d y.1) s = .next (sendMoved s p 2 d (y.2 (tile s p))))
      ∧ exec (.mfc p d 0x20) s = .next (sendMoved (markItem s p flagTickRead) p 2 d (BitVec.ofNat 64 (s.ctrl.tick % 2 ^ 32)))
      ∧ exec (.mfc p d 0x21) s = .next (sendMoved (markItem s p flagTickRead) p 2 d (BitVec.ofNat 64 (s.ctrl.step % 2 ^ 32))))

/-- nop, nint, mark, wait.dma, wait.flag and end (03 R77, R83, R106, R112, R120). How two nint regions combine is read from R112 (notes/assumptions/43.md). -/
def Obligations.IssueControlOperations : Prop :=
  ∀ (p : PTile) (n : BitVec 9) (f : Bool) (c : Fin 8) (g : Fin 64) (a : Fin 8) (s : State),
    (exec (.nop p) s = .next s)
    ∧ (1 ≤ n.toNat → n.toNat ≤ 300 → exec (.nint p n) s = .next (modTile s p fun t => { t with nintEnd := min (max t.nintEnd (s.cycle + n.toNat + 1)) (s.cycle + 301) }))
    ∧ (n.toNat = 0 ∨ 300 < n.toNat → exec (.nint p n) s = .next (opFault s p cIllegalBundle 0))
    ∧ ((tile s p).inC0 = false → exec (.mark p f) s = .next (modTile s p fun t => { (land t s.cycle 6 (.markCopy f)) with job := { t.job with hold := .mark (s.cycle + 6) } }))
    ∧ (exec (.waitDma p c) s = .next (modTile s p fun t => modBank t fun b => { b with hold := .waitDma c (BitVec.ofNat 32 (0x13 * 2 ^ 26 + c.val * 2 ^ 18)) false }))
    ∧ (NamesOpen (tile s p) [g] →
        let ea := (aVal (tile s p) a).toNat
        (ea < coreSize → ea % 8 = 0 → exec (.waitFlag p g a) s = .next (modTile s p fun t => modBank t fun b =>
          { b with hold := .waitFlag (gVal t g) (aVal t a) (BitVec.ofNat 32 (0x14 * 2 ^ 26 + g.val * 2 ^ 20 + a.val * 2 ^ 17)) false }))
        ∧ (coreSize ≤ ea → exec (.waitFlag p g a) s = .next (opFault s p cCoreRange (coreGlobal (tile s p) ea)))
        ∧ (ea < coreSize → ea % 8 ≠ 0 → exec (.waitFlag p g a) s = .next (opFault s p cCoreAlign (coreGlobal (tile s p) ea))))
    ∧ ((tile s p).inC0 = false → ∃ due, exec (.endItem p) s = .next (modTile s p fun t =>
          { t with sched := t.sched ++ [{ due := due, issue := s.cycle, act := .finish }], job := { t.job with hold := .ended } })
        ∧ s.cycle < due ∧ ∀ e ∈ (tile s p).sched, scalarLanding e.act = true → e.due ≤ due)

/-- dma.start and arr.start (05 R176 to R178; 09 R282, R283, R303). That the overruns are raised at the issue is the model's reading (notes/assumptions/43.md). -/
def Obligations.DescriptorHandover : Prop :=
  ∀ (p : PTile) (c : Fin 8) (vs : Fin 32) (s : State), (tile s p).inC0 = false →
    let stopped := (tile s p).dma.stopped = true ∨ (tile s p).dma.cleared = s.cycle + 1
    (¬ stopped → ((tile s p).dma.ch[c].active.isSome → (tile s p).dma.ch[c].pend.length = 0) → (tile s p).dma.ch[c].pend.length ≤ 1 →
      ∃ t, exec (.dmaStart p c vs) s = .next t ∧ OnlyTile p s t
        ∧ (tile t p).dma.ch[c].pend = (tile s p).dma.ch[c].pend ++ [{ t0 := s.cycle, desc := ((tile s p).v[vs].setWidth 256).setWidth 512 }]
        ∧ (tile t p).dma.ch[c].active = (tile s p).dma.ch[c].active
        ∧ (tile t p).sched = (tile s p).sched ++ [{ due := s.cycle + 1, issue := s.cycle, act := .dmaLane c vs 1 }, { due := s.cycle + 4, issue := s.cycle, act := .dmaCheck c }])
    ∧ (¬ stopped → ((tile s p).dma.ch[c].active.isSome ∧ (tile s p).dma.ch[c].pend.length = 1) ∨ (tile s p).dma.ch[c].pend.length = 2 →
      exec (.dmaStart p c vs) s = .next (opFault s p cDmaOverrun 0))
    ∧ (stopped → ∃ t, exec (.dmaStart p c vs) s = .next t ∧ OnlyTile p s t
        ∧ (tile t p).dma.ch[c] = { (tile s p).dma.ch[c] with status := statusWord cDmaEngineStopped 0 7 0 })
    ∧ (arrPendings (tile s p) s.cycle < 2 → ∃ t, exec (.arrStart p vs) s = .next t ∧ OnlyTile p s t
        ∧ (tile t p).arr = { (tile s p).arr with descs := (tile s p).arr.descs ++ [{ t0 := s.cycle, desc := ((tile s p).v[vs].setWidth 256).setWidth 1024 }] }
        ∧ (tile t p).sched = (tile s p).sched ++ [{ due := s.cycle + 1, issue := s.cycle, act := .arrLane vs 1 }, { due := s.cycle + 2, issue := s.cycle, act := .arrLane vs 2 },
            { due := s.cycle + 3, issue := s.cycle, act := .arrLane vs 3 }, { due := s.cycle + 4, issue := s.cycle, act := .arrCheck }])
    ∧ (2 ≤ arrPendings (tile s p) s.cycle → exec (.arrStart p vs) s = .next (opFault s p cArrayOverrun 0))

/-- time.rd in both modes (14 R446). -/
def Obligations.TimeReads : Prop :=
  ∀ (p : PTile) (d : Fin 64) (s : State), NamesOpen (tile s p) [d] →
    ∃ f, exec (.timeRd p d) s = .next (sendMoved (markItem s p f) p 2 d
      (if cfgNat s oDetTimeMode = 1 then BitVec.ofNat 64 (tickTime s s.ctrl.tick + 2 * (s.cycle - s.ctrl.boundary)) else BitVec.ofNat 64 (nowNs s)))

/-- rng in both modes (14 R444, R447); the random bits are free values (notes/assumptions/10.md). c0.trig, c0.bell and c1.bell (02 R69; 03 R115, R123). -/
def Obligations.RandomAndBells : Prop :=
  (∀ (p : PTile) (d : Fin 64) (s : State), NamesOpen (tile s p) [d] →
    (∀ r, cfgNat s oDetRngMode = 1 → (tile s p).inC0 = false → (tile s p).run = some r →
      exec (.rng p d) s = .next (modTile s p fun t => { landG t s.cycle 2 d (digestMix (BitVec.ofNat 64 r.rngN) t.seed) with run := some { r with rngN := r.rngN + 1 } }))
    ∧ (cfgNat s oDetRngMode = 0 → exec (.rng p d) s = .next (sendMoved (markItem { s with fresh := s.fresh + 1 } p flagRawRead) p 2 d (Config.freeWord s.fresh))))
  ∧ (∀ (p : PTile) (l : Fin 64) (h : Fin 8) (s : State),
    (exec (.c0Trig p h) s = .next (modTile s p fun t => { t with trigs := t.trigs ++ [{ due := s.cycle + 40, src := t.logical, handler := h.val }] }))
    ∧ (∀ q, holderOf s l.val = some q →
        (replaying s p = false → exec (.c0Bell p l h) s = .next (modTile s q fun t => { t with trigs := t.trigs ++ [{ due := s.cycle + 40, src := (tile s p).logical, handler := h.val }] }))
        ∧ ((tile s p).inC0 = false → exec (.c1Bell p l) s = .next (modTile s q fun t => { t with bells := t.bells ++ [(s.cycle + 40, (tile s p).logical)] })))
    ∧ ((∀ q, holderOf s l.val = some q → (tile s q).logical = l.val ∧ ((tile s q).role = 0 ∨ (tile s q).role = 4))
        ∧ (holderOf s l.val = none → ∀ q, (tile s q).logical = l.val → (tile s q).role ≠ 0 ∧ (tile s q).role ≠ 4))
    ∧ (holderOf s l.val = none →
        (replaying s p = false → exec (.c0Bell p l h) s = .next (roAdd s (oTileBellsDropped p.val) 1))
        ∧ ((tile s p).inC0 = false → exec (.c1Bell p l) s = .next (roAdd s (oTileBellsDropped p.val) 1)))
    ∧ (replaying s p = true → exec (.c0Bell p l h) s = .next s))

/-- emit (03 R114, R116; 14 R458). c0.end and reti (03 R110, R117; 04 R159). -/
def Obligations.EmitAndReturns : Prop :=
  (∀ (p : PTile) (a : Fin 8) (h : C0Run) (s : State), (tile s p).inC0 = true → (tile s p).c0run = some h →
    (replaying s p = false → (aVal (tile s p) a).toNat < coreSize → (aVal (tile s p) a).toNat % 64 = 0 → badByte (tile s p).coreBad (aVal (tile s p) a).toNat 64 = none →
      ∃ (u : State) (x : AlarmTx), exec (.emit p a) s = .next u ∧ u.eth.alarms = s.eth.alarms ++ [x]
        ∧ x.body = memRead (tile s p).core (aVal (tile s p) a).toNat 64 ∧ x.due = s.cycle + 40 ∧ x.tile = (tile s p).logical ∧ x.ptile = p
        ∧ x.handler = h.handler ∧ x.step = s.ctrl.step ∧ x.tick = s.ctrl.tick ∧ x.time = nowNs s ∧ x.code = (if h.suppressed then cClass0Store else 0)
        ∧ (tile u p).core = (tile s p).core ∧ (tile u p).c0 = (tile s p).c0 ∧ (tile u p).job = (tile s p).job ∧ (tile u p).sched = (tile s p).sched
        ∧ (∀ q, q ≠ p → tile u q = tile s q) ∧ u.meadow = s.meadow ∧ u.hbm = s.hbm ∧ u.cfg = s.cfg ∧ u.ro = s.ro)
    ∧ (coreSize ≤ (aVal (tile s p) a).toNat → exec (.emit p a) s = .next (opFault s p cCoreRange (coreGlobal (tile s p) (aVal (tile s p) a).toNat)))
    ∧ ((aVal (tile s p) a).toNat < coreSize → (aVal (tile s p) a).toNat % 64 ≠ 0 → exec (.emit p a) s = .next (opFault s p cCoreAlign (coreGlobal (tile s p) (aVal (tile s p) a).toNat)))
    ∧ (∀ b, (aVal (tile s p) a).toNat < coreSize → (aVal (tile s p) a).toNat % 64 = 0 → badByte (tile s p).coreBad (aVal (tile s p) a).toNat 64 = some b →
        exec (.emit p a) s = .next (opFault s p cCoreParity (coreGlobal (tile s p) b))))
  ∧ ((∀ (p : PTile) (h : C0Run) (s : State), (tile s p).inC0 = true → (tile s p).c0run = some h → h.suppressed = false →
    ∃ t, exec (.c0End p) s = .next t ∧ t = modTile s p (fun t =>
      let took := s.cycle + 28 - h.base
      let on := fun x => if h.base < x then x + took else x
      { t with
        inC0 := false, c0run := none, switchAt := s.cycle + 28, nintEnd := 0
        job := { t.job with hold := (match t.job.hold with | .mark u => .mark (on u) | x => x), fetchAt := on t.job.fetchAt }
        reissueAt := t.reissueAt.map on, vReissueAt := t.vReissueAt.map on
        run := t.run.map fun r => { r with c0cycles := r.c0cycles + took } }))
  ∧ (∀ (p : PTile) (s : State), (tile s p).inC0 = false →
    ∃ u : Tile, exec (.reti p) s = .next (modTile s p fun _ => u)
      ∧ (let rp := (tile s p).vresume.getLsbD 63
         let wp := (tile s p).intCtrl.getLsbD 1
         let at_ := s.cycle + 8
         u.intCtrl = 0 ∧ u.job.pc = (tile s p).intPc ∧ u.job.branch = [] ∧ u.job.hold = .none
         ∧ (∀ i : Fin 32, u.job.loopCtrl.getLsbD i = if i.val = 0 then (tile s p).job.loopCtrl.getLsbD 2 else if i.val = 1 then (tile s p).job.loopCtrl.getLsbD 3 else (tile s p).job.loopCtrl.getLsbD i)
         ∧ u.vReissueAt = (if rp then some at_ else none)
         ∧ u.reissueAt = (if wp then some (if rp then at_ + 1 else at_) else none)
         ∧ u.job.fetchAt = at_ + (if rp then 1 else 0) + (if wp then 1 else 0))
      ∧ u = { (tile s p) with intCtrl := u.intCtrl, vReissueAt := u.vReissueAt, reissueAt := u.reissueAt, job := { (tile s p).job with loopCtrl := u.job.loopCtrl, pc := u.job.pc, branch := u.job.branch, hold := u.job.hold, fetchAt := u.job.fetchAt } }))

/-- A bundle of no-operations issues: sequence (03 R79), loops (03 R103), branches (03 R105). Held issue, the skipped loops of 03 R104, and the faults of fetch (03 R77, R93; 08 R260). -/
def Obligations.BundleIssue : Prop :=
  (∀ (p : PTile) (s : State), mayIssue s p = true → zeroLoop (bankOf (tile s p)) = none →
    (bankOf (tile s p)).pc.toNat % 32 = 0 → (bankOf (tile s p)).pc.toNat < coreSize →
    badByte (tile s p).coreBad (bankOf (tile s p)).pc.toNat 32 = none → fetchBytes (tile s p) s.cycle (bankOf (tile s p)).pc.toNat = List.replicate 32 0 →
    ∃ u : Tile, exec (.bundleIssue p) s = .next (modTile s p fun _ => u)
      ∧ u.issued = s.cycle + 1 ∧ u.lastIssue = s.cycle ∧ u.lastPc = (bankOf (tile s p)).pc
      ∧ u.sched = (tile s p).sched ∧ SameMemories (tile s p) u ∧ u.inC0 = (tile s p).inC0 ∧ u.rot = (tile s p).rot ∧ u.v = (tile s p).v
      ∧ (bankOf u).g = (bankOf (tile s p)).g ∧ (bankOf u).a = (bankOf (tile s p)).a ∧ (bankOf u).acc = (bankOf (tile s p)).acc ∧ (bankOf u).dsp = (bankOf (tile s p)).dsp
      ∧ ((bankOf (tile s p)).branch = [] → (bankOf (tile s p)).loopCtrl.toNat % 4 = 0 → (bankOf u).pc = (bankOf (tile s p)).pc + 32 ∧ (bankOf u).branch = [])
      ∧ (∀ l : Fin 2, (bankOf (tile s p)).branch = [] → (bankOf (tile s p)).loopCtrl.toNat % 4 = 2 ^ l.val → (bankOf (tile s p)).loopEnd[l] = (bankOf (tile s p)).pc →
          (1 < (bankOf (tile s p)).loopCount[l].toNat → (bankOf u).pc = (bankOf (tile s p)).loopStart[l] ∧ (bankOf u).loopCount[l] = (bankOf (tile s p)).loopCount[l] - 1
              ∧ (bankOf u).loopCtrl = (bankOf (tile s p)).loopCtrl)
          ∧ ((bankOf (tile s p)).loopCount[l] = 1 → (bankOf u).pc = (bankOf (tile s p)).pc + 32 ∧ (bankOf u).loopCount[l] = 0 ∧ (bankOf u).loopCtrl.getLsbD l.val = false))
      ∧ (∀ target left, (bankOf (tile s p)).branch = [{ target := target, left := left + 1 }] →
          (0 < left → (bankOf u).branch = [{ target := target, left := left }])
          ∧ (left = 0 → (bankOf u).branch = [] ∧ (bankOf u).pc = target ∧ (bankOf u).fetchAt = s.cycle + 8)))
  ∧ (∀ (p : PTile) (s : State),
    let t := tile s p
    let b := skipLoops t (bankOf t)
    let seen := modTile s p (fun t => { modBank t (fun _ => b) with lastPc := b.pc })
    (mayIssue s p = false → exec (.bundleIssue p) s = .next s)
    ∧ (∀ x : Bank, zeroLoop x = none → skipLoop t x = x)
    ∧ (∀ (x : Bank) (l : Fin 2), zeroLoop x = some l → x.loopCtrl.getLsbD l.val = true ∧ x.loopStart[l] = x.pc ∧ x.loopCount[l] = 0
        ∧ ∃ c : BitVec 32, skipLoop t x = { x with loopCtrl := c, pc := x.loopEnd[l] + 32, fetchAt := max x.fetchAt (t.lastIssue + 8) }
          ∧ ∀ i < 32, c.getLsbD i = (x.loopCtrl.getLsbD i && decide (i ≠ l.val)))
    ∧ (∀ l, mayIssue s p = true → zeroLoop (bankOf t) = some l → t.lastIssue + 8 ≤ s.cycle)
    ∧ (mayIssue s p = true →
        ((b.pc.toNat % 32 ≠ 0 ∨ coreSize ≤ b.pc.toNat) → exec (.bundleIssue p) s = .next (opFault seen p cCoreRange (coreGlobal t b.pc.toNat)))
        ∧ (b.pc.toNat % 32 = 0 → b.pc.toNat < coreSize →
            (∀ x, badByte t.coreBad b.pc.toNat 32 = some x → exec (.bundleIssue p) s = .next (opFault seen p cCoreParity (coreGlobal t x)))
            ∧ (badByte t.coreBad b.pc.toNat 32 = none → decodeBundle p (fetchBytes t s.cycle b.pc.toNat) = none →
                exec (.bundleIssue p) s = .next (opFault seen p cIllegalBundle 0)))))

/-- Words of the A, L, M and C slots, written from the field tables (03 R78, R121, R122). -/
def Obligations.SlotEncodings : Prop :=
  ∀ (p : PTile) (port : Fin 2) (d a b c : Fin 64) (r : Fin 8) (n : Fin 4) (imm : BitVec 14) (sh : BitVec 6) (sub : BitVec 2) (off : BitVec 20) (num : BitVec 8) (vs : Fin 32),
    let dab := d.val * 2 ^ 20 + a.val * 2 ^ 14 + b.val * 2 ^ 8
    let dai := d.val * 2 ^ 20 + a.val * 2 ^ 14 + imm.toNat
    let mem := d.val * 2 ^ 20 + r.val * 2 ^ 17
    let acc := n.val * 2 ^ 20 + a.val * 2 ^ 14 + b.val * 2 ^ 8
    (∀ x ∈ ([(0, opAdd), (1, opSub), (2, opAnd), (3, opOr), (4, opXor), (5, opShl), (6, opShr), (7, opSar), (8, opMin), (9, opMax), (10, opCmpEq), (11, opCmpLt), (12, opCmpLtu)] :
        List (Nat × (PTile → Fin 64 → Fin 64 → Fin 64 → TileOp))), decodeA p (0x01 * 2 ^ 26 + dab + x.1) = some (x.2 p d a b))
    ∧ (∀ x ∈ ([(0, opAdd4Bu), (1, opAvg4Bu), (2, opSad4Bu)] : List (Nat × (PTile → Fin 64 → Fin 64 → Fin 64 → TileOp))), decodeA p (0x04 * 2 ^ 26 + dab + x.1) = some (x.2 p d a b))
    ∧ decodeA p (0x03 * 2 ^ 26 + dab) = some (opClamp p d a b)
    ∧ decodeA p (0x02 * 2 ^ 26 + dab + c.val * 4) = some (opSel p d a b c)
    ∧ decodeA p (0x01 * 2 ^ 26 + d.val * 2 ^ 20 + a.val * 2 ^ 14 + 13) = some (opAbs p d a)
    ∧ (∀ x ∈ ([(0x08, opAddi), (0x09, opAndi), (0x0A, opOri), (0x0B, opXori), (0x0C, opShli), (0x0D, opShri), (0x0E, opSari), (0x0F, opCmpiEq), (0x10, opCmpiLt), (0x11, opCmpiLtu),
        (0x13, opMovi1), (0x14, opMovi2), (0x15, opMovi3), (0x16, opMovi4)] : List (Nat × (PTile → Fin 64 → Fin 64 → BitVec 14 → TileOp))), decodeA p (x.1 * 2 ^ 26 + dai) = some (x.2 p d a imm))
    ∧ decodeA p (0x12 * 2 ^ 26 + d.val * 2 ^ 20 + imm.toNat) = some (opMovi0 p d imm)
    ∧ (∀ x ∈ ([(0x01, opLdB), (0x02, opLdBu), (0x03, opLdH), (0x04, opLdHu), (0x05, opLdW), (0x06, opLdWu), (0x07, opLdD), (0x08, opStB), (0x09, opStH), (0x0A, opStW), (0x0B, opStD)] :
        List (Nat × (PTile → Fin 2 → Fin 64 → Fin 8 → LMode → TileOp))),
        decodeL p port (x.1 * 2 ^ 26 + mem + imm.toNat) = some (x.2 p port d r (.offset imm))
        ∧ decodeL p port (x.1 * 2 ^ 26 + mem + 1 * 2 ^ 14 + imm.toNat) = some (x.2 p port d r (.postImm imm))
        ∧ decodeL p port (x.1 * 2 ^ 26 + mem + 2 * 2 ^ 14 + b.val * 2 ^ 8) = some (x.2 p port d r (.index b))
        ∧ decodeL p port (x.1 * 2 ^ 26 + mem + 3 * 2 ^ 14 + b.val * 2 ^ 8) = some (x.2 p port d r (.postReg b))
        ∧ decodeL p port (x.1 * 2 ^ 26 + mem + 4 * 2 ^ 14 + imm.toNat) = none)
    ∧ decodeL p port (0x0C * 2 ^ 26 + r.val * 2 ^ 17 + 4 * 2 ^ 14 + imm.toNat) = some (opAupd p port r imm)
    ∧ decodeL p port (0x0D * 2 ^ 26 + mem) = some (opMva p port d r) ∧ decodeL p port (0x0E * 2 ^ 26 + mem) = some (opMvg p port d r)
    ∧ decodeM p (0x01 * 2 ^ 26 + dab) = some (opMul p d a b) ∧ decodeM p (0x02 * 2 ^ 26 + dab) = some (opMulh p d a b) ∧ decodeM p (0x03 * 2 ^ 26 + dab) = some (opMulrH p d a b)
    ∧ (∀ x ∈ ([(0x08, opMac), (0x09, opMsu), (0x0A, opMac2H), (0x0B, opMac4B)] : List (Nat × (PTile → Fin 4 → Fin 64 → Fin 64 → BitVec 2 → TileOp))),
        decodeM p (x.1 * 2 ^ 26 + acc + sub.toNat) = some (x.2 p n a b sub))
    ∧ decodeM p (0x10 * 2 ^ 26 + n.val * 2 ^ 20) = some (opAccClr p n)
    ∧ decodeM p (0x11 * 2 ^ 26 + n.val * 2 ^ 20 + a.val * 2 ^ 14 + sh.toNat * 4) = some (opAccLd p n a sh)
    ∧ decodeM p (0x12 * 2 ^ 26 + d.val * 2 ^ 20 + n.val * 2 ^ 14 + sh.toNat * 4 + sub.toNat) = some (opAccMv p d n sh sub)
    ∧ decodeM p (0x13 * 2 ^ 26 + n.val * 2 ^ 20 + a.val * 2 ^ 14) = some (opAccSh p n a)
    ∧ decodeM p (0x14 * 2 ^ 26 + d.val * 2 ^ 20 + n.val * 2 ^ 14) = some (opNorm p d n) ∧ decodeM p (0x15 * 2 ^ 26 + d.val * 2 ^ 20 + n.val * 2 ^ 14) = some (opExp p d n)
    ∧ decodeM p (0x16 * 2 ^ 26 + d.val * 2 ^ 20 + n.val * 2 ^ 14 + b.val * 2 ^ 8) = some (opExpmax p d n b)
    ∧ decodeC p (0x01 * 2 ^ 26 + off.toNat) = some (opBr p off) ∧ decodeC p (0x02 * 2 ^ 26 + d.val * 2 ^ 20 + off.toNat) = some (opBrIf p true d off)
    ∧ decodeC p (0x03 * 2 ^ 26 + d.val * 2 ^ 20 + off.toNat) = some (opBrIf p false d off) ∧ decodeC p (0x04 * 2 ^ 26 + off.toNat) = some (opCall p off)
    ∧ decodeC p (0x05 * 2 ^ 26 + d.val * 2 ^ 20) = some (opBrR p d)
    ∧ decodeC p (0x0B * 2 ^ 26 + r.val * 2 ^ 23 + a.val * 2 ^ 17) = some (opCbSet p r a)
    ∧ decodeC p (0x0C * 2 ^ 26 + d.val * 2 ^ 20 + num.toNat * 2 ^ 12) = some (opMtc p d num) ∧ decodeC p (0x0D * 2 ^ 26 + d.val * 2 ^ 20 + num.toNat * 2 ^ 12) = some (opMfc p d num)
    ∧ decodeC p (0x0E * 2 ^ 26) = some (opRot p) ∧ decodeC p (0x10 * 2 ^ 26 + 1) = some (opMark p true)
    ∧ decodeC p (0x11 * 2 ^ 26 + vs.val * 2 ^ 21 + r.val * 2 ^ 18) = some (opDmaStart p r vs) ∧ decodeC p (0x12 * 2 ^ 26 + vs.val * 2 ^ 21) = some (opArrStart p vs)
    ∧ decodeC p (0x13 * 2 ^ 26 + r.val * 2 ^ 18) = some (opWaitDma p r false) ∧ decodeC p (0x14 * 2 ^ 26 + d.val * 2 ^ 20 + r.val * 2 ^ 17) = some (opWaitFlag p d r false)
    ∧ decodeC p (0x15 * 2 ^ 26 + d.val * 2 ^ 20) = some (opTimeRd p d) ∧ decodeC p (0x16 * 2 ^ 26 + d.val * 2 ^ 20) = some (opRng p d)
    ∧ decodeC p (0x17 * 2 ^ 26 + r.val) = some (opC0Trig p r) ∧ decodeC p (0x18 * 2 ^ 26 + a.val * 8 + r.val) = some (opC0Bell p a r)
    ∧ decodeC p (0x19 * 2 ^ 26 + r.val * 2 ^ 17) = some (opEmit p r) ∧ decodeC p (0x1A * 2 ^ 26) = some (opC0End p) ∧ decodeC p (0x1B * 2 ^ 26) = some (opReti p)
    ∧ decodeC p (0x1C * 2 ^ 26) = some (opEnd p) ∧ decodeC p (0x1D * 2 ^ 26 + a.val * 8) = some (opC1Bell p a)
    ∧ decodeA p 0x04000000 = some (opAdd p 0 0 0) ∧ decodeA p 0x0400000E = none ∧ decodeA p 0x5C000000 = none ∧ decodeL p port 0x3C000000 = none
    ∧ decodeM p 0x05000001 = none ∧ decodeC p 0x78000000 = none ∧ decodeC p 0x00000001 = none

/-- Interrupt entry (03 R107 to R109). -/
def Obligations.InterruptEntry : Prop :=
  ∀ (p : PTile) (s : State),
    (interruptDue s p = false → exec (.interruptEntry p) s = .next s)
    ∧ (interruptDue s p = true → (tile s p).inC0 = false ∧ (tile s p).intCtrl.getLsbD 0 = false
        ∧ ((tile s p).job.branch = [] ∨ waitHeld (tile s p).job = true ∨ (tile s p).vfEntry = true)
        ∧ ∃ src, intSource (tile s p) = some src
          ∧ (src = 15 ↔ (tile s p).vfEntry = true ∨ (tile s p).intPending.getLsbD 15 = true)
          ∧ (src ≠ 15 → src < 12 ∧ (tile s p).intPending.getLsbD src = true ∧ (tile s p).intEnable.getLsbD src = true
              ∧ ∀ j < src, (tile s p).intPending.getLsbD j = false ∨ (tile s p).intEnable.getLsbD j = false)
          ∧ ((∀ e ∈ (tile s p).sched, scalarLanding e.act = true → e.due ≤ s.cycle) →
              ∃ u : Tile, exec (.interruptEntry p) s = .next (modTile s p fun _ => u)
                ∧ u.intPc = (skipLoops (tile s p) (tile s p).job).pc ∧ u.intCause.toNat = src ∧ u.intPending = (tile s p).intPending ∧ u.intEnable = (tile s p).intEnable
                ∧ u.job.pc = (tile s p).intVector ∧ u.job.fetchAt = s.cycle + 8 ∧ u.job.hold = .none
                ∧ u.job.loopCtrl.toNat = 4 * ((skipLoops (tile s p) (tile s p).job).loopCtrl.toNat % 4) ∧ u.vfEntry = false ∧ u.vReissueAt = none
                ∧ (∀ w c b, (tile s p).job.hold = .waitDma c w b → u.intWait = w ∧ u.intCtrl = 3)
                ∧ (∀ e x w b, (tile s p).job.hold = .waitFlag e x w b → u.intWait = w ∧ u.intCtrl = 3)
                ∧ ((tile s p).job.hold = .none → u.intWait = (tile s p).intWait ∧ u.intCtrl = 1)
                ∧ u.job.g = (tile s p).job.g ∧ u.job.a = (tile s p).job.a ∧ u.job.acc = (tile s p).job.acc ∧ u.rot = (tile s p).rot ∧ SameMemories (tile s p) u)
          ∧ ((∃ e ∈ (tile s p).sched, scalarLanding e.act = true ∧ s.cycle < e.due) →
              ∃ last, exec (.interruptEntry p) s = .next (modTile s p fun t => { t with vReissueAt := none, job := skipLoops t t.job, entry := some (src, last + 8) })
                ∧ (∃ e ∈ (tile s p).sched, scalarLanding e.act = true ∧ e.due = last) ∧ ∀ e ∈ (tile s p).sched, scalarLanding e.act = true → e.due ≤ last))

/-- Delivery, dispatch and overrun of class-0 handlers (02 R69 to R71; 03 R115, R117). Delivery of class-1 doorbells (03 R123). -/
def Obligations.Class0AndDoorbells : Prop :=
  (∀ (p : PTile) (s : State),
    (frozen s p = true → exec (.class0TriggerDelivery p) s = .next s)
    ∧ (frozen s p = false → (∀ x ∈ (tile s p).trigs, x.due ≤ s.cycle → x.src < 65 ∧ handlerPc s p x.handler = none) →
        ∃ u, exec (.class0TriggerDelivery p) s = .next u ∧ (tile u p).trigs = (tile s p).trigs.filter (fun x => s.cycle < x.due)
          ∧ (tile u p).c0wait = (tile s p).c0wait
          ∧ let n := ((tile s p).trigs.filter fun x => x.due ≤ s.cycle).length
            (n = 0 → u.ro = s.ro) ∧ (0 < n → roGet u (oTileClass0Unbound p.val) = (roGet s (oTileClass0Unbound p.val) + n) % 2 ^ objBits (oTileClass0Unbound p.val)))
    ∧ (∀ x, frozen s p = false → (tile s p).trigs = [x] → x.due ≤ s.cycle → x.src < 65 → (handlerPc s p x.handler).isSome = true →
        ∃ u, exec (.class0TriggerDelivery p) s = .next u ∧ (tile u p).trigs = [] ∧ (tile u p).c0wait = (tile s p).c0wait ++ [x])
    ∧ (class0Due s p = false → exec (.class0Dispatch p) s = .next s)
    ∧ (∀ x rest, class0Due s p = true → (tile s p).c0wait = x :: rest →
        ∃ u, exec (.class0Dispatch p) s = .next u ∧ (tile u p).inC0 = true ∧ (tile u p).c0wait = rest ∧ (tile u p).entry = none
          ∧ (tile u p).c0run = some { handler := x.handler, start := s.cycle + 28, first := s.cycle, base := max s.cycle (tile s p).switchAt }
          ∧ (tile u p).c0.pc = BitVec.ofNat 32 ((handlerPc s p x.handler).getD 0) ∧ (tile u p).c0.fetchAt = s.cycle + 28
          ∧ (tile u p).c0.g = (tile s p).c0.g ∧ (tile u p).job = skipLoops (tile s p) (tile s p).job ∧ (zeroLoop (tile s p).job = none → (tile u p).job = (tile s p).job) ∧ (tile u p).rot = (tile s p).rot ∧ (tile u p).sched = (tile s p).sched
          ∧ SameMemories (tile s p) (tile u p) ∧ ∀ q, q ≠ p → tile u q = tile s q)
    ∧ (∀ h, (tile s p).c0run = some h → (tile s p).inC0 = true →
        (s.cycle < h.start + 2048 → exec (.class0Overrun p) s = .next s)
        ∧ (h.start + 2048 ≤ s.cycle → exec (.class0Overrun p) s = .next (handlerFault s p cClass0Overrun 0))))
  ∧ (∀ (p : PTile) (s : State), frozen s p = false → (∀ b ∈ (tile s p).bells, b.2 < 64) →
    ∃ u : Tile, exec (.doorbellDelivery p) s = .next (modTile s p fun _ => u)
      ∧ u.bells = (tile s p).bells.filter (fun b => s.cycle < b.1)
      ∧ (∀ i < 64, u.bellFrom.getLsbD i = ((tile s p).bellFrom.getLsbD i || (tile s p).bells.any fun b => decide (b.1 ≤ s.cycle) && b.2 == i))
      ∧ (∀ i < 16, u.intPending.getLsbD i = ((tile s p).intPending.getLsbD i || (decide (i = 11) && (tile s p).bells.any fun b => decide (b.1 ≤ s.cycle))))
      ∧ u = { (tile s p) with bells := u.bells, bellFrom := u.bellFrom, intPending := u.intPending })

/-- Release of waits, the reissues of reti, and the step re-run (03 R83, R106, R110; 04 R159, R163). -/
def Obligations.ResumedIssue : Prop :=
  ∀ (p : PTile) (s : State),
    let t := tile s p
    let live := tileLive s p = true ∧ t.switchAt ≤ s.cycle ∧ t.entry = none ∧ betweenBundles s t = true
    (∀ c w, live → t.rerun = false → t.inC0 = false → t.job.hold = .waitDma c w false →
        exec (.waitRelease p) s = .next (if t.dma.ch[c].active = none ∧ t.dma.ch[c].pend = [] then modTile s p (fun t => { t with job := { t.job with hold := .none } }) else s))
    ∧ (∀ e x w, live → t.rerun = false → t.inC0 = false → t.job.hold = .waitFlag e x w false → badByte t.coreBad x.toNat 8 = none →
        exec (.waitRelease p) s = .next (if leNat (memRead t.core x.toNat 8) = e.toNat then modTile s p (fun t => { t with job := { t.job with hold := .none } }) else s))
    ∧ (∀ c : Fin 8, live → t.inC0 = false → t.reissueAt = some s.cycle → t.vReissueAt = none → t.intWait = waitDmaWord c → t.dma.ch[c].pend ≠ [] →
        exec (.waitReissue p) s = .next (modTile s p fun t => { t with reissueAt := none, issued := s.cycle + 1, lastIssue := s.cycle, job := { t.job with fetchAt := s.cycle + 1, hold := .waitDma c (waitDmaWord c) true } }))
    ∧ (∀ c : Fin 8, live → t.inC0 = false → t.reissueAt = some s.cycle → t.vReissueAt = none → t.intWait = waitDmaWord c → t.dma.ch[c].active = none → t.dma.ch[c].pend = [] →
        exec (.waitReissue p) s = .next (modTile s p fun t => { t with reissueAt := none, issued := s.cycle + 1, lastIssue := s.cycle, job := { t.job with fetchAt := s.cycle + 1, hold := .none } }))
    ∧ (live → t.inC0 = false → t.vReissueAt = some s.cycle →
        exec (.vectorReissue p) s = .next (
          let w : BitVec 32 := t.vresume.setWidth 32
          let start := (t.vresume.toNat / 2 ^ 32) % 512
          let u := modTile s p fun t => { t with vReissueAt := none, vresume := t.vresume &&& 0x7FFFFE00FFFFFFFF#64, issued := s.cycle + 1, lastIssue := s.cycle }
          if vOpc w = 0 then u else issueOne p (opVFrom p w fun _ => start) u))
    ∧ (∀ sh, t.rerun = true → tileLive s p = true → t.inC0 = false → t.switchAt ≤ s.cycle → vecBusy s t = false → refillDue s t = false → t.shadow = some sh →
        exec (.stepRerun p) s = .next (modTile s p fun t => { t with rerun := false, rot := sh.rot, vresume := t.vresume &&& 0x7FFFFFFFFFFFFFFF#64, job := { sh.bank with branch := [], hold := .none, fetchAt := s.cycle + 8 } }))

/-- Issue of every arithmetic row (04 R134, R136, R139, R152). That the mask is read at issue is the model's reading (notes/assumptions/13.md). The legal forms, opcode by opcode (04 R136, R139, R164). -/
def Obligations.VectorArithmetic : Prop :=
  (∀ x ∈ ([(Instr.eAdd, 0x10, 0), (Instr.eSub, 0x10, 1), (Instr.eRsub, 0x10, 2), (Instr.eAnd, 0x10, 3), (Instr.eOr, 0x10, 4), (Instr.eXor, 0x10, 5), (Instr.eShl, 0x10, 6),
      (Instr.eShr, 0x10, 7), (Instr.eSar, 0x10, 8), (Instr.eMin, 0x10, 9), (Instr.eMinu, 0x10, 10), (Instr.eMax, 0x10, 11), (Instr.eMaxu, 0x10, 12),
      (Instr.eAdds, 0x11, 0), (Instr.eAddsu, 0x11, 1), (Instr.eSubs, 0x11, 2), (Instr.eSubsu, 0x11, 3), (Instr.eMul, 0x12, 0), (Instr.eMulh, 0x12, 1),
      (Instr.eMulhu, 0x12, 2), (Instr.eMla, 0x12, 3), (Instr.eMls, 0x12, 4), (Instr.wAdd, 0x13, 0), (Instr.wAddu, 0x13, 1), (Instr.wSub, 0x13, 2),
      (Instr.wSubu, 0x13, 3), (Instr.wMul, 0x13, 4), (Instr.wMulu, 0x13, 5), (Instr.wMulsu, 0x13, 6), (Instr.wMla, 0x13, 7), (Instr.wMlau, 0x13, 8),
      (Instr.nShr, 0x14, 0), (Instr.nSar, 0x14, 1), (Instr.nClip, 0x14, 2), (Instr.nClipu, 0x14, 3), (Instr.vdot4Ss, 0x15, 0), (Instr.vdot4Uu, 0x15, 1),
      (Instr.vdot4Su, 0x15, 2), (Instr.vdot2Ss, 0x15, 3), (Instr.vdot2Uu, 0x15, 4), (Instr.vdot2Su, 0x15, 5), (Instr.mEq, 0x16, 0), (Instr.mNe, 0x16, 1),
      (Instr.mLt, 0x16, 2), (Instr.mLtu, 0x16, 3), (Instr.mLe, 0x16, 4), (Instr.mLeu, 0x16, 5), (Instr.eBlend, 0x17, 0), (Instr.eFill, 0x17, 1), (Instr.xUp, 0x18, 0),
      (Instr.xDown, 0x18, 1), (Instr.xPerm, 0x18, 2), (Instr.rSum, 0x19, 0), (Instr.rMax, 0x19, 1), (Instr.rMaxu, 0x19, 2), (Instr.rMin, 0x19, 3),
      (Instr.rMinu, 0x19, 4), (Instr.rAnd, 0x19, 5), (Instr.rOr, 0x19, 6), (Instr.rXor, 0x19, 7), (Instr.efAdd, 0x20, 0), (Instr.efSub, 0x20, 1), (Instr.efMul, 0x20, 2),
      (Instr.efMla, 0x20, 3), (Instr.efNmla, 0x20, 4), (Instr.efMls, 0x20, 5), (Instr.efMin, 0x20, 6), (Instr.efMax, 0x20, 7), (Instr.efSgn, 0x20, 8),
      (Instr.efSgnn, 0x20, 9), (Instr.efSgnx, 0x20, 10), (Instr.efDiv, 0x21, 0), (Instr.efSqrt, 0x21, 1), (Instr.mFeq, 0x22, 0), (Instr.mFlt, 0x22, 1),
      (Instr.mFle, 0x22, 2), (Instr.efCvtFi, 0x23, 0), (Instr.efCvtFu, 0x23, 1), (Instr.efCvtIf, 0x23, 2), (Instr.efCvtUf, 0x23, 3), (Instr.wfCvt, 0x24, 0),
      (Instr.wfMla, 0x24, 1), (Instr.nfCvt, 0x25, 0), (Instr.rfTree, 0x26, 0), (Instr.rfSeq, 0x26, 1), (Instr.rfMax, 0x26, 2), (Instr.rfMin, 0x26, 3)] :
      List ((PTile → Fin 32 → Fin 32 → Fin 32 → Bool → Fin 4 → Instr) × Nat × Nat)),
    ∀ (p : PTile) (vd src1 vs2 : Fin 32) (masked : Bool) (form : Fin 4) (s : State),
      let t := tile s p
      let w := vArithWord x.2.1 x.2.2 vd src1 vs2 masked form
      let scalar : Word := if form = 1 then gVal t ⟨src1.val, by omega⟩ else if form = 2 then (t.v[src1]).setWidth 64 else if form = 3 then (BitVec.ofNat 5 src1.val).signExtend 64 else 0
      (t.inC0 = true → exec (x.1 p vd src1 vs2 masked form) s = .next (opFault s p cIllegalBundle 0))
      ∧ (t.inC0 = false → vArithIllegal (ewOf t) w = true → exec (x.1 p vd src1 vs2 masked form) s = .next (opFault s p cIllegalBundle 0))
      ∧ (t.inC0 = false → vArithIllegal (ewOf t) w = false → t.vl = 0 → exec (x.1 p vd src1 vs2 masked form) s = .next s)
      ∧ (t.inC0 = false → vArithIllegal (ewOf t) w = false → 0 < t.vl →
          ∃ op : VOp, exec (x.1 p vd src1 vs2 masked form) s = .next (vExecLane s p s.cycle op 0)
            ∧ op.word = w ∧ op.vl = t.vl ∧ op.ew = ewOf t ∧ op.frm = frmOf t ∧ op.mask = (t.v[(0 : Fin 32)]).setWidth 256 ∧ op.scalar = scalar))
  ∧ (∀ x ∈ ([(0x10, 13, [0, 1, 3], [8, 16, 32, 64], false, false), (0x11, 4, [0, 1, 3], [8, 16, 32, 64], false, false), (0x12, 5, [0, 1], [8, 16, 32, 64], false, false),
      (0x13, 9, [0, 1], [8, 16, 32], true, false), (0x14, 4, [0, 1, 3], [8, 16, 32], false, true), (0x16, 6, [0, 1, 3], [8, 16, 32, 64], false, false),
      (0x17, 2, [0, 1, 3], [8, 16, 32, 64], false, false), (0x19, 8, [0], [8, 16, 32, 64], false, false), (0x20, 11, [0, 2], [16, 32, 64], false, false),
      (0x21, 2, [0, 2], [16, 32, 64], false, false), (0x22, 3, [0, 2], [16, 32, 64], false, false), (0x23, 4, [0], [16, 32, 64], false, false),
      (0x25, 1, [0], [16, 32], false, true), (0x26, 4, [0], [16, 32, 64], false, false)] : List (Nat × Nat × List Nat × List Nat × Bool × Bool)),
    ∀ (sub : Fin 256) (vd src1 vs2 : Fin 32) (masked : Bool) (form : Fin 4), ∀ ew ∈ [8, 16, 32, 64],
      (vArithIllegal ew (vArithWord x.1 sub.val vd src1 vs2 masked form) = false ↔
        sub.val < x.2.1 ∧ form.val ∈ x.2.2.1 ∧ ew ∈ x.2.2.2.1 ∧ (x.2.2.2.2.1 = true → vd.val % 2 = 0) ∧ (x.2.2.2.2.2 = true → vs2.val % 2 = 0))
      ∧ (vArithIllegal ew (vArithWord 0x15 sub.val vd src1 vs2 masked form) = false ↔ form = 0 ∧ ((sub.val < 3 ∧ ew = 32) ∨ (3 ≤ sub.val ∧ sub.val < 6 ∧ (ew = 32 ∨ ew = 64))))
      ∧ (vArithIllegal ew (vArithWord 0x18 sub.val vd src1 vs2 masked form) = false ↔ (sub.val < 2 ∧ (form = 1 ∨ form = 3)) ∨ (sub.val = 2 ∧ form = 0))
      ∧ (vArithIllegal ew (vArithWord 0x24 sub.val vd src1 vs2 masked form) = false ↔
        (form = 0 ∨ form = 2) ∧ vd.val % 2 = 0 ∧ ((sub.val = 0 ∧ (ew = 16 ∨ ew = 32)) ∨ (sub.val = 1 ∧ ew = 16))))

/-- A lane of a lane-local operation that neither widens nor narrows: active elements written, tail and masked elements kept (04 R134, R152, R164). -/
def Obligations.VectorLaneResults : Prop :=
  (∀ (s : State) (p : PTile) (issue k : Nat) (op : VOp), k < 8 → op.ew ∈ [8, 16, 32, 64] → op.vl ≤ 2048 / op.ew →
    vOpc op.word ∈ [0x10, 0x11, 0x12, 0x15, 0x17, 0x20, 0x21, 0x23] → ((vReads op.word).any (laneBad (tile s p) k) = false ∧ (k = 0 → (vReadsAtIssue op.word).any (laneBad (tile s p) 0) = false)) →
    let t := tile s p
    let active : Nat → Prop := fun i => i / (256 / op.ew) = k ∧ i < op.vl ∧ (op.word.getLsbD 10 = true → (vOpc op.word = 0x17 ∧ vSub op.word = 0) ∨ op.mask.getLsbD i = true)
    ∃ news : List Sched, vExecLane s p issue op k = modTile s p (fun t => { t with sched := t.sched ++ news })
      ∧ (∀ i, active i → ∃ m b, { due := s.cycle + vLatency (vOpc op.word) (vSub op.word) op.ew, issue := issue, act := .vLane (vVd op.word) m b } ∈ news
          ∧ ∀ old, vElemAt op.ew i (vMerge old m b) = (vElemOp (vOpc op.word) (vSub op.word) op.ew op.frm (vElemAt op.ew i t.v[vVs2 op.word])
              (if field 9 8 op.word.toNat = 0 then vElemAt op.ew i t.v[vSrc1 op.word] else op.scalar.toNat % 2 ^ op.ew) (vElemAt op.ew i t.v[vVd op.word]) (op.mask.getLsbD i)).1 % 2 ^ op.ew)
      ∧ (∀ e ∈ news, ∀ r m b, e.act = .vLane r m b → r = vVd op.word ∧ ∀ i < 2048 / op.ew, ¬ active i → ∀ old, vElemAt op.ew i (vMerge old m b) = vElemAt op.ew i old)
      ∧ (k < 7 ↔ { due := s.cycle + 1, issue := issue, act := .vExec op (k + 1) } ∈ news)
      ∧ (∀ e ∈ news, (∃ r m b, e.act = .vLane r m b) ∨ (∃ f, e.act = .vewSticky f) ∨ e.act = .vExec op (k + 1)))
  ∧ (∀ (s : State) (p : PTile) (issue k : Nat) (op : VOp), (vReads op.word).any (laneBad (tile s p) k) = true ∨ (k = 0 ∧ (vReadsAtIssue op.word).any (laneBad (tile s p) 0) = true) →
      ∃ u, vExecLane (modTile s p fun t => { t with vBad := [] }) p issue op k = u
        ∧ vExecLane s p issue op k = stepFault (modTile u p fun t => { t with vBad := (tile s p).vBad }) p cVlaneParity 0)

/-- Integer element results at one width (04 R136, R140, R164). Widening, narrowing and dot products (04 R140 to R142, R164). That w.mulsu takes vs2 as the signed one and n.clipu a signed source is the model's reading (notes/assumptions/44.md). The floating-point rows by operation, and the one NaN (04 R143, R164). -/
def Obligations.ElementResults : Prop :=
  (∀ w ∈ [8, 16, 32, 64], ∀ (frm : Nat) (x y d : BitVec w) (bl : Bool),
    let r : Nat → Nat → BitVec w := fun opc sub => BitVec.ofNat w (vElemOp opc sub w frm x.toNat y.toNat d.toNat bl).1
    let hi : Int := 2 ^ (w - 1) - 1
    let lo : Int := -2 ^ (w - 1)
    (r 0x10 0 = x + y ∧ r 0x10 1 = x - y ∧ r 0x10 2 = y - x ∧ r 0x10 3 = x &&& y ∧ r 0x10 4 = x ||| y ∧ r 0x10 5 = x ^^^ y)
    ∧ (r 0x10 6 = x <<< (y.toNat % w) ∧ r 0x10 7 = x >>> (y.toNat % w) ∧ r 0x10 8 = x.sshiftRight (y.toNat % w))
    ∧ ((r 0x10 9).toInt = min x.toInt y.toInt ∧ (r 0x10 10).toNat = min x.toNat y.toNat ∧ (r 0x10 11).toInt = max x.toInt y.toInt ∧ (r 0x10 12).toNat = max x.toNat y.toNat)
    ∧ ((r 0x11 0).toInt = max lo (min hi (x.toInt + y.toInt)) ∧ (r 0x11 1).toNat = min (2 ^ w - 1) (x.toNat + y.toNat)
      ∧ (r 0x11 2).toInt = max lo (min hi (x.toInt - y.toInt)) ∧ (r 0x11 3).toNat = x.toNat - y.toNat)
    ∧ (r 0x12 0 = x * y ∧ r 0x12 1 = BitVec.ofInt w (x.toInt * y.toInt / 2 ^ w) ∧ r 0x12 2 = BitVec.ofNat w (x.toNat * y.toNat / 2 ^ w) ∧ r 0x12 3 = d + x * y ∧ r 0x12 4 = d - x * y)
    ∧ (r 0x17 0 = (if bl then y else x) ∧ r 0x17 1 = y))
  ∧ (∀ w ∈ [8, 16, 32], ∀ (frm : Nat) (x y : BitVec w) (X D : BitVec (2 * w)) (d : BitVec 32) (u v : BitVec 32) (U V D6 : BitVec 64) (bl : Bool),
    let wide : Nat → BitVec (2 * w) := fun sub => BitVec.ofNat (2 * w) (vElemOp 0x13 sub w frm x.toNat y.toNat D.toNat bl).1
    let nar : Nat → BitVec w := fun sub => BitVec.ofNat w (vElemOp 0x14 sub w frm X.toNat y.toNat 0 bl).1
    let sh := y.toNat % (2 * w)
    let dot : Nat → BitVec 32 := fun sub => BitVec.ofNat 32 (vElemOp 0x15 sub 32 frm u.toNat v.toNat d.toNat bl).1
    let dot64 : Nat → BitVec 64 := fun sub => BitVec.ofNat 64 (vElemOp 0x15 sub 64 frm U.toNat V.toNat D6.toNat bl).1
    let sum4 : (Nat → Int) → Int := fun f => f 0 + f 1 + f 2 + f 3
    let sb : BitVec 32 → Nat → Int := fun x j => (x.extractLsb' (8 * j) 8).toInt
    let ub : BitVec 32 → Nat → Int := fun x j => (x.extractLsb' (8 * j) 8).toNat
    let sx := x.signExtend (2 * w)
    let sy := y.signExtend (2 * w)
    let zx := x.setWidth (2 * w)
    let zy := y.setWidth (2 * w)
    (wide 0 = sx + sy ∧ wide 1 = zx + zy ∧ wide 2 = sx - sy ∧ wide 3 = zx - zy ∧ wide 4 = sx * sy ∧ wide 5 = zx * zy ∧ wide 6 = sx * zy ∧ wide 7 = D + sx * sy ∧ wide 8 = D + zx * zy)
    ∧ (nar 0 = (X >>> sh).setWidth w ∧ nar 1 = (X.sshiftRight sh).setWidth w
      ∧ (nar 2).toInt = max (-2 ^ (w - 1)) (min (2 ^ (w - 1) - 1) (roundConvergent X.toInt sh)) ∧ ((nar 3).toNat : Int) = max 0 (min (2 ^ w - 1) (roundConvergent X.toInt sh)))
    ∧ (dot 0 = BitVec.ofInt 32 (d.toInt + sum4 fun j => sb u j * sb v j) ∧ dot 1 = BitVec.ofInt 32 (d.toInt + sum4 fun j => ub u j * ub v j) ∧ dot 2 = BitVec.ofInt 32 (d.toInt + sum4 fun j => sb u j * ub v j))
    ∧ (dot64 3 = BitVec.ofInt 64 (D6.toInt + ((U.extractLsb' 0 32).toInt * (V.extractLsb' 0 32).toInt + (U.extractLsb' 32 32).toInt * (V.extractLsb' 32 32).toInt))
      ∧ dot 4 = BitVec.ofInt 32 (d.toInt + (((u.extractLsb' 0 16).toNat : Int) * (v.extractLsb' 0 16).toNat + ((u.extractLsb' 16 16).toNat : Int) * (v.extractLsb' 16 16).toNat))
      ∧ dot 5 = BitVec.ofInt 32 (d.toInt + ((u.extractLsb' 0 16).toInt * (v.extractLsb' 0 16).toNat + (u.extractLsb' 16 16).toInt * (v.extractLsb' 16 16).toNat))))
  ∧ ((∀ (frm x y d : Nat) (bl : Bool), ∀ z ∈ ([(16, bf16), (32, binary32), (64, binary64)] : List (Nat × FloatFmt)),
    let r : Nat → Nat → FRes := fun opc sub => vElemOp opc sub z.1 frm x y d bl
    r 0x20 0 = fAdd z.2 frm x y ∧ r 0x20 1 = fSub z.2 frm x y ∧ r 0x20 2 = fMul z.2 frm x y ∧ r 0x20 3 = fFma z.2 frm x y d
    ∧ r 0x20 6 = fMin z.2 x y ∧ r 0x20 7 = fMax z.2 x y ∧ r 0x21 0 = fDiv z.2 frm x y ∧ r 0x21 1 = fSqrt z.2 frm x
    ∧ r 0x23 0 = fOfInt z.2 frm (signedOf z.1 x) ∧ r 0x23 1 = fOfInt z.2 frm x
    ∧ (z.1 = 16 → r 0x24 0 = fConvert bf16 binary32 frm x ∧ r 0x25 0 = fConvert binary32 bf16 frm x) ∧ (z.1 = 32 → r 0x24 0 = fConvert binary32 binary64 frm x ∧ r 0x25 0 = fConvert binary64 binary32 frm x))
  ∧ (∀ f ∈ [bf16, binary32, binary64], ∀ (frm x y : Nat), isNan (fUnpack f (fAdd f frm x y).1) = true → (fAdd f frm x y).1 = fNaN f)
  ∧ (∀ f ∈ [bf16, binary32, binary64], ∀ (frm x y : Nat), isNan (fUnpack f (fMul f frm x y).1) = true → (fMul f frm x y).1 = fNaN f)
  ∧ (fNaN bf16 = 0x7FC0 ∧ fNaN binary32 = 0x7FC00000 ∧ fNaN binary64 = 0x7FF8000000000000))

/-- Cross-lane results from the captured sources (04 R134, R144, R164; notes/assumptions/20.md and 44.md). -/
def Obligations.CrossLaneResults : Prop :=
  ∀ (op : VOp) (now : BitVec 2048), op.vlen = 2048 → op.ew ∈ [8, 16, 32, 64] → op.vl ≤ 2048 / op.ew →
    let w := op.ew
    let active : Nat → Prop := fun i => i < op.vl ∧ (op.word.getLsbD 10 = true → op.mask.getLsbD i = true)
    let out : BitVec 2048 → BitVec 2048 := fun old => vMerge old (vCrossBits op now).1 (vCrossBits op now).2.1
    let x2 : Nat → Nat := fun i => vElemAt w i op.src2
    let x1 : Nat → Nat := fun i => if field 9 8 op.word.toNat = 0 then vElemAt w i op.src1 else op.scalar.toNat % 2 ^ w
    (vOpc op.word = 0x16 → ∀ old, ∀ i < 256, (active i → (out old).getLsbD i = (match vSub op.word with
          | 0 => decide (x2 i = x1 i) | 1 => decide (x2 i ≠ x1 i) | 2 => decide (signedOf w (x2 i) < signedOf w (x1 i)) | 3 => decide (x2 i < x1 i)
          | 4 => decide (signedOf w (x2 i) ≤ signedOf w (x1 i)) | _ => decide (x2 i ≤ x1 i)))
        ∧ (¬ active i → (out old).getLsbD i = old.getLsbD i))
    ∧ (vOpc op.word = 0x22 → ∀ old, ∀ i < 256, (active i → (out old).getLsbD i = (efCompare (fmtOfWidth w) (vSub op.word) (x2 i) (x1 i)).1) ∧ (¬ active i → (out old).getLsbD i = old.getLsbD i))
    ∧ (vOpc op.word = 0x18 → ∀ old, ∀ i < 2048 / w, (¬ active i → vElemAt w i (out old) = vElemAt w i old)
        ∧ (active i → (vSub op.word = 2 → vElemAt w i (out old) = if vElemAt w i op.src1 < 2048 / w then x2 (vElemAt w i op.src1) else 0)
          ∧ (vSub op.word = 0 → op.scalar.toNat % 2 ^ w ≤ i → vElemAt w i (out old) = x2 (i - op.scalar.toNat % 2 ^ w))
          ∧ (vSub op.word = 1 → i + op.scalar.toNat % 2 ^ w < 2048 / w → vElemAt w i (out old) = x2 (i + op.scalar.toNat % 2 ^ w))))
    ∧ (vOpc op.word = 0x19 → ∀ old, (∀ i, 0 < i → i < 2048 / w → vElemAt w i (out old) = vElemAt w i old)
        ∧ (∃ l : List Nat, l.Nodup ∧ (∀ i, i ∈ l ↔ active i)
          ∧ (vSub op.word = 0 → vElemAt w 0 (out old) = (vElemAt w 0 op.src1 + (l.map x2).sum) % 2 ^ w)
          ∧ (vSub op.word = 2 → vElemAt w 0 (out old) = l.foldl (fun a i => max a (x2 i)) (vElemAt w 0 op.src1))
          ∧ (vSub op.word = 4 → vElemAt w 0 (out old) = l.foldl (fun a i => min a (x2 i)) (vElemAt w 0 op.src1))
          ∧ (vSub op.word = 5 → vElemAt w 0 (out old) = l.foldl (fun a i => a &&& x2 i) (vElemAt w 0 op.src1))
          ∧ (vSub op.word = 6 → vElemAt w 0 (out old) = l.foldl (fun a i => a ||| x2 i) (vElemAt w 0 op.src1))
          ∧ (vSub op.word = 7 → vElemAt w 0 (out old) = l.foldl (fun a i => a ^^^ x2 i) (vElemAt w 0 op.src1))
          ∧ (∀ i ∈ l, vSub op.word = 1 → signedOf w (x2 i) ≤ signedOf w (vElemAt w 0 (out old))) ∧ (∀ i ∈ l, vSub op.word = 3 → signedOf w (vElemAt w 0 (out old)) ≤ signedOf w (x2 i))))

/-- The configuration and single-element operations of the V slot (04 R133, R162, R164). -/
def Obligations.VectorElementMoves : Prop :=
  ∀ (p : PTile) (gd gs gi : Fin 64) (ew : Fin 4) (vs2 vd : Fin 32) (s : State), (tile s p).inC0 = false →
    let t := tile s p
    let w := 8 * 2 ^ ew.val
    let vl := min (gVal t gs).toNat (2048 / w)
    let e := ewOf t
    (exec (.setvl p gd gs ew) s = .next (modTile s p fun t => landVG (land t s.cycle 1 (.setVl vl w)) s.cycle 2 gd (BitVec.ofNat 64 vl)))
    ∧ (∃ x, landAct s p { due := s.cycle, issue := 0, act := .setVl vl w } = modTile s p (fun _ => x) ∧ x.vl = vl ∧ ewOf x = w ∧ x.vew.toNat / 4 = t.vew.toNat / 4)
    ∧ (exec (.vsettle p) s = .next (modTile s p fun t => { t with job := { t.job with hold := .vsettle } }))
    ∧ (laneBad t 0 vs2.val = false → exec (.vfirst p gd vs2) s = .next (modTile s p fun t => landVG t s.cycle 2 gd (BitVec.ofInt 64 (signedOf e (vElemAt e 0 (tile s p).v[vs2])))))
    ∧ ((gVal t gi).toNat < 2048 / e → exec (.vplace p vd gs gi) s = .next (modTile s p fun t =>
        landAt t (s.cycle + 9) s.cycle (.vLane vd (vElemMask e (gVal t gi).toNat) (vElemPut e (gVal t gi).toNat (gVal t gs).toNat))))
    ∧ (2048 / e ≤ (gVal t gi).toNat → exec (.vplace p vd gs gi) s = .next s)
    ∧ (laneBad t 0 vs2.val = false → ∃ op : VOp, op.ew = e ∧ op.scalar = gVal t gi ∧ op.dst = gPhys t gd ∧ op.src2 &&& laneMask 0 = t.v[vs2] &&& laneMask 0
        ∧ exec (.vpick p gd vs2 gi) s = .next (modTile s p fun t => { t with sched := t.sched ++ [{ due := s.cycle + 1, issue := s.cycle, act := .vExec op 1 }] }))
    ∧ (∀ (op : VOp) (issue : Nat), op.word = BitVec.ofNat 32 (10 * 2 ^ 26 + gd.val * 2 ^ 20 + gi.val * 2 ^ 14 + vs2.val * 512) → laneBad t 7 vs2.val = false → op.ew ∈ [8, 16, 32, 64] → op.dst.val ≠ 0 →
        let whole := (op.src2 &&& ~~~(laneMask 7)) ||| (t.v[vs2] &&& laneMask 7)
        vExecLane s p issue op 7 = modTile s p fun t => { t with sched := t.sched ++ [{ due := issue + 9, issue := issue, act := .vgReg op.dst (if op.scalar.toNat < 2048 / op.ew then BitVec.ofInt 64 (signedOf op.ew (vElemAt op.ew op.scalar.toNat whole)) else 0) }] })

/-- Issue of the nine memory forms: which element meets which address, and what stays (04 R137, R146 to R149). -/
def Obligations.VectorMemoryIssue : Prop :=
  ∀ (p : PTile) (v vs2 : Fin 32) (a : Fin 8) (g : Fin 64) (scale : Fin 4) (upd vob masked : Bool) (s : State),
    let t := tile s p
    let n := ewOf t / 8
    let unit : Nat → Nat → Int := fun nf i => (i * nf * n : Nat)
    let strided : Nat → Int := fun i => (gVal t g).toInt * i
    let indexed : Nat → Int := fun i => (vElemAt (ewOf t) i t.v[vs2] * 2 ^ scale.val : Nat)
    ∀ x ∈ ([(Instr.vload p v a upd vob masked, vMemWord 2 v a upd vob masked 0, unit 1), (Instr.vloadS p v a g upd vob masked, vMemWord 3 v a upd vob masked (g.val * 256), strided),
        (Instr.vgather p v a vs2 scale vob masked, vMemWord 4 v a false vob masked (vs2.val * 256 + scale.val), indexed), (Instr.vdeal2 p v a upd masked, vMemWord 5 v a upd false masked 64, unit 2),
        (Instr.vdeal3 p v a upd masked, vMemWord 5 v a upd false masked 128, unit 3), (Instr.vdeal4 p v a upd masked, vMemWord 5 v a upd false masked 192, unit 4),
        (Instr.vstore p v a upd vob masked, vMemWord 6 v a upd vob masked 0, unit 1), (Instr.vstoreS p v a g upd vob masked, vMemWord 7 v a upd vob masked (g.val * 256), strided),
        (Instr.vscatter p v a vs2 scale vob masked, vMemWord 8 v a false vob masked (vs2.val * 256 + scale.val), indexed)] : List (Instr × BitVec 32 × (Nat → Int))),
      (t.inC0 = true ∨ vMemIllegal x.2.1 = true → exec x.1 s = .next (opFault s p cIllegalBundle 0))
      ∧ (t.inC0 = false → t.vl ≤ 2048 / ewOf t → vMemIllegal x.2.1 = false → vFaultOf t x.2.1 0 = none → vMemBad t x.2.1 = false → (∀ c ∈ vPortCycles t x.2.1 0, s.cycle + c ∉ (if x.2.1.getLsbD 16 then t.portV else t.port0)) →
          ∃ (u : Tile) (news : List Sched), exec x.1 s = .next (modTile s p fun _ => u) ∧ SameMemories t u ∧ u.v = t.v ∧ u.job = t.job ∧ u.c0 = t.c0 ∧ u.sched = t.sched ++ news
            ∧ (∀ i < t.vl, (masked = true → (t.v[(0 : Fin 32)]).getLsbD i = true) → ∀ f < (vMemOf t x.2.1).nf,
                ∃ e ∈ news, s.cycle < e.due ∧
                  ((∃ w es d k, e.act = .vReadMem w (ewOf t) es d k ∧ (v.val + f, i, vEa t a (x.2.2 i + ((f * n : Nat) : Int))) ∈ es)
                  ∨ (∃ w r es at_, e.act = .vStoreLanes w r (ewOf t) es at_ ∧ r = v ∧ (i, vEa t a (x.2.2 i)) ∈ es)
                  ∨ (∃ w bs, e.act = .vWriteMem w bs ∧ ∀ j < n, (vEa t a (x.2.2 i) + j, BitVec.ofNat 8 (vElemAt (ewOf t) i t.v[v] / 2 ^ (8 * j))) ∈ bs)))
            ∧ (∀ e ∈ news, ∀ w ew es d k, e.act = .vReadMem w ew es d k → w = x.2.1.getLsbD 16 ∧ ∀ y ∈ es, y.2.1 < t.vl ∧ (masked = true → (t.v[(0 : Fin 32)]).getLsbD y.2.1 = true))
            ∧ (x.2.1.getLsbD 17 = false → ∀ e ∈ news, ∀ c r z, e.act ≠ .aReg c r z)
            ∧ (x.2.1.getLsbD 17 = true → 0 < t.vl → field 53 32 t.job.cb[a].toNat = 0 →
                { due := s.cycle + 1, issue := s.cycle, act := .aReg false a (BitVec.ofInt 32 ((aVal t a).toNat + x.2.2 t.vl)) } ∈ news))

/-- Elements read from and written to memory (04 R148, R150). A vector fault (04 R156 to R158; notes/assumptions/44.md). -/
def Obligations.VectorMemoryAndFaults : Prop :=
  ((∀ (s : State) (p : PTile) (issue ew due : Nat) (vob skew : Bool) (es : List (Nat × Nat × Nat)), ew ∈ [8, 16, 32, 64] → (∀ e ∈ es, e.1 < 32 ∧ e.2.1 < 2048 / ew) →
    (∀ e ∈ es, badByte (if vob then (tile s p).vobBad else (tile s p).coreBad) e.2.2 (ew / 8) = none) →
    ∃ news : List Sched, vReadNow s p issue vob ew es due skew = modTile s p (fun t => { t with sched := t.sched ++ news }) ∧ news.length = es.length
      ∧ ∀ e ∈ es, ∃ x ∈ news, ∃ (r : Fin 32) (m b : BitVec 2048), r.val = e.1 ∧ x.act = .vLane r m b ∧ x.due = due + (if skew then e.2.1 * ew / 256 else 0)
        ∧ (∀ old, vElemAt ew e.2.1 (vMerge old m b) = leNat (memRead (if vob then (tile s p).vob else (tile s p).core) e.2.2 (ew / 8)))
        ∧ (∀ old, ∀ i < 2048 / ew, i ≠ e.2.1 → vElemAt ew i (vMerge old m b) = vElemAt ew i old))
  ∧ (∀ (t : Tile) (now issue : Nat) (vob : Bool) (bytes : List (Nat × Byte)), ∃ (cs : List Commit) (log : List OldByte),
      vWriteNow t now issue vob bytes = { t with commits := t.commits ++ cs, fetchLog := log } ∧ cs.length = bytes.length
      ∧ (∀ b ∈ bytes, { space := (if vob then Space.vob else Space.core), addr := b.1, bytes := [b.2], rank := 2 } ∈ cs)
      ∧ (vob = true → log = t.fetchLog) ∧ (vob = false → ∀ b ∈ bytes, { addr := b.1, old := memGet t.core b.1, at_ := issue } ∈ log)))
  ∧ (∀ (s : State) (p : PTile) (w : BitVec 32) (f : VFault) (ia : Bool), f.cause < 16 → f.elem < 256 →
    let t := tile s p
    let idx : BitVec 32 := BitVec.ofNat 32 (f.cause * 4096 + f.elem)
    let addr : BitVec 32 := BitVec.ofNat 32 ((if f.vob then 2 ^ 31 else 0) + f.addr % 2 ^ 31)
    let noted := modTile s p (fun t => { t with vfaultIdx := idx, vfaultAddr := addr })
    let may := t.vresume.getLsbD 62 = true ∧ ia = false ∧ t.nintEnd ≤ s.cycle ∧ ∀ b ∈ t.job.branch, b.left = 0
    (may → vectorFault s p w f ia = modTile noted p (fun t => { t with vresume := BitVec.ofNat 64 (2 ^ 63 + 2 ^ 62 + f.elem * 2 ^ 32 + w.toNat), intPending := t.intPending ||| 0x8000, vfEntry := true }))
    ∧ (∀ u : State, (tile u p).vfEntry = true → (tile u p).inC0 = false → mayIssue u p = false)
    ∧ (¬ may → vectorFault s p w f ia = jobFault noted p cVectorFault (coreGlobal t (if f.vob then 0x280000 + f.addr else f.addr)) (f.cause * 4096 + f.elem)))

/-- The scalar floating-point rows (04 R126, R138, R153, R164; notes/assumptions/44.md). -/
def Obligations.ScalarFloatOperations : Prop :=
  (∀ x ∈ ([(Instr.fadd, 5, fun f m a b _ => fAdd f m a b), (Instr.fsub, 5, fun f m a b _ => fSub f m a b), (Instr.fmul, 5, fun f m a b _ => fMul f m a b), (Instr.fma, 5, fun f m a b c => fFma f m a b c),
      (Instr.fmin, 5, fun f _ a b _ => fMin f a b), (Instr.fmax, 5, fun f _ a b _ => fMax f a b), (Instr.fdiv, 16, fun f m a b _ => fDiv f m a b), (Instr.fsqrt, 16, fun f m a _ _ => fSqrt f m a)] :
      List ((PTile → Fin 32 → Fin 32 → Fin 32 → Fin 32 → Bool → Instr) × Nat × (FloatFmt → Nat → Nat → Nat → Nat → FRes))),
    ∀ (p : PTile) (fd f1 f2 f3 : Fin 32) (wide : Bool) (s : State), (tile s p).inC0 = false → (∀ r ∈ [f1, f2, f3], laneBad (tile s p) 0 r.val = false) →
      let low : Fin 32 → Nat := fun r => ((tile s p).v[r]).toNat % 2 ^ (if wide then 64 else 32)
      let r := x.2.2 (if wide then binary64 else binary32) (frmOf (tile s p)) (low f1) (low f2) (low f3)
      exec (x.1 p fd f1 f2 f3 wide) s = .next (modTile s p fun t => landVew (landF t s.cycle x.2.1 fd r.1) (s.cycle + x.2.1) s.cycle r.2))
  ∧ (∀ (p : PTile) (g : Fin 64) (f : Fin 32) (s : State), (tile s p).inC0 = false → laneBad (tile s p) 0 f.val = false →
      let bits := ((tile s p).v[f]).toNat % 2 ^ 64
      let i := fToInt binary64 (frmOf (tile s p)) (-2 ^ 63) (2 ^ 63 - 1) bits
      let r := fOfInt binary64 (frmOf (tile s p)) (gVal (tile s p) g).toInt
      exec (.fget p g f) s = .next (modTile s p fun t => landVG t s.cycle 2 g (BitVec.ofNat 64 bits))
      ∧ exec (.fput p g f) s = .next (modTile s p fun t => landF t s.cycle 2 f (gVal t g).toNat)
      ∧ exec (.fcvtGf p g f) s = .next (modTile s p fun t => landVew (landVG t s.cycle 4 g (BitVec.ofInt 64 i.1)) (s.cycle + 4) s.cycle i.2)
      ∧ exec (.fcvtFg p g f) s = .next (modTile s p fun t => landVew (landF t s.cycle 4 f r.1) (s.cycle + 4) s.cycle r.2))
  ∧ (∀ (t : Tile) (now l v : Nat) (fd : Fin 32), v < 2 ^ 64 → ∃ news : List Sched, landF t now l fd v = { t with sched := t.sched ++ news } ∧ news.length = 8
      ∧ ∀ k < 8, ∃ m b, news[k]? = some { due := now + l + k, issue := now, act := .vLane fd m b }
        ∧ ∀ old, ∀ i < 2048, (vMerge old m b).getLsbD i = if i / 256 = k then (decide (i < 64) && v.testBit i) else old.getLsbD i)

/-- Correct rounding of add and multiply in the four modes; scaledF is a finite number times 2^1100 (04 R129, R143). -/
def Obligations.CorrectRounding : Prop :=
  ∀ f ∈ [bf16, binary32, binary64], ∀ x y : Nat, x < 2 ^ (f.ebits + f.mbits + 1) → y < 2 ^ (f.ebits + f.mbits + 1) → ∀ a b : Int, scaledF f x = some a → scaledF f y = some b →
    ∀ z ∈ ([(fun m => (fAdd f m x y).1, (a + b) * 2 ^ 1100), (fun m => (fMul f m x y).1, a * b)] : List ((Nat → Nat) × Int)),
      (∀ r, scaledF f (z.1 1) = some r → r * 2 ^ 1100 ≤ z.2 ∧ ∀ w c, scaledF f w = some c → c * 2 ^ 1100 ≤ z.2 → c ≤ r)
      ∧ (∀ r, scaledF f (z.1 2) = some r → z.2 ≤ r * 2 ^ 1100 ∧ ∀ w c, scaledF f w = some c → z.2 ≤ c * 2 ^ 1100 → r ≤ c)
      ∧ (∀ r, scaledF f (z.1 3) = some r → 0 ≤ r * z.2 ∧ r.natAbs * 2 ^ 1100 ≤ z.2.natAbs ∧ ∀ w c, scaledF f w = some c → c.natAbs * 2 ^ 1100 ≤ z.2.natAbs → c.natAbs ≤ r.natAbs)
      ∧ (∀ r, scaledF f (z.1 0) = some r → ∀ w c, scaledF f w = some c → (r * 2 ^ 1100 - z.2).natAbs ≤ (c * 2 ^ 1100 - z.2).natAbs)

/-- The array's stages (05 R170, R174, R182, R183, R193; 06 R201; 07 R237, R241). -/
def Obligations.ArrayStages : Prop :=
  ∀ (p : PTile) (s : State),
    (∀ r, spanDue (tile s p) s.cycle = some r → ∃ u : Tile, exec (.arraySpanStart p) s = .next (modTile s p fun _ => u)
        ∧ u.arr.weights = r.load ∧ u.arr.scales = r.loadScale ∧ u.arr.grid = (if r.spans = 0 then r.grid else (tile s p).arr.grid)
        ∧ u.arr.acc = (tile s p).arr.acc ∧ u.arr.status = (tile s p).arr.status ∧ SameMemories (tile s p) u ∧ u.sched = (tile s p).sched
        ∧ u.arr.descs = (tile s p).arr.descs.map fun q => if q.t0 = r.t0 then { q with spans := q.spans + 1, spanAt := s.cycle, load := [], loadScale := [] } else q)
    ∧ (spanDue (tile s p) s.cycle = none → exec (.arraySpanStart p) s = .next s)
    ∧ (∀ r e, (tile s p).arr.descs = [r] → r.sums = [e] → e.due ≤ s.cycle → sumBad (tile s p) (dAccSet r.desc) e = false → sumResidueBad (tile s p) (dAccSet r.desc) e = false →
        ∃ u : Tile, exec (.arrayAccUpdate p) s = .next (modTile s p fun _ => u) ∧ SameMemories (tile s p) u
          ∧ (∃ q, u.arr.descs = [q] ∧ q.sums = [] ∧ q.landed = r.landed + 1 ∧ q.lastLand = e.due)
          ∧ u.arr.acc[1 - dAccSet r.desc] = (tile s p).arr.acc[1 - dAccSet r.desc]
          ∧ ∀ n x, e.terms[n]? = some x →
              (smGet {} u.arr.acc[dAccSet r.desc] (256 * e.m + n)).val = (if e.first then 0 else (smGet {} (tile s p).arr.acc[dAccSet r.desc] (256 * e.m + n)).val) + BitVec.ofInt 96 x.1
              ∧ (smGet {} u.arr.acc[dAccSet r.desc] (256 * e.m + n)).inv = ((!e.first && (smGet {} (tile s p).arr.acc[dAccSet r.desc] (256 * e.m + n)).inv) || x.2))
    ∧ ((∀ r ∈ (tile s p).arr.descs, ∀ e ∈ r.sums, s.cycle < e.due) → exec (.arrayAccUpdate p) s = .next s)
    ∧ (∀ r e, (tile s p).arr.descs = [r] → r.sums = [e] → e.due ≤ s.cycle →
        (sumBad (tile s p) (dAccSet r.desc) e = true → exec (.arrayAccUpdate p) s = .next (jobFault s p cArrayParity 0))
        ∧ (sumBad (tile s p) (dAccSet r.desc) e = false → sumResidueBad (tile s p) (dAccSet r.desc) e = true →
            ∃ u : Tile, exec (.arrayAccUpdate p) s = .next (jobFault (modTile s p fun _ => u) p cArithCheck 0)))
    ∧ (∀ (n : Fin 2) (r : ArrRun), (tile s p).arr.descs = [r] → arrDraining r = true → dAccSet r.desc = n → r.lastLand + 1 + r.drained ≤ s.cycle →
        (∀ k, (smGet {} (tile s p).arr.acc[n] k).bad = false) → (tile s p).vobBad = [] →
        ∃ (u : Tile) (x : DrainRead), exec (.arrayDrainRead p n) s = .next (modTile s p fun _ => u) ∧ u.arr.drains = (tile s p).arr.drains ++ [x]
          ∧ x.due = s.cycle + 10 ∧ x.m = r.drained % dMCount r.desc ∧ x.nb = r.drained / dMCount r.desc ∧ x.t0 = r.t0
          ∧ x.vals = (List.range (min 128 (dNCols r.desc - 128 * x.nb))).map (fun i => smGet {} (tile s p).arr.acc[n] (256 * x.m + (128 * x.nb + i)))
          ∧ u.arr.descs = [{ r with drained := r.drained + 1 }] ∧ u.arr.acc = (tile s p).arr.acc ∧ SameMemories (tile s p) u
          ∧ (∀ i, u.arr.mon[i] = if i = dMon r.desc ∧ r.drained = 0 ∧ bitAt 765 r.desc.toNat = true then {} else (tile s p).arr.mon[i]))
    ∧ (∀ n : Fin 2, (∀ r ∈ (tile s p).arr.descs, arrDraining r = false ∨ dAccSet r.desc ≠ n ∨ s.cycle < r.lastLand + 1 + r.drained) → exec (.arrayDrainRead p n) s = .next s)
    ∧ (∀ r x, (tile s p).arr.descs = [r] → (tile s p).arr.drains = [x] → x.t0 = r.t0 → x.due ≤ s.cycle → x.params.length = x.vals.length →
        ∃ u : Tile, exec (.arrayDrainWrite p) s = .next (modTile s p fun _ => u) ∧ u.arr.drains = [] ∧ u.arr.acc = (tile s p).arr.acc
          ∧ u.core = (tile s p).core ∧ u.wbuf = (tile s p).wbuf ∧ u.abuf = (tile s p).abuf ∧ u.vob = (tile s p).vob
          ∧ (∃ cs, u.commits = (tile s p).commits ++ cs ∧ cs.length = x.vals.length
              ∧ ∀ (i : Nat) (a : Accum) (q : Nat × Nat × Nat), x.vals[i]? = some a → x.params[i]? = some q →
                  let o := drainOut r.desc a.val.toInt a.inv q.1 q.2.1 q.2.2
                  cs[i]? = some { space := (if dOutVob r.desc then .vob else .act), addr := outAddr r.desc x.m (128 * x.nb + i), bytes := leBytes (dOutSize r.desc) o.bits, rank := 3 })
          ∧ ∃ q, u.arr.descs = [q] ∧ q.written = r.written + 1 ∧ q.lastWrite = s.cycle)
    ∧ ((∀ x ∈ (tile s p).arr.drains, s.cycle < x.due) → exec (.arrayDrainWrite p) s = .next s)
    ∧ (∀ c r, (arrPlan (tile s p).arr).find? (arrCompletes s.cycle) = some (c, r) → r.sat < 2 ^ 24 → r.invalid < 2 ^ 16 →
        ∃ u : Tile, exec (.arrayComplete p) s = .next (modTile s p fun _ => u) ∧ SameMemories (tile s p) u ∧ u.arr.acc = (tile s p).arr.acc
          ∧ u.arr.status[dAccSet r.desc].toNat = (if dEmpty r.desc then cEmpty else if dDrain r.desc then r.sat * 2 ^ 40 + r.invalid * 2 ^ 16 + cDone else cDone)
          ∧ u.arr.digest[dAccSet r.desc] = (if dDrain r.desc && !dEmpty r.desc then r.digest else 0)
          ∧ u.arr.status[1 - dAccSet r.desc] = (tile s p).arr.status[1 - dAccSet r.desc]
          ∧ ∀ i < 16, u.intPending.getLsbD i = ((tile s p).intPending.getLsbD i || (decide (i = 10) && dIrq r.desc)))
    ∧ (∀ r, boxDue (tile s p) s.cycle = some r → (tile s p).wbufBad = [] →
        (∀ i < min 16 (dBoxes r.desc - r.boxes.length), boxOk r.desc (memRead (tile s p).wbuf (dBoxAddr r.desc + 16 * r.boxes.length + 16 * i) 16) = true) →
        ∃ u : Tile, exec (.arrayBoxListRead p) s = .next (modTile s p fun _ => u) ∧ SameMemories (tile s p) u
          ∧ ∀ q ∈ u.arr.descs, q.t0 = r.t0 → ∃ o ∈ (tile s p).arr.descs, q.boxes = o.boxes ++ (List.range (min 16 (dBoxes r.desc - r.boxes.length))).map fun i =>
              memRead (tile s p).wbuf (dBoxAddr r.desc + 16 * r.boxes.length + 16 * i) 16)
    ∧ (∀ r o, (tile s p).arr.descs = [r] → r.crops = [o] → o.due ≤ s.cycle → o.reads.length = dC1 r.desc →
        ∃ u : Tile, exec (.cropOutputWrite p) s = .next (modTile s p fun _ => u) ∧ u.abuf = (tile s p).abuf ∧ u.vob = (tile s p).vob
          ∧ (∃ q, u.arr.descs = [q] ∧ q.crops = [] ∧ q.written = r.written + 1 ∧ q.lastWrite = s.cycle)
          ∧ u.commits = (tile s p).commits ++ (List.range (min 128 (dKTotal r.desc - 128 * o.cb))).map fun ch =>
              { space := (if dOutVob r.desc then .vob else .act), addr := cropAddr r.desc (leAt ((liveBoxes r).getD o.box []) 10 2) o.m (128 * o.cb + ch),
                bytes := leBytes (dOutSize r.desc) (cropValue r.desc o ch), rank := 3 })

/-- Products, groups, formats, padding and conversion (05 R167 to R171, R186; 06 R203; 07 R229). -/
def Obligations.ArrayArithmetic : Prop :=
  (∀ (d : BitVec 1024) (grid : List Byte) (n : Nat) (rows : List (List Byte)) (acts : List (Option Int)), rows.length = acts.length →
    let good := (rows.zip acts).filterMap fun x => match rowWeight d grid x.1 n, x.2 with | some w, some v => some (w * v) | _, _ => none
    groupSum d grid n rows acts = (good.sum, decide (good.length < rows.length)))
  ∧ (∀ (d : BitVec 1024) (grid row : List Byte) (n : Nat), dWFmt d = 0 → rowWeight d grid row n = some (row.getD n 0).toInt)
  ∧ (∀ (d : BitVec 1024) (grid scales : List Byte) (k g n : Nat) (rows : List (List Byte)) (acts : List (Option Int)),
      columnGroups d grid scales n k g rows acts =
        (((List.range k).map fun j => (groupSum d grid n ((rows.drop (j * dGroup d)).take (dGroup d)) ((acts.drop (j * dGroup d)).take (dGroup d))).1 *
            ((scaleEntry scales (g + j) n).1 : Int) * 2 ^ (scaleEntry scales (g + j) n).2).sum,
         (List.range k).any fun j => (groupSum d grid n ((rows.drop (j * dGroup d)).take (dGroup d)) ((acts.drop (j * dGroup d)).take (dGroup d))).2))
  ∧ (∀ (d : BitVec 1024) (grid scales weights : List Byte) (acts : List (Option Int)) (n : Nat), n < dNCols d →
      (entryTerms d grid scales weights 1 acts)[n]? = ((entryTerms d grid scales weights 0 acts)[n]?).map fun t => (t.1 * 256, t.2))
  ∧ (∀ b < 256, (e4m3Int b = none ↔ b % 128 = 127) ∧ (e5m2Int b = none ↔ 124 ≤ b % 128)
      ∧ (∀ v, e4m3Int b = some v → (v < 0 ↔ 128 < b) ∧ v.natAbs = (if b % 128 < 8 then b % 8 else (8 + b % 8) * 2 ^ (b % 128 / 8 - 1)))
      ∧ (∀ v, e5m2Int b = some v → (v < 0 ↔ 128 < b) ∧ v.natAbs = (if b % 128 < 4 then b % 4 else (4 + b % 4) * 2 ^ (b % 128 / 4 - 1))))
  ∧ (∀ (c : Int) (w : Nat), 0 < w → clampCoord c w < w ∧ foldCoord c w < w ∧ (0 ≤ c → c < w → (clampCoord c w : Int) = c ∧ (foldCoord c w : Int) = c)
      ∧ (1 < w → foldCoord (-c) w = foldCoord c w ∧ foldCoord (c + 2 * ((w : Int) - 1)) w = foldCoord c w))
  ∧ (∀ x ∈ ([(4, 8, -128, 127), (5, 8, 0, 255), (6, 16, -32768, 32767)] : List (Nat × Nat × Int × Int)), ∀ (b : Nat) (n : Bool) (m : Nat) (e : Int), fUnpack binary32 b = .fin n m e →
      let v := (vToInt 0 n m e).1
      convertOut x.1 b = (wrapTo x.2.1 (max x.2.2.1 (min x.2.2.2 v)), decide (v < x.2.2.1 ∨ x.2.2.2 < v)))
  ∧ convertOut 3 0x7F800000 = (0x7C, false) ∧ convertOut 3 0xFF800000 = (0xFC, false)
  ∧ (∀ (d : BitVec 1024) (a : Int) (s r b : Nat), drainOut d a true s r b = { bits := (convertOut (dOutFmt d) 0x7FC00000).1, value := none, sat := false, invalid := true })

/-- The DMA rows (08 R258; 09 R281 to R302, R305, R319). -/
def Obligations.DmaDescriptors : Prop :=
  ∀ (p : PTile) (c : Fin 8) (s : State),
    (∀ d rest, (chan s p c).active = none → (chan s p c).pend = d :: rest →
      (d.valid = true → (tile s p).dma.stopping = none → d.t0 + 5 ≤ s.cycle → (chan s p c).freeAt < s.cycle → descEmpty d.desc = false →
        ∃ u, exec (.dmaDescActivate p c) s = .next u ∧ OnlyTile p s u ∧ (chan u p c).active = some { desc := d.desc, since := s.cycle } ∧ (chan u p c).pend = rest)
      ∧ (d.valid = true → (tile s p).dma.stopping = none → d.t0 + 5 ≤ s.cycle → (chan s p c).freeAt < s.cycle → descEmpty d.desc = true →
        ∃ u, exec (.dmaDescActivate p c) s = .next u ∧ OnlyTile p s u ∧ (chan u p c).active = none ∧ (chan u p c).status = statusWord cEmpty 0 5 0)
      ∧ (d.valid = false ∨ s.cycle < d.t0 + 5 ∨ (tile s p).dma.stopping.isSome = true → exec (.dmaDescActivate p c) s = .next s))
    ∧ (∀ r b sp, (chan s p c).active = some r → mOp r.desc = 0 ∨ mOp r.desc = 3 → patEndpoint s p (srcPattern r.desc) = .mem sp →
        (readable s p r).find? (fun b => let port := portOf (.mem sp) (endpointOf s p (patAddr (srcPattern r.desc) b.1)).2
          !((writePorts s p fun _ => true).contains port) && !((readPorts s p c).contains port)) = some b →
        let off := (endpointOf s p (patAddr (srcPattern r.desc) b.1)).2
        badByte (match sp with | .core => (tile s p).coreBad | .weight => (tile s p).wbufBad | .act => (tile s p).abufBad | .vob => (tile s p).vobBad) off b.2 = none →
        (sp = .core → coreSettled s p = true) →
        ∃ u q, exec (.dmaBurstRead p c) s = .next u ∧ (chan u p c).active = some q ∧ SameMemories (tile s p) (tile u p)
          ∧ q.staged = r.staged ++ [{ pos := b.1, bytes := memRead (match sp with | .core => (tile s p).core | .weight => (tile s p).wbuf | .act => (tile s p).abuf | .vob => (tile s p).vob) off b.2,
                                      due := s.cycle + (if sp = .core then 4 else 2) }]
          ∧ q.written = r.written ∧ (∀ k, k ≠ c → chan u p k = chan s p k) ∧ ∀ o, o ≠ p → tile u o = tile s o)
    ∧ (∀ r, (chan s p c).active = some r → (∀ b ∈ r.staged, b.done = true ∨ s.cycle < b.due ∨ (b.err = 0 ∧ b.hop = false)) →
        exec (.dmaReadDeliver p c) s = .next (modChan s p c fun x => { x with active := some { r with staged := r.staged.map fun b => if b.due ≤ s.cycle then { b with done := true } else b } }))
    ∧ (∀ r b rest, (chan s p c).active = some r → r.staged = b :: rest → b.done = false → b.due ≤ s.cycle →
        (b.hop = true → exec (.dmaReadDeliver p c) s = .next (jobFault (regionFault s (p.val / 9) false) p cRegionFabric b.errAddr))
        ∧ (b.hop = false → b.err ≠ 0 → exec (.dmaReadDeliver p c) s = .next (readFault s p b.err b.errAddr)))
    ∧ (∀ r pos bytes sp, (chan s p c).active = some r → nextWrite s p r = some (pos, bytes) → patEndpoint s p (dstPattern r.desc) = .mem sp → replaying s p = false →
        let off := (endpointOf s p (patAddr (dstPattern r.desc) pos)).2
        portOpen s p (.mem sp) off = true → portOf (.mem sp) off ∉ (writePorts s p fun k => k < c) → (sp = .core → coreSettled s p = true) →
        ∃ u q, exec (.dmaBurstWrite p c) s = .next u ∧ (tile u p).commits = (tile s p).commits ++ [{ space := sp, addr := off, bytes := bytes, rank := 1 }]
          ∧ (chan u p c).active = some q ∧ q.written = pos + bytes.length ∧ q.effect = s.cycle
          ∧ (tile u p).core = (tile s p).core ∧ (tile u p).abuf = (tile s p).abuf ∧ (∀ k, k ≠ c → chan u p k = chan s p k) ∧ ∀ o, o ≠ p → tile u o = tile s o)
    ∧ (∀ r, (chan s p c).active = some r → r.stopping = 0 → r.aborting = false →
        (descDone s p c r = true → ∃ u, exec (.dmaDescComplete p c) s = .next u ∧ OnlyTile p s u ∧ (chan u p c).active = none ∧ (chan u p c).status = statusWord (doneCode r) r.itemCells 5 r.poison
            ∧ (chan u p c).residue = residueOf (residuePattern r.desc) (residueWritten s p r) ∧ (mIrq r.desc = true → (tile u p).intPending.getLsbD c.val = true))
        ∧ (descDone s p c r = false → exec (.dmaDescComplete p c) s = .next s)
        ∧ (mOp r.desc = 1 ∨ mOp r.desc = 2 → patTotal (dstPattern r.desc) ≤ r.written → writesLanded s p c r = true →
            r.effect + (if patEndpoint s p (dstPattern r.desc) = .hbm then 180 else 24) ≤ s.cycle →
            ∃ u, exec (.memEngineDone p c) s = .next u ∧ OnlyTile p s u ∧ (chan u p c).active = none ∧ (chan u p c).status = statusWord cDone r.itemCells 5 r.poison))
    ∧ (∀ r, (chan s p c).active = some r → r.stopping = 0 → r.aborting = true → (∀ b ∈ r.staged, b.done = true) → nextWrite s p r = none → r.copyBuf = [] ∨ mOp r.desc ≠ 2 → writesLanded s p c r = true →
        ∃ u, exec (.dmaAbortComplete p c) s = .next u ∧ OnlyTile p s u ∧ (chan u p c).active = none ∧ (chan u p c).status = statusWord cDmaAborted r.itemCells 6 r.poison
          ∧ (tile u p).intPending.getLsbD c.val = true)
    ∧ (∀ t0, (tile s p).dma.stopping = some t0 → t0 < s.cycle → (∀ k r, (chan s p k).active = some r → stopDone s p k r = true) →
        ∃ u, exec (.dmaEngineStopComplete p) s = .next u ∧ OnlyTile p s u ∧ (tile u p).dma.stopped = true ∧ (tile u p).dma.stopping = none ∧ (∀ k, (chan u p k).active = none ∧ (chan u p k).pend = [])
          ∧ (tile u p).dma.errCh = (tile s p).dma.stopCh ∧ (tile u p).intPending.getLsbD 8 = true)
    ∧ ((tile s p).dma.stopping = none → exec (.dmaEngineStopComplete p) s = .next s)

/-- QUEUE_SLOT, POINTER_SWEEP_COMPLETE, the order of items and admission (09 R306 to R311, R316, R317; 15 R475). That an admission reserves its cells is the model's choice (notes/assumptions/50.md). -/
def Obligations.QueueOperations : Prop :=
  (∀ s : State, ∃ u, exec .queueSlot s = .next u ∧
      (s.queues.slotAt = s.cycle + 1 → u = s)
      ∧ (s.queues.slotAt ≠ s.cycle + 1 →
          let w := chipSide { s with queues := { s.queues with slotAt := s.cycle + 1 } }
          (∀ p, holderOf w (sinceBoundary s % 64) = some p → u = (tileQueueOp w p).getD w) ∧ (holderOf w (sinceBoundary s % 64) = none → u = w)))
  ∧ (∀ (s : State) (o : ChipOp), s.queues.slotAt ≠ s.cycle + 1 → sinceBoundary s % 4 = 0 → holderOf s (sinceBoundary s % 64) = none → s.queues.intake = [o] → o.cells = [] →
      o.queue < 1024 → o.queue ∉ s.queues.ptrBad → 0 < o.bytes.length → o.bytes.length ≤ 64 → 0 < poolFree s → s.queues.used.Pairwise (· < ·) → memWf s.meadow.mem = true →
      ∃ u n, exec .queueSlot s = .next u ∧ n ∉ s.queues.used ∧ (∀ k < n, k ∈ s.queues.used) ∧ n ∈ u.queues.used ∧ n ∈ u.queues.usedB ∧ u.queues.intake = [] ∧ u.queues.slotAt = s.cycle + 1
        ∧ (queueOf u o.queue).items = (queueOf s o.queue).items ++ [{ prio := o.prio, cells := [n], len := o.bytes.length, item := o.item, msg := o.msg }]
        ∧ smGet {} u.queues.ptrB o.queue = queueOf u o.queue
        ∧ (∀ i < 64, memGet u.meadow.mem (0x0FC00000 + 64 * n + i) = o.bytes.getD i 0) ∧ u.tiles = s.tiles)
  ∧ (∀ (s : State) (p : PTile) (c : Fin 8) (r : DmaRun) (j : JobRun), (chan s p c).active = some r → (tile s p).run = some j → j.replay = false → mQueue r.desc = 1032 →
      r.cells = [] → patTotal (srcPattern r.desc) ≤ 64 → 0 < poolFree s → (itemOf s j.item).linked = false →
      ∃ n, (queueOf (enqueueCell s p c) 1032).items
            = (queueOf s 1032).items ++ [{ prio := mPrio r.desc, cells := [n], len := patTotal (srcPattern r.desc), item := some j.item }]
        ∧ (itemOf (enqueueCell s p c) j.item).linked = true ∧ (itemOf (enqueueCell s p c) j.item).linkStep = s.ctrl.step
        ∧ (itemOf (enqueueCell s p c) j.item).state = if (itemOf s j.item).attempt = 0 then .final cDone 0 else .final cRestarted (itemOf s j.item).firstCode)
  ∧ (∀ s : State, ∃ u, exec .pointerSweepComplete s = .next u ∧ u = roAdd (comparePointers s) oQueueSweeps 1 ∧ u.queues.used = u.queues.usedB
      ∧ (mismatched s = [] → s.queues.used = s.queues.usedB → u = roAdd s oQueueSweeps 1)
      ∧ (∀ q, q ∈ mismatched s ↔ smGet {} s.queues.ptrA q ≠ smGet {} s.queues.ptrB q ∨ q ∈ s.queues.ptrBad
          ∨ ∃ i ∈ (queueOf s q).items, ∃ n ∈ i.cells, ¬ (n ∈ s.queues.used ↔ n ∈ s.queues.usedB))
      ∧ (∀ q, 1032 < q → mismatched s = [q] → (∀ p c, worksOn (chan s p c) q = false) →
          (queueOf u q).items = [] ∧ smGet {} u.queues.ptrB q = queueOf u q ∧ q ∉ u.queues.ptrBad ∧ u.tiles = s.tiles
          ∧ (s.queues.ptrA.Pairwise (fun a b => a.1 < b.1) → ∀ k, k ≠ q → queueOf u k = queueOf s k)
          ∧ roGet u oQueueResets = (roGet s oQueueResets + 1) % 2 ^ objBits oQueueResets ∧ ∃ x, u.alaust.raised = s.alaust.raised ++ [x] ∧ x.code = cQueuePointerMismatch))
  ∧ (∀ (u : Queue) (i : QItem), headItem u = some i → ∃ a b, u.items = a ++ i :: b ∧ (∀ x ∈ a, x.prio < i.prio) ∧ ∀ x ∈ b, x.prio ≤ i.prio)
  ∧ (∀ (s : State) (q k : Nat), admits s q k = true ↔ queueFill s q + k ≤ qLimit s q ∧ k ≤ poolFree s - cellsOwed s
      ∧ (q < 1024 → cfgNat s oQueueSysReserve < poolFree s - cellsOwed s - k))

/-- The rows of the memory hierarchy (08 R254, R263, R268, R271 to R277). -/
def Obligations.MemoryCommands : Prop :=
  (∀ (g : Nat) (x : HbmPartial) (s : State), s.hbm.partials = [x] → x.granule = g →
    (x.at_ + 40 ≤ s.cycle → slotFree s x.tile (pseudoOf g) = true → ∃ u, exec (.hbmPartialWriteback g) s = .next u ∧ u.hbm.partials = [] ∧ u.hbm.commits = s.hbm.commits ++ x.bytes
        ∧ (∀ f ∈ u.hbm.flips, f.1 / 64 ≠ g) ∧ u.hbm.mem = s.hbm.mem ∧ (x.tile = none → u.tiles = s.tiles ∧ sysTaken u (pseudoOf g) = true)
        ∧ (∀ p, x.tile = some p → hbmPort (pseudoOf g) ∈ portsUsed u p ∧ ∀ q, q ≠ p → tile u q = tile s q))
    ∧ (s.cycle < x.at_ + 40 ∨ slotFree s x.tile (pseudoOf g) = false → exec (.hbmPartialWriteback g) s = .next s))
  ∧ (∀ (g : Nat) (s : State), (∀ x ∈ s.hbm.partials, x.granule ≠ g) → exec (.hbmPartialWriteback g) s = .next s)
  ∧ (∀ (c : Fin 32) (s : State), (refreshStarts s c.val = false → exec (.hbmRefreshSlot c) s = .next s)
      ∧ (refreshStarts s c.val = true → badSymbols s (s.hbm.patrolPos[c] * 32 + c.val) = [] →
          ∃ u, exec (.hbmRefreshSlot c) s = .next u ∧ u.hbm.mem = s.hbm.mem ∧ u.hbm.flips = s.hbm.flips
            ∧ u.hbm.patrolPos[c] = (if s.hbm.patrolPos[c] + 1 = 12582912 then 0 else s.hbm.patrolPos[c] + 1) ∧ u.tiles = s.tiles)
      ∧ (refreshStarts s c.val = true → (badSymbols s (s.hbm.patrolPos[c] * 32 + c.val)).length = 1 → s.hbm.patrolPos[c] + 1 < 12582912 →
          ∃ u, exec (.hbmRefreshSlot c) s = .next u ∧ badSymbols u (s.hbm.patrolPos[c] * 32 + c.val) = []
            ∧ roGet u oHbmCorrected = (roGet s oHbmCorrected + 1) % 2 ^ objBits oHbmCorrected ∧ u.tiles = s.tiles))
  ∧ (∀ (d : Int) (s : State), ∃ u, exec (.hbmTempChange d) s = .next u ∧ u.hbm.temp = d ∧ u.hbm.mem = s.hbm.mem ∧ u.tiles = s.tiles ∧ u.ctrl = s.ctrl)
  ∧ (∀ (row : Nat) (s : State), (row ∉ s.hbm.repairs → exec (.hbmSoftRemap row) s = .next s)
      ∧ (∀ sp, row ∈ s.hbm.repairs → spareRow s (row / 786432) = some sp →
          ∃ u, exec (.hbmSoftRemap row) s = .next u ∧ u.hbm.remaps = s.hbm.remaps ++ [{ row := row, spare := sp }] ∧ row ∉ u.hbm.repairs ∧ u.hbm.mem = s.hbm.mem)
      ∧ (row ∈ s.hbm.repairs → spareRow s (row / 786432) = none →
          ∃ u x, exec (.hbmSoftRemap row) s = .next u ∧ u.alaust.raised = s.alaust.raised ++ [x] ∧ x.code = cHbmRepairExhausted ∧ cHbmRepairExhausted ∈ u.ctrl.degraded ∧ u.hbm.remaps = s.hbm.remaps))
  ∧ (∀ (slot : Nat) (s : State),
      let taken := bankBusy s (meadowBank slot) = true ∨ berylWants s (meadowBank slot) = true ∨ ∃ p, meadowWant s p = some (meadowBank slot)
      (slot ∉ s.meadow.refills ∨ taken → exec (.meadowRefill slot) s = .next s)
      ∧ (∀ pl r, slot ∈ s.meadow.refills → ¬ taken → s.ctrl.plan = some pl → pl.regions = [r] → r.kind = 1 → r.source = 0 → r.base ≤ meadowBase + slot * 128 → meadowBase + slot * 128 + 128 ≤ r.base + r.length →
          ∃ u, exec (.meadowRefill slot) s = .next u ∧ slot ∉ u.meadow.refills ∧ u.tiles = s.tiles
            ∧ roGet u oMeadowRefills = (roGet s oMeadowRefills + 1) % 2 ^ objBits oMeadowRefills
            ∧ (memWf s.meadow.mem = true → ∀ x, memGet u.meadow.mem x = if slot * 128 ≤ x ∧ x < slot * 128 + 128 then 0 else memGet s.meadow.mem x)))
  ∧ (∀ (p : PTile) (s : State),
      ((∀ e, (tile s p).scrubUntil = some e → e = 0 ∨ s.cycle < e) → exec (.scrubEnd p) s = .next s)
      ∧ (∀ e, (tile s p).scrubUntil = some e → 0 < e → e ≤ s.cycle →
          exec (.scrubEnd p) s = .next (modTile (roAdd s (oTileScrubs p.val) 1) p fun t => { t with scrubUntil := none }))
      ∧ (∀ e k, (tile s p).scrubUntil = some e → s.cycle + 16384 = e + k → k < 16384 → memWf (tile s p).core = true → memWf (tile s p).wbuf = true → memWf (tile s p).abuf = true →
          memWf (tile s p).vob = true →
          let b : Byte := BitVec.ofNat 8 (cfgNat s oMemScrubValue)
          let u := scrubTick s p
          let filled (m n : Mem) (size : Nat) : Prop := ∀ x, memGet n x = if x / 128 = k ∧ x < size then b else memGet m x
          filled (tile s p).core (tile u p).core descArea ∧ filled (tile s p).wbuf (tile u p).wbuf 0x40000 ∧ filled (tile s p).abuf (tile u p).abuf 0x40000
            ∧ filled (tile s p).vob (tile u p).vob 0x10000 ∧ (∀ q, q ≠ p → tile u q = tile s q)
            ∧ (∀ n : Fin 2, (∀ i < 12, (((smGet {} (tile u p).arr.acc[n] k).val.toNat) / 2 ^ (8 * i)) % 256 = b.toNat)
                ∧ (smGet {} (tile u p).arr.acc[n] k).bad = false ∧ (smGet {} (tile u p).arr.acc[n] k).inv = false)))

/-- RTP_PACKET_RECEIVE (01 R26 to R28; 10 R324 to R328). -/
def Obligations.RtpIntake : Prop :=
  (∀ (e : Fin 2) (f : InFrame) (s : State), (udpIngress s e f).1 = false → exec (.rtpPacketReceive e f) s = .next (udpIngress s e f).2)
  ∧ (∀ (e : Fin 2) (f : InFrame) (s s' : State), udpIngress s e f = (true, s') → (∀ r, parseRtp f.payload = some r → matchContext s' e f r = none) →
      exec (.rtpPacketReceive e f) s = .next (roAdd s' (if e = 0 then oStreamUnmatchedEth0 else oStreamUnmatchedEth1) 1))
  ∧ (∀ (e : Fin 2) (f : InFrame) (s s' : State) (r : Rtp) (c h : Nat), udpIngress s e f = (true, s') → parseRtp f.payload = some r → matchContext s' e f r = some c → (ctxOf s' c).high = some h →
      ((r.seq + 65536 - h) % 65536 = 0 ∨ 32768 < (r.seq + 65536 - h) % 65536 → exec (.rtpPacketReceive e f) s = .next (roAdd s' (oCtxLatePackets c) 1))
      ∧ (0 < (r.seq + 65536 - h) % 65536 → (r.seq + 65536 - h) % 65536 ≤ 32768 → cfgNat s' (oCtxCodec c) = 1 → (ctxOf s' c).unit = none →
          1 ≤ leAt r.payload 0 1 % 32 → leAt r.payload 0 1 % 32 ≤ 23 →
          ∃ u, exec (.rtpPacketReceive e f) s = .next u ∧ (ctxOf u c).high = some r.seq ∧ u.tiles = s'.tiles
            ∧ (r.marker = false → u.queues = s'.queues ∧ u.hbm = s'.hbm ∧ (ctxOf u c).unit = some
                { rtp := r.ts, arrival := nowNs s', start := (ctxOf s' c).ringPos, bytes := [0, 0, 0, 1] ++ r.payload, damaged := decide ((r.seq + 65536 - h) % 65536 ≠ 1), idr := decide (leAt r.payload 0 1 % 32 = 5) })
            ∧ (r.marker = true → (ctxOf s' c).state = 2 → leAt r.payload 0 1 % 32 ≠ 5 →
                u.queues = s'.queues ∧ u.hbm = s'.hbm ∧ (ctxOf u c).unit = none ∧ (ctxOf u c).state = 2 ∧ (ctxOf u c).seq = ((ctxOf s' c).seq + 1) % 2 ^ 32)
            ∧ (r.marker = true → (ctxOf s' c).state = 3 → leAt r.payload 0 1 % 32 ≠ 5 → 4 * (4 + r.payload.length) ≤ cfgNat s' (oCtxRingSize c) →
                ringHeld s' c + (4 + r.payload.length) ≤ cfgNat s' (oCtxRingSize c) → unitAdmitted s' c = true → (cfgNat s' (oCtxMaxLuma c) + 2000) * 500000000000 ≤ tokensNow s' c →
                ∃ it, u.queues.intake = s'.queues.intake ++ [{ queue := c, bytes := it }] ∧ leAt it 8 4 = (4 + r.payload.length) % 2 ^ 32 ∧ leAt it 12 4 = (ctxOf s' c).seq % 2 ^ 32
                  ∧ slice it 64 48 = slice (sha384 ([0, 0, 0, 1] ++ r.payload)) 0 48 ∧ (ctxOf u c).state = 3 ∧ (ctxOf u c).unit = none
                  ∧ (ctxOf u c).tokens = tokensNow s' c - (cfgNat s' (oCtxMaxLuma c) + 2000) * 500000000000))
      ∧ (∀ v, 0 < (r.seq + 65536 - h) % 65536 → (r.seq + 65536 - h) % 65536 ≤ 32768 → cfgNat s' (oCtxCodec c) = 1 → (ctxOf s' c).unit = some v → v.rtp = r.ts → v.frag = false →
          r.marker = false → 1 ≤ leAt r.payload 0 1 % 32 → leAt r.payload 0 1 % 32 ≤ 23 →
          ∃ u, exec (.rtpPacketReceive e f) s = .next u ∧ u.tiles = s'.tiles ∧ u.queues = s'.queues ∧ (ctxOf u c).unit = some
            { v with bytes := v.bytes ++ [0, 0, 0, 1] ++ r.payload, damaged := v.damaged || decide ((r.seq + 65536 - h) % 65536 ≠ 1), idr := v.idr || decide (leAt r.payload 0 1 % 32 = 5), fragBytes := [] }))

/-- QUEUE_SLOT for decode, DECODE_UNIT_TAKE, DECODE_UNIT_DONE and DECODE_ENGINE_FAULT (09 R311; 10 R330 to R339). -/
def Obligations.DecodeUnits : Prop :=
  (∀ (s : State) (g : Fin 9) (c n : Nat) (q : QItem) (rest : List Nat), s.queues.slotAt ≠ s.cycle + 1 → sinceBoundary s % 4 = 1 → holderOf s (sinceBoundary s % 64) = none → s.queues.ptrBad = [] →
      (∀ (k : Fin 9) (j : DecodeJob), (s.intake.engines[k]).job = some j → j.cells = []) → freeEngine s = some g → earliest s = some (c, q) → q.cells = n :: rest →
      ∃ u, exec .queueSlot s = .next u ∧ (queueOf u c).items = (queueOf s c).items.filter (fun x => decide (x.cells ≠ q.cells)) ∧ u.tiles = s.tiles ∧ u.hbm = s.hbm
        ∧ (ctxOf u c).engine = some g ∧ (∀ k : Fin 9, k ≠ g → u.intake.engines[k] = s.intake.engines[k])
        ∧ ∃ j, (u.intake.engines[g]).job = some j ∧ j.ctx = c ∧ j.start = s.cycle ∧ j.cells = rest ∧ j.item = (readCell s n).1 ∧ j.poison = (readCell s n).2 ∧ j.taken = false)
  ∧ (∀ s : State, itemRead s = none → exec .decodeUnitTake s = .next s)
  ∧ (∀ (s : State) (g : Fin 9) (j : DecodeJob), itemRead s = some (g, j) →
      let bad := j.poison ≠ 0 ∨ leAt j.item 6 2 % 2 = 1
      let skip := (ctxOf s j.ctx).gapSkip = true ∧ leAt j.item 6 2 / 2 % 2 = 0
      ∃ u, exec .decodeUnitTake s = .next u ∧ u.tiles = s.tiles ∧ u.hbm = s.hbm ∧ u.meadow = s.meadow ∧ (∀ k : Fin 9, k ≠ g → u.intake.engines[k] = s.intake.engines[k])
        ∧ (¬ bad → ¬ skip → (u.intake.engines[g]).job = some { j with taken := true } ∧ (ctxOf u j.ctx).gapSkip = false ∧ u.queues = s.queues
            ∧ (ctxOf u j.ctx).resync = ((ctxOf s j.ctx).resync || decide (leAt j.item 6 2 / 8 % 2 = 1)))
        ∧ (bad ∨ skip → (u.intake.engines[g]).job = none ∧ (ctxOf u j.ctx).engine = none ∧ (ctxOf u j.ctx).gapSkip = true))
  ∧ (∀ (g : Fin 9) (s : State), (s.intake.engines[g]).job = none → exec (.decodeUnitDone g) s = .next s)
  ∧ (∀ (g : Fin 9) (s : State) (j : DecodeJob), (s.intake.engines[g]).job = some j →
      let len := leAt j.item 8 4
      let h264 := decide (cfgNat s (oCtxCodec j.ctx) = 1)
      let r := ringRead s j.ctx (leAt j.item 0 6 - cfgNat s (oCtxRingBase j.ctx)) len
      let d := Config.decodeUnit h264 (ctxOf s j.ctx).history (j.seq, (baseLayer h264 (r.1.getD [])).1)
      let done := j.start + (1000 + max (ceilDiv (d.sps.width * d.sps.height) 2) len)
      (j.taken = false ∨ s.cycle < done → exec (.decodeUnitDone g) s = .next s)
      ∧ (j.taken = true → done ≤ s.cycle →
          ∃ u, exec (.decodeUnitDone g) s = .next u ∧ (u.intake.engines[g]).job = none ∧ (ctxOf u j.ctx).engine = none ∧ u.tiles = s.tiles ∧ u.meadow = s.meadow
            ∧ (∀ slot, r.1.isSome = true → d.error = false → leAt j.item 6 2 / 2 % 2 = 0 → freeSlot s j.ctx = some slot →
                (ctxOf u j.ctx).chain = sha384 (slice (ctxOf s j.ctx).chain 0 48 ++ slice j.item 64 48)
                ∧ ∃ p ∈ (ctxOf u j.ctx).pics, p.slot = slot ∧ p.seq = leAt j.item 12 4 ∧ p.capture = leAt j.item 32 8 ∧ p.width = d.sps.width ∧ p.height = d.sps.height)
            ∧ (d.error = true ∨ r.1 = none ∨ (leAt j.item 6 2 / 2 % 2 = 1 ∧ spsCheck s j.ctx d.sps ≠ 0) → (ctxOf u j.ctx).gapSkip = true ∧ (ctxOf u j.ctx).history = [] ∧ (ctxOf u j.ctx).state ≠ 3)))
  ∧ (∀ (s : State) (c : Nat) (x : SeqParams), spsCheck s c x = 0 ↔
      streamAccepted (decide (cfgNat s (oCtxCodec c) = 1)) x = true ∧ x.width * x.height ≤ cfgNat s (oCtxMaxLuma c)
      ∧ x.buffering + 3 ≤ cfgNat s (oCtxDpbSlots c)
      ∧ x.codedWidth * sampleLen x.tenBit ≤ cfgNat s (oCtxYPitch c) ∧ (x.mono = false → x.codedWidth * sampleLen x.tenBit / 2 ≤ cfgNat s (oCtxCPitch c))
      ∧ cfgNat s (oCtxYPitch c) * x.codedHeight + (if x.mono then 0 else 2 * (cfgNat s (oCtxCPitch c) * (x.codedHeight / 2))) ≤ cfgNat s (oCtxSlotSize c))
  ∧ (∀ (g : Fin 9) (s : State), ((s.intake.engines[g]).failed = true → exec (.decodeEngineFault g) s = .next s)
      ∧ ((s.intake.engines[g]).failed = false → ∃ u, exec (.decodeEngineFault g) s = .next u ∧ (u.intake.engines[g]).failed = true ∧ (u.intake.engines[g]).job = none
          ∧ cDecodeEngineFault ∈ u.ctrl.degraded ∧ (∀ k : Fin 9, k ≠ g → u.intake.engines[k] = s.intake.engines[k]) ∧ u.tiles = s.tiles ∧ u.hbm = s.hbm))

/-- Ports, gates, the order of frames, drops and recovery resets (02 R71; 11 R344 to R352, R359 to R361). That every class passes the 75 cycles of MAC, PCS and serialiser is the model's choice (notes/assumptions/53.md). -/
def Obligations.EthernetPorts : Prop :=
  ∀ (e : Fin 2) (s : State),
    (∀ phy fec, ∃ u, exec (.portLinkChange e false phy fec) s = .next u ∧ (ethPort u e).link = false ∧ (ethPort u e).queue = [] ∧ (ethPort u e).preempt = 0 ∧ (ethPort u e).asCapable = false
        ∧ (ethPort u e).gcl = (ethPort s e).gcl ∧ (∀ o, o ≠ e → ethPort u o = ethPort s o) ∧ u.tiles = s.tiles ∧ u.tx = s.tx)
    ∧ (∀ (phy : BitVec 32) (fec : Bool), domainState s (84 + e.val) = 0 → s.power.ethRefclk = true → (ethPort s e).link = false →
        ∃ u, exec (.portLinkChange e true phy fec) s = .next u ∧ (ethPort u e).link = true ∧ (ethPort u e).verifies = 0 ∧ (ethPort u e).preempt = (if cfgOn s (oPortPreemptEnable e.val) then 1 else 0)
          ∧ (ethPort u e).queue = (ethPort s e).queue ∧ (4 < s.power.phase → s.power.phase ≠ 9 → (ethPort u e).speed = if cfgNat s (oPortMode e.val) ≤ 1 then 10000 else if cfgNat s (oPortMode e.val) = 2 then 2500 else if cfgNat s (oPortMode e.val) = 3 then 1000 else phy.toNat)
          ∧ (∀ o, o ≠ e → ethPort u o = ethPort s o) ∧ u.tiles = s.tiles ∧ u.tx = s.tx)
    ∧ (∀ phy fec, domainState s (84 + e.val) ≠ 0 ∨ s.power.ethRefclk = false ∨ (ethPort s e).link = true → exec (.portLinkChange e true phy fec) s = .next s)
    ∧ ((ethPort s e).link = true → (ethPort s e).preempt = 1 →
        (3 ≤ (ethPort s e).verifies → exec (.preemptVerify e) s = .next (modPort s e fun p => { p with preempt := 3 }))
        ∧ ((ethPort s e).verifies < 3 → ∃ u, exec (.preemptVerify e) s = .next u ∧ (ethPort u e).verifies = (ethPort s e).verifies + 1 ∧ Handed s u e { cls := 7, proto := 8 } ∧ u.tiles = s.tiles)
        ∧ exec (.preemptVerifyResponse e) s = .next (modPort s e fun p => { p with preempt := 2 }))
    ∧ ((ethPort s e).link = false ∨ (ethPort s e).preempt ≠ 1 → exec (.preemptVerify e) s = .next s ∧ exec (.preemptVerifyResponse e) s = .next s)
    ∧ (∀ g, (ethPort s e).gclNext = some g →
        (nowNs s < (ethPort s e).gclNextAt → exec (.gclListSwitch e) s = .next s)
        ∧ ((ethPort s e).gclNextAt ≤ nowNs s → ∃ u, exec (.gclListSwitch e) s = .next u ∧ (ethPort u e).gcl = g ∧ (ethPort u e).gclNext = none
            ∧ (ethPort u e).gclIdx = gclEntryAt g.entries (if g.cycle_ = 0 then 0 else (((nowNs s : Int) - (g.base : Int)) % (g.cycle_ : Int)).toNat) 0 ∧ (ethPort u e).queue = (ethPort s e).queue ∧ u.tiles = s.tiles ∧ u.tx = s.tx))
    ∧ ((ethPort s e).gclNext = none → exec (.gclListSwitch e) s = .next s)
    ∧ ((ethPort s e).gcl.count ≠ 0 → exec (.gclEntryAdvance e) s = .next (modPort s e fun p => { p with gclIdx := gclEntryAt p.gcl.entries (gclPhase s e) 0 }))
    ∧ ((ethPort s e).gcl.count = 0 → exec (.gclEntryAdvance e) s = .next s)
    ∧ (∀ h k, (ethPort s e).link = false → exec (.frameDrop e h k) s = .next s)
    ∧ (∀ h k, (ethPort s e).link = true → k = .pause ∨ k = .pfc ∨ k = .oversize → exec (.frameDrop e h k) s = .next (roAdd s (oPortRxDropped e.val) 1))
    ∧ (∀ h k, (ethPort s e).link = true → k = .tcp ∨ k = .fragment ∨ k = .other →
        exec (.frameDrop e h k) s = .next (if (ingress s e h).1 then roAdd (ingress s e h).2 (oPortRxDropped e.val) 1 else (ingress s e h).2))
    ∧ (∀ (st : BitVec 8) (r : Recovery), smFind s.eth.frer st.toNat = some r → ∃ u, exec (.frerRecoveryReset st) s = .next u ∧ smFind u.eth.frer st.toNat = some { r with high := none, seen := [] } ∧ u.eth.port = s.eth.port ∧ u.tiles = s.tiles)
    ∧ (∀ st : BitVec 8, smFind s.eth.frer st.toNat = none → exec (.frerRecoveryReset st) s = .next s)
    ∧ (∀ h : L2Head, (ethPort s e).link = true → cfgOn s (oMacsecEnable e.val) = false →
        (h.len ≤ 1600 → h.sec = none → h.vid = none → ingress s e h = (true, s)) ∧ (1600 < h.len ∨ h.sec ≠ none → ingress s e h = (false, roAdd s (oPortRxDropped e.val) 1)))
    ∧ (∀ f, nextFrame s e = some f → gateOpen s e f.cls = true ∧ gateTakes s e f = true ∧ (∀ g ∈ (ethPort s e).queue, f.cls < g.cls → g.cls ≤ 7 → gateOpen s e g.cls = false)
        ∧ ∃ a b, (ethPort s e).queue = a ++ f :: b ∧ ∀ g ∈ a, g.cls ≠ f.cls)
    ∧ (∀ f, gateOpen s e (ethPort s e).wireCls = true → nextFrame s e = some f →
        (wireFree s e f = true → ∃ u, portCycle s e = u ∧ u.tx = { port := e, frame := f, src := sourceOf s e f, tag := vlanTag s e f, start := frameStart s e f } :: s.tx
          ∧ (ethPort u e).queue = (ethPort s e).queue.erase f ∧ (∀ o, o ≠ e → ethPort u o = ethPort s o) ∧ u.tiles = s.tiles)
        ∧ (wireFree s e f = false → portCycle s e = s))
    ∧ (∀ f, (ethPort s e).wireX = 0 → (ethPort s e).wireP = 0 → wireFree s e f = true ∧ frameStart s e f = 20 * (s.cycle + 75))

/-- ARP_REQUEST, NEIGHBOR_SOLICITATION, ICMP_ECHO_REQUEST, IGMP_QUERY, MULTICAST_JOIN and MULTICAST_JOIN_REPEAT (10 R324; 11 R345, R346, R363). -/
def Obligations.AddressAnswers : Prop :=
  ∀ (e : Fin 2) (h : L2Head) (s : State),
    ((ingress s e h).1 = true → PortTakes s e →
      (∀ mac ip target, target = cfgBytes s (oPortIpv4 e.val) → allZero target = false → ∃ u, exec (.arpRequest e h mac ip target) s = .next u
          ∧ Handed s u e { cls := 5, dst := mac, proto := 1, body := [0, 1, 8, 0, 6, 4, 0, 2] ++ macOf s e ++ target ++ slice mac 0 6 ++ slice ip 0 4 } ∧ u.tiles = s.tiles)
      ∧ (∀ src target, isV4 target = false → target ∈ ownAddrs s e → ∃ u f, exec (.neighborSolicitation e h src target) s = .next u ∧ Handed s u e f ∧ u.tiles = s.tiles
          ∧ f.cls = 5 ∧ f.proto = 2 ∧ f.src = target ∧ f.body = [136, 0, 0, 0, if allZero src then 0x20 else 0x60, 0, 0, 0] ++ target ++ [2, 1] ++ macOf s e ∧ (allZero src = false → f.dst = src))
      ∧ (∀ src dst data, smFind s.cfg oQciFilters = none → dst ∈ ownAddrs s e →
          let f : EthTx := { cls := 5, dst := src, src := dst, proto := 3, body := [if isV4 dst then 0 else 129, 0, 0, 0] ++ data }
          (frameLen s e f ≤ 1560 → ∃ u, exec (.icmpEchoRequest e h src dst data) s = .next u ∧ Handed s u e f ∧ u.tiles = s.tiles)
          ∧ (1560 < frameLen s e f → exec (.icmpEchoRequest e h src dst data) s = .next (ingress s e h).2))
      ∧ (∀ group j, smFind s.cfg oQciFilters = none → (memberships s e.val).filter (fun j => queried group j.1) = [j] → ∃ u fs, exec (.igmpQuery e h group) s = .next u ∧ (ethPort u e).queue = (ethPort s e).queue ++ fs
          ∧ u.tx = s.tx ∧ u.tiles = s.tiles ∧ fs.length = max 1 ((j.2.length + 79) / 80)
          ∧ (j.2.length ≤ 80 → ∀ f ∈ fs, f.cls = 5 ∧ f.proto = (if isV4 j.1 then 4 else 5)
            ∧ f.body = [if isV4 j.1 then 0x22 else 143, 0, 0, 0, 0, 0, 0, 1, if j.2.isEmpty then 2 else 1, 0] ++ beBytes 2 j.2.length ++ (if isV4 j.1 then j.1.drop 12 else j.1)
                ++ j.2.flatMap fun a => if isV4 j.1 then a.drop 12 else a)))
    ∧ ((ingress s e h).1 = true →
      (∀ mac ip target, target ≠ cfgBytes s (oPortIpv4 e.val) ∨ allZero target = true ∨ portSecured s e = false → exec (.arpRequest e h mac ip target) s = .next (ingress s e h).2)
      ∧ (∀ src target, isV4 target = true ∨ target ∉ ownAddrs s e ∨ portSecured s e = false → exec (.neighborSolicitation e h src target) s = .next (ingress s e h).2)
      ∧ (∀ src dst data, smFind s.cfg oQciFilters = none → dst ∉ ownAddrs s e ∨ portSecured s e = false → exec (.icmpEchoRequest e h src dst data) s = .next (ingress s e h).2)
      ∧ (∀ group, smFind s.cfg oQciFilters = none → (memberships s e.val).filter (fun j => queried group j.1) = [] → exec (.igmpQuery e h group) s = .next (ingress s e h).2))
    ∧ ((ingress s e h).1 = false → ∀ a b c, exec (.arpRequest e h a b c) s = .next (ingress s e h).2 ∧ exec (.neighborSolicitation e h a b) s = .next (ingress s e h).2
        ∧ exec (.icmpEchoRequest e h a b c) s = .next (ingress s e h).2 ∧ exec (.igmpQuery e h a) s = .next (ingress s e h).2)
    ∧ (∀ c : BitVec 10,
        let group := cfgBytes s (oCtxDstAddr c.toNat)
        let srcs := match (memberships s e.val).find? fun m => m.1 = group with | some m => m.2 | none => []
        let reported (u : State) : Prop := ∃ fs, (ethPort u e).queue = (ethPort s e).queue ++ fs ∧ u.tx = s.tx ∧ fs.length = max 1 ((srcs.length + 79) / 80)
          ∧ ∀ f ∈ fs, f.cls = 5 ∧ f.proto = (if isV4 group then 4 else 5) ∧ f.body.getD 8 0 = if srcs.isEmpty then 4 else 5
        ((e.val, c.toNat, false) ∈ s.intake.joinAt → PortTakes s e → ∃ u, exec (.multicastJoin e c) s = .next u ∧ reported u
            ∧ u.intake.joinAt = s.intake.joinAt.erase (e.val, c.toNat, false) ++ [(e.val, c.toNat, true)] ∧ u.tiles = s.tiles)
        ∧ ((e.val, c.toNat, true) ∈ s.intake.joinAt → PortTakes s e → ∃ u, exec (.multicastJoinRepeat e c) s = .next u ∧ reported u
            ∧ u.intake.joinAt = s.intake.joinAt.erase (e.val, c.toNat, true) ∧ u.tiles = s.tiles)
        ∧ ((e.val, c.toNat, false) ∉ s.intake.joinAt → exec (.multicastJoin e c) s = .next s) ∧ ((e.val, c.toNat, true) ∉ s.intake.joinAt → exec (.multicastJoinRepeat e c) s = .next s))

/-- MKA and gPTP (11 R361 to R366; 02 R52, R53). -/
def Obligations.KeyAgreementAndGptp : Prop :=
  ∀ (e : Fin 2) (s : State),
    (∀ sci prio ok sak, mkaActive s e = false ∨ ok = false → exec (.mkpduReceive e sci prio ok sak) s = .next s)
    ∧ (∀ (sci : Word) (prio : BitVec 8) (sak : Bool), mkaActive s e = true →
        (sak = false → (∃ p ∈ (ethPort s e).peers, p.sci = sci.toNat) → exec (.mkpduReceive e sci prio true sak) s =
          .next (modPort s e fun p => { p with peers := p.peers.map fun q => if q.sci = sci.toNat then { q with heard := nowNs s, prio := prio.toNat } else q, mka := max 1 p.mka }))
        ∧ ((∀ p ∈ (ethPort s e).peers, p.sci ≠ sci.toNat) → 4 ≤ (ethPort s e).peers.length → exec (.mkpduReceive e sci prio true sak) s = .next s)
        ∧ ((∀ p ∈ (ethPort s e).peers, p.sci ≠ sci.toNat) → (ethPort s e).peers.length < 4 → keyServer s e = true → cfgNat s (oMacsecKeyServerPriority e.val) < prio.toNat →
            ∃ u, exec (.mkpduReceive e sci prio true sak) s = .next u ∧ (ethPort u e).sak = (ethPort s e).sak + 1 ∧ (ethPort u e).pn = 0 ∧ (ethPort u e).mka = 2
              ∧ (ethPort u e).peers.length = (ethPort s e).peers.length + 1 ∧ Handed s u e { cls := 5, dst := [0x01, 0x80, 0xC2, 0, 0, 0x03], proto := 6 })
        ∧ ((∀ p ∈ (ethPort s e).peers, p.sci ≠ sci.toNat) → (ethPort s e).peers.length < 4 → prio.toNat < cfgNat s (oMacsecKeyServerPriority e.val) → sak = true →
            ∃ u, exec (.mkpduReceive e sci prio true sak) s = .next u ∧ (ethPort u e).sak = (ethPort s e).sak + 1 ∧ (ethPort u e).pn = 0 ∧ (ethPort u e).mka = 2 ∧ u.tx = s.tx))
    ∧ (mkaActive s e = false → exec (.mkaHello e) s = .next s)
    ∧ (mkaActive s e = true → ∃ u, exec (.mkaHello e) s = .next u ∧ Handed s u e { cls := 5, dst := [0x01, 0x80, 0xC2, 0, 0, 0x03], proto := 6 }
        ∧ (ethPort u e).sak = (ethPort s e).sak + (if (ethPort s e).mka = 2 ∧ 2 ^ 62 ≤ (ethPort s e).pn ∧ keyServer s e = true then 1 else 0) ∧ u.tiles = s.tiles)
    ∧ (∃ u, exec (.mkaLifeExpire e) s = .next u ∧ (∀ p, p ∈ (ethPort u e).peers ↔ p ∈ (ethPort s e).peers ∧ nowNs s < p.heard + 6000000000)
        ∧ ((ethPort u e).peers = [] → (ethPort u e).mka ≠ 2) ∧ (∀ o, o ≠ e → ethPort u o = ethPort s o) ∧ u.tx = s.tx ∧ u.tiles = s.tiles)
    ∧ (∀ (h : L2Head), (ingress s e h).1 = true → (ethPort s e).asCapable = true →
        (∀ master : Word, s.eth.ptpState = 1 → s.eth.slave = e.val → ∃ u, exec (.ptpSyncReceive e h master) s = .next u ∧ u.eth.offset = (nowNs s : Int) - ((master.toNat : Int) + ((ethPort s e).pdelay : Int))
            ∧ u.eth.offsets = (u.eth.offset.natAbs :: s.eth.offsets).take 16 ∧ u.eth.lastSync = s.cycle ∧ (ethPort u e).synced = true ∧ u.eth.ptpState = 1 ∧ u.tiles = s.tiles
            ∧ (cfgNat s oTickSource = 1 → s.power.phase = 7 → u.ctrl.lock = if u.eth.offset.natAbs ≤ 1000 then 2 else 1))
        ∧ (∀ (gm : List Byte) (prio : BitVec 64), ∃ u, exec (.ptpAnnounceReceive e h gm prio) s = .next u ∧ (ethPort u e).gm = slice gm 0 8 ∧ (ethPort u e).gmPrio = prio.toNat ∧ u.tiles = s.tiles
            ∧ (s.eth.slave = e.val ∨ (ethPort s (1 - e)).gm = [] ∨ prio.toNat < (ethPort s (1 - e)).gmPrio → u.eth.slave = e.val)))
    ∧ (∀ h, (ingress s e h).1 = false ∨ (ethPort s e).asCapable = false → (∀ m, exec (.ptpSyncReceive e h m) s = .next (ingress s e h).2) ∧ ∀ gm prio, exec (.ptpAnnounceReceive e h gm prio) s = .next (ingress s e h).2)
    ∧ (portUp s e = false → exec (.ptpPdelayTimer e) s = .next s)
    ∧ (PortTakes s e → ∃ u, exec (.ptpPdelayTimer e) s = .next u ∧ (ethPort u e).pdelaySeq = ((ethPort s e).pdelaySeq + 1) % 65536 ∧ (ethPort u e).pdelayAt = nowNs s ∧ u.tiles = s.tiles
        ∧ Handed s u e { cls := 6, dst := [0x01, 0x80, 0xC2, 0, 0, 0x0E], proto := 7, body := [0x12] ++ beBytes 2 (ethPort u e).pdelaySeq })
    ∧ (∀ (h : L2Head) (seq : BitVec 16), PortTakes s e → (ingress s e h).1 = true → ∃ u, exec (.ptpPdelayReqReceive e h seq) s = .next u ∧ u.tiles = s.tiles ∧ u.tx = s.tx
        ∧ (ethPort u e).queue = (ethPort s e).queue ++ [{ cls := 6, dst := [0x01, 0x80, 0xC2, 0, 0, 0x0E], proto := 7, body := [0x13] ++ beBytes 2 seq.toNat ++ beBytes 8 (nowNs s) },
            { cls := 6, dst := [0x01, 0x80, 0xC2, 0, 0, 0x0E], proto := 7, body := [0x1A] ++ beBytes 2 seq.toNat ++ beBytes 8 (nowNs s) }])
    ∧ (∀ (h : L2Head) (seq : BitVec 16), (ingress s e h).1 = false → exec (.ptpPdelayReqReceive e h seq) s = .next (ingress s e h).2)
    ∧ (∀ (h : L2Head) (seq : BitVec 16) (turn : BitVec 64), (ingress s e h).1 = true → seq.toNat = (ethPort s e).pdelaySeq → ∃ u, exec (.ptpPdelayRespReceive e h seq turn) s = .next u
        ∧ (ethPort u e).pdelay = (nowNs s - (ethPort s e).pdelayAt - turn.toNat) / 2 ∧ ((ethPort u e).asCapable = true ↔ (ethPort u e).pdelay ≤ 800) ∧ u.tiles = s.tiles ∧ u.tx = s.tx)
    ∧ (∀ (h : L2Head) (seq : BitVec 16) turn, (ingress s e h).1 = false ∨ seq.toNat ≠ (ethPort s e).pdelaySeq → exec (.ptpPdelayRespReceive e h seq turn) s = .next (ingress s e h).2)
    ∧ (∃ u, exec (.ptpSyncTimeout e) s = .next u ∧ (ethPort u e).synced = false ∧ u.tiles = s.tiles
        ∧ (s.eth.slave ≠ e.val ∨ s.eth.ptpState ≠ 1 → u.eth.ptpState = s.eth.ptpState ∧ u.eth.slave = s.eth.slave ∧ u.ctrl = s.ctrl)
        ∧ (s.eth.slave = e.val → s.eth.ptpState = 1 →
            ((ethPort s (1 - e)).synced = true → u.eth.slave = (1 - e).val ∧ u.eth.ptpState = 1 ∧ u.ctrl = s.ctrl)
            ∧ ((ethPort s (1 - e)).synced = false → (ethPort s (1 - e)).asCapable = false → u.eth.ptpState = 2 ∧ (cfgNat s oTickSource = 1 → s.ctrl.lock ≠ 0 → u.ctrl.lock = 3))))

/-- ALARM_EGRESS, ALARM_PULSE_END, RESULT_EGRESS_SEND, RECORD_SET_CLOSE and ONYX_SEAL_SIGNED (11 R367 to R371; 14 R455 to R465). -/
def Obligations.ResultsAndSeals : Prop :=
  ∀ s : State,
    (∀ x, s.eth.alarms = [x] → x.due ≤ s.cycle → ∃ u op, exec .alarmEgress s = .next u ∧ u.eth.alarms = [] ∧ u.ctrl.event = s.ctrl.event + 1 ∧ u.tiles = s.tiles
        ∧ u.eth.pulses = addPulse s.eth.pulses (s.cycle + 30) (cfgNat s oAlarmPulseWidth / 2) ∧ u.queues.sys = s.queues.sys ++ [op] ∧ op.queue = 1032
        ∧ u.eth.building = s.eth.building ++ [(s.cycle + 150, alarmHeader s { x with event := s.ctrl.event } ++ slice x.body 0 64)] ∧ u.tx = s.tx)
    ∧ (∀ t body, s.eth.building = [(t, body)] → t ≤ s.cycle → cfgNat s oAlarmPorts = 1 → PortTakes s 0 → ∃ u, alarmFrames s = u ∧ u.eth.building = [] ∧ u.eth.alarmSeq = s.eth.alarmSeq + 1
        ∧ Handed s u 0 { cls := 7, dst := cfgBytes s oAlarmDstAddr, dport := cfgNat s oAlarmUdpPort, proto := 0, rtag := some s.eth.alarmSeq.toNat, body := body })
    ∧ ((∀ x ∈ s.eth.building, s.cycle < x.1) → alarmFrames s = s)
    ∧ ((∀ x ∈ s.eth.alarms, s.cycle < x.due) → exec .alarmEgress s = .next s)
    ∧ (∃ u, exec .alarmPulseEnd s = .next u ∧ (∀ x, x ∈ u.eth.pulses ↔ x ∈ s.eth.pulses ∧ s.cycle < x.2) ∧ u.tiles = s.tiles ∧ u.eth.port = s.eth.port ∧ u.tx = s.tx)
    ∧ (∀ q n rest, s.queues.slotAt ≠ s.cycle + 1 → sinceBoundary s % 4 = 2 → holderOf s (sinceBoundary s % 64) = none → s.queues.ptrBad = [] → s.queues.egress = none → s.ctrl.down = none →
        headItem (queueOf s 1032) = some q → q.cells = n :: rest → ∃ u, exec .queueSlot s = .next u ∧ u.tiles = s.tiles
          ∧ (queueOf u 1032).items = (queueOf s 1032).items.filter (fun x => decide (x.cells ≠ q.cells))
          ∧ u.queues.egress = some { item := q, cells := rest, bytes := (readCell s n).1, poison := (readCell s n).2 })
    ∧ (s.queues.egress = none ∨ s.ctrl.down ≠ none → exec .resultEgressSend s = .next s)
    ∧ (∀ x, s.queues.egress = some x → x.cells ≠ [] → exec .resultEgressSend s = .next s)
    ∧ (∀ x, s.queues.egress = some x → x.cells = [] → s.ctrl.down = none →
        let q := x.item
        let t := x.bytes.take q.len
        ∃ u, exec .resultEgressSend s = .next u ∧ u.queues.egress = none ∧ u.tiles = s.tiles
          ∧ (∀ k, q.item = some k → x.poison ≠ 0 → (itemOf u k).state = .final cFailed cQueuePoison)
          ∧ (x.poison = 0 →
            (∀ k, q.item = some k → wellFormedRecord t q.len = true →
              let body := recordBody (itemFields s (itemOf s k)) false t
              (itemOf u k).recorded = true ∧ (itemOf u k).outcome = outcomeField (itemFields s (itemOf s k)) false t ∧ u.ctrl.seq = s.ctrl.seq + max 1 (ceilDiv body.length 1400)
                ∧ (∀ x, setOf s (itemOf s k).tick = some x → ∃ y ∈ u.ctrl.sets, y.tick = x.tick ∧ ∃ r ∈ y.leaves, r.digest = sha384 body))
          ∧ (∀ k, q.item = some k → wellFormedRecord t q.len = false → (itemOf u k).state = .final cFailed cRecordMalformed)
          ∧ (∀ m, q.item = none → q.msg = some m → (smGet {} s.ctrl.msgs m).item = none → (smGet {} s.ctrl.msgs m).alarm = none → (smGet {} s.ctrl.msgs m).ended = none →
              u.ctrl.seq = s.ctrl.seq + max 1 (ceilDiv (smGet {} s.ctrl.msgs m).body.length 1400)
                ∧ ((smGet {} s.ctrl.msgs m).kind = 2 → u.ctrl.sealSent = some (sha384 (smGet {} s.ctrl.msgs m).body) ∧ u.ctrl.seals = s.ctrl.seals + 1))))
    ∧ (∀ x rest, s.ctrl.sets = x :: rest →
        (x.message ≠ none ∨ itemsRecorded s x.tick = false ∨ x.alarms ≠ 0 ∨ (x.closed = false ∧ anyHandler s = true) → exec .recordSetClose s = .next s)
        ∧ (x.message = none → itemsRecorded s x.tick = true → x.alarms = 0 → (x.closed = true ∨ anyHandler s = false) → ∃ u y m, exec .recordSetClose s = .next u ∧ u.ctrl.sets = y :: rest ∧ y.message = some m ∧ y.closed = true
            ∧ y.leaves = x.leaves ∧ leAt m 0 8 = x.tick % 2 ^ 64 ∧ leAt m 24 4 = x.leaves.length % 2 ^ 32 ∧ slice m 80 48 = slice (rootOf x.leaves) 0 48 ∧ slice m 128 48 = slice (s.ctrl.prevSeal.getD []) 0 48 ∧ m.length = 176
            ∧ u.tiles = s.tiles ∧ u.queues = s.queues)
        ∧ (∀ m, x.message = some m → s.ctrl.enclaveFails < 2 → ∃ u op, exec .onyxSealSigned s = .next u ∧ u.ctrl.sets = rest ∧ u.ctrl.prevSeal = some (sha384 (m ++ beBytes 96 (Config.attest (sha384 m) 0)))
            ∧ u.queues.sys = s.queues.sys ++ [op] ∧ op.queue = 1032 ∧ op.bytes = m ++ beBytes 96 (Config.attest (sha384 m) 0) ∧ u.tiles = s.tiles)
        ∧ (x.message = none → exec .onyxSealSigned s = .next s))
    ∧ (s.ctrl.sets = [] → exec .recordSetClose s = .next s ∧ exec .onyxSealSigned s = .next s)
    ∧ (2 ≤ s.ctrl.enclaveFails → exec .onyxSealSigned s = .next s)
    ∧ (rootOf [] = sha384 [] ∧ (∀ a, rootOf [a] = sha384 (0 :: a.digest)) ∧ ∀ a b, leafLe a b = true → rootOf [a, b] = sha384 (1 :: (sha384 (0 :: a.digest) ++ sha384 (0 :: b.digest))))

/-- The tick rows (model's choices on edges and placement: notes/assumptions/36.md): TICK_BOUNDARY, STEP_BOUNDARY, GUARD_START, LB_ITEM_TAKE, ITEM_TIMEOUT, TICK_IN_EDGE, TICK_IN_LOSS, TICK_FRAME_LOSS and TICK_OUT_END (02 R42 to R53, R66; 15 R476; 13 R436). -/
def Obligations.TicksAndSteps : Prop :=
  ∀ s : State,
    (boundaryDue s = false → exec .tickBoundary s = .next s)
    ∧ (boundaryDue s = true → s.power.phase = 8 → s.alaust.accepted = [] → s.alaust.lcTo = none →
        ∃ u, exec .tickBoundary s = .next u ∧ u.ctrl.tick = max (s.ctrl.tick + 1) (if cfgNat s oTickSource = 1 then reachedTick s else s.ctrl.nextTick.getD 0)
          ∧ u.ctrl.boundary = s.cycle ∧ u.ctrl.step = 0 ∧ u.ctrl.guard = false ∧ u.ctrl.nextTick = none ∧ (cfgOn s oTickTickOut = true → u.power.tickOutAt = some (s.cycle + 10)))
    ∧ (boundaryDue s = true → 7 < s.power.phase → s.power.phase = 8 ∧ s.ctrl.guard = true ∧ s.power.cut = none
        ∧ (cfgNat s oTickSource = 0 → s.ctrl.boundary + pNom (periodN s) (periodD s) ≤ s.cycle)
        ∧ (cfgNat s oTickSource = 1 → s.ctrl.rephase = false → s.ctrl.lock ≠ 3 → (tickTime s (s.ctrl.tick + 1) : Int) + (phaseError s - slewed s (phaseError s)) ≤ (nowNs s : Int)))
    ∧ (∀ err : Int, (slewed s err).natAbs ≤ 2 * cfgNat s oTickSlewLimit ∧ (err.natAbs ≤ 2 * cfgNat s oTickSlewLimit → slewed s err = err))
    ∧ (s.power.tickOutAt = none → exec .tickOutEnd s = .next s)
    ∧ (∀ c, s.power.tickOutAt = some c → (s.cycle < c + 500 → exec .tickOutEnd s = .next s)
        ∧ (c + 500 ≤ s.cycle → exec .tickOutEnd s = .next { s with power := { s.power with tickOut := false, tickOutAt := none } })
        ∧ (c = s.cycle → raiseTickOut s = { s with power := { s.power with tickOut := true } }) ∧ (c ≠ s.cycle → raiseTickOut s = s))
    ∧ (ticking s = false ∨ s.ctrl.guard = true → exec .stepBoundary s = .next s ∧ exec .guardStart s = .next s)
    ∧ (ticking s = true → s.ctrl.guard = false →
        (s.ctrl.step + 1 < stepsNow s → s.ctrl.boundary + 8192 * (s.ctrl.step + 1) ≤ s.cycle → exec .guardStart s = .next s ∧
            ∃ u, exec .stepBoundary s = .next u ∧ u.ctrl.step = s.ctrl.step + 1 ∧ u.ctrl.tick = s.ctrl.tick ∧ u.ctrl.boundary = s.ctrl.boundary ∧ u.ctrl.guard = false ∧ u.power.level = (if cfgOn s oPowerCapEnable then s.power.next else 0) ∧ u.meadow.refills = [])
        ∧ (stepsNow s ≤ s.ctrl.step + 1 → s.ctrl.boundary + 8192 * stepsNow s ≤ s.cycle → exec .stepBoundary s = .next s ∧
            ∃ u, exec .guardStart s = .next u ∧ u.ctrl.guard = true ∧ u.ctrl.guardAt = s.cycle ∧ u.ctrl.step = stepsNow s ∧ u.ctrl.tick = s.ctrl.tick ∧ ∀ p, (tile u p).run = none))
    ∧ (∀ p, ticking s = false ∨ s.ctrl.runs = false ∨ s.ctrl.guard = true ∨ cfgOn s oPlanLoadBalance = false ∨ takesNext s p = false ∨ sharedHead s = none → exec (.lbItemTake p) s = .next s)
    ∧ (∀ p q x k, ticking s = true → s.ctrl.runs = true → s.ctrl.guard = false → cfgOn s oPlanLoadBalance = true → takesNext s p = true → sharedHead s = some (q, x) → q ∉ s.queues.ptrBad → x.item = some k → (readItem s x.cells).2 = 0 →
        ∃ u r, exec (.lbItemTake p) s = .next u ∧ (tile u p).run = some r ∧ r.item = k ∧ r.attempt = 0 ∧ r.start = s.cycle ∧ (itemOf u k).state = .running p ∧ (itemOf u k).marks.getLsbD 3 = true
          ∧ (queueOf u q).items = (queueOf s q).items.filter (fun y => decide (y.cells ≠ x.cells)) ∧ (tile u p).jobId = BitVec.ofNat 16 (itemOf s k).job ∧ ∀ o, o ≠ p → tile u o = tile s o)
    ∧ (∀ p, (∀ r, (tile s p).run = some r → (ticking s && !s.ctrl.guard && decide (allowedSteps s (tile s p) r * 8192 < liveCycles r (stepCycle s s.ctrl.step))) = false) → exec (.itemTimeout p) s = .next s)
    ∧ (∀ p r, (tile s p).run = some r → ticking s = true → s.ctrl.guard = false → allowedSteps s (tile s p) r * 8192 < liveCycles r (stepCycle s s.ctrl.step) →
        ∃ u, exec (.itemTimeout p) s = .next u ∧ (tile u p).run = none ∧ ∃ n ∈ u.alaust.raised, n.code = cItemTimeout)
    ∧ (cfgNat s oTickSource ≠ 2 ∨ s.power.phase < 7 ∨ 8 < s.power.phase ∨ s.power.cut ≠ none → exec .tickInEdge s = .next s)
    ∧ (cfgNat s oTickSource = 2 → s.power.phase = 7 ∨ (s.power.phase = 8 ∧ s.ctrl.guard = false) → s.power.cut = none →
        (s.ctrl.edgeAt = none → exec .tickInEdge s = .next { s with ctrl := { s.ctrl with edgeAt := some s.cycle, edgesMissed := 0 } })
        ∧ (∀ e, s.ctrl.edgeAt = some e → edgeError s e ≤ cfgNat s oTickTickInWindow → ∃ u, exec .tickInEdge s = .next u ∧ u.ctrl.edgeAt = some s.cycle ∧ u.ctrl.edgesMissed = 0 ∧ u.ctrl.tick = s.ctrl.tick
            ∧ u.tiles = s.tiles ∧ (s.power.phase = 7 → u.ctrl.lock = 2)
            ∧ (s.power.phase = 8 → u.ctrl.lock = if (phaseError (sourceEdge s s.cycle)).natAbs ≤ 1000 then 2 else if s.ctrl.lock = 3 then 1 else s.ctrl.lock))
        ∧ (∀ e, s.ctrl.edgeAt = some e → cfgNat s oTickTickInWindow < edgeError s e → ∃ u, exec .tickInEdge s = .next u ∧ u.ctrl.edgesIgnored = s.ctrl.edgesIgnored + 1 ∧ u.ctrl.lock = s.ctrl.lock
            ∧ u.ctrl.edgeAt = (if s.ctrl.lock = 2 then some e else some s.cycle) ∧ u.tiles = s.tiles))
    ∧ (∀ e, cfgNat s oTickSource = 2 → ticking s = true → s.ctrl.guard = true → s.ctrl.lock = 2 → s.ctrl.edgeAt = some e → edgeError s e ≤ cfgNat s oTickTickInWindow → s.alaust.accepted = [] → s.alaust.lcTo = none →
        ∃ u, exec .tickInEdge s = .next u ∧ u.ctrl.tick = max (s.ctrl.tick + 1) (s.ctrl.nextTick.getD 0) ∧ u.ctrl.boundary = s.cycle ∧ u.ctrl.step = 0 ∧ u.ctrl.guard = false ∧ u.ctrl.lock = 2)
    ∧ (cfgNat s oTickSource = 2 → s.ctrl.lock ≠ 3 → cfgNat s oTickTickInLoss ≤ s.ctrl.edgesMissed → ∃ u, exec .tickInLoss s = .next u ∧ u.ctrl.lock = 3 ∧ u.tiles = s.tiles)
    ∧ (cfgNat s oTickSource ≠ 2 ∨ s.ctrl.lock = 3 ∨ s.ctrl.edgesMissed < cfgNat s oTickTickInLoss → exec .tickInLoss s = .next s)
    ∧ (cfgNat s oTickSource = 3 → s.ctrl.lock ≠ 3 → cfgNat s oTickTickInLoss ≤ s.ctrl.edgesMissed → ∃ u, exec .tickFrameLoss s = .next u ∧ u.ctrl.lock = 3 ∧ u.tiles = s.tiles)
    ∧ (cfgNat s oTickSource ≠ 3 ∨ s.ctrl.lock = 3 ∨ s.ctrl.edgesMissed < cfgNat s oTickTickInLoss → exec .tickFrameLoss s = .next s)

/-- SAVE_DIGEST_COMPLETE, RESUME_VERIFY_COMPLETE, CHECKPOINT_COMMIT, PLAN_ACTIVATION_LOAD, PACKAGE_DIR_JOURNAL, FIRMWARE_REWRITE_DONE, FIRMWARE_SELF_CHECK_DONE (14 R452, R453; 16 R513 to R530). -/
def Obligations.SavesAndStore : Prop :=
  ∀ s : State,
    (s.ctrl.paused = true → s.ctrl.saving = true → exec .saveDigestComplete s = .next { (saveDigest s).2 with ctrl := { s.ctrl with save := some (saveDigest s).1, saving := false } })
    ∧ (s.ctrl.paused = false ∨ s.ctrl.saving = false → exec .saveDigestComplete s = .next s)
    ∧ (s.ctrl.plan = none → saveDigest s = (sha384 [], s)) ∧ (saveDigest s).2.ctrl = s.ctrl ∧ (saveDigest s).2.tiles = s.tiles ∧ (saveDigest s).2.meadow = s.meadow
    ∧ (∀ p r, s.ctrl.plan = some p → p.regions.filter (fun r => r.kind = 2 || r.kind = 3) = [r] → meadowBase ≤ carriedCopy r s.ctrl.nextRun →
        (saveDigest s).1 = sha384 (memRead s.meadow.mem (carriedCopy r s.ctrl.nextRun - meadowBase) r.length))
    ∧ (s.ctrl.verify ≠ 1 → exec .resumeVerifyComplete s = .next s)
    ∧ (s.ctrl.verify = 1 → (s.ctrl.save = some (saveDigest s).1 → exec .resumeVerifyComplete s = .next { (saveDigest s).2 with ctrl := { s.ctrl with verify := 2 } })
        ∧ (s.ctrl.save ≠ some (saveDigest s).1 → ∃ u n, exec .resumeVerifyComplete s = .next u ∧ u.ctrl.verify = 3 ∧ u.alaust.raised = (saveDigest s).2.alaust.raised ++ [n] ∧ n.code = cDetSaveMismatch ∧ u.tiles = s.tiles))
    ∧ (s.ctrl.checkpoint = none ∨ s.ctrl.plan = none → exec .checkpointCommit s = .next s)
    ∧ (∀ run p, s.ctrl.checkpoint = some run → s.ctrl.plan = some p → ∃ u, exec .checkpointCommit s = .next u ∧ u.ctrl.checkpoint = none ∧ u.tiles = s.tiles ∧ u.meadow = s.meadow
        ∧ (∀ r, p.regions.find? (fun r => r.kind = 3) = some r → checkpointContexts s = [] → s.keep.programBad = [] → (s.keep.pos + recLen (.cpCommit run p.cpLayout p.digest 0)) / 65536 + 2 ≤ s.keep.ready →
            u.keep.recs = s.keep.recs ++ [{ jseq := s.keep.next, gen := s.keep.otp.transitions, at_ := s.keep.pos, body := .cpCommit run p.cpLayout p.digest 0 }]))
    ∧ (s.ctrl.plan = none ∨ s.ctrl.loading = false → exec .planActivationLoad s = .next s)
    ∧ (∀ p, s.ctrl.plan = some p → s.ctrl.loading = true → ∃ u, exec .planActivationLoad s = .next u ∧ u.ctrl.loading = false ∧ u.ctrl.plan = some p ∧ u.ctrl.nextRun = s.ctrl.restore.getD 0 ∧ u.ctrl.runs = s.ctrl.runs
        ∧ ∀ q, (tile u q).run = (tile s q).run ∧ (tile u q).job = (tile s q).job)
    ∧ (∀ d, s.saving.find? (fun p => p.digest = d) = none → exec (.packageDirJournal d) s = .next s)
    ∧ (∀ d p, s.saving.find? (fun p => p.digest = d) = some p →
        (storePlace s p.bytes.length = none → ∃ u n, exec (.packageDirJournal d) s = .next u ∧ (∀ x ∈ u.saving, x.digest ≠ d) ∧ u.alaust.raised = s.alaust.raised ++ [n] ∧ n.code = cStoreFull ∧ u.keep = s.keep)
        ∧ (∀ dev o, storePlace s p.bytes.length = some (dev, o) → s.keep.programBad = [] → ∃ u x, exec (.packageDirJournal d) s = .next u ∧ (∀ y ∈ u.saving, y.digest ≠ d) ∧ x ∈ u.keep.store ∧ x.digest = d ∧ x.bytes = p.bytes ∧ x.device = dev ∧ x.offset = o ∧ x.listed = true
            ∧ u.tiles = s.tiles))
    ∧ (s.fw.state ≠ 3 → exec .firmwareRewriteDone s = .next s)
    ∧ (s.fw.state = 3 → ∃ u, exec .firmwareRewriteDone s = .next u ∧ u.keep.image = List.replicate s.part.devices s.fw.image ∧ u.fw.state = 0 ∧ u.fw.recovered = false ∧ u.fw.image = s.fw.image ∧ u.tiles = s.tiles
        ∧ (leAt s.fw.image 7 1 % 2 = 1 → u.keep.otp.fwSvn = max s.keep.otp.fwSvn (leAt s.fw.image 8 1)) ∧ (leAt s.fw.image 7 1 % 2 = 0 → u.keep.otp.fwSvn = s.keep.otp.fwSvn))
    ∧ (∀ pass, s.fw.state ≠ 2 → exec (.firmwareSelfCheckDone pass) s = .next s)
    ∧ (s.fw.state = 2 → s.alaust.held = [] → (∃ u, exec (.firmwareSelfCheckDone true) s = .next u ∧ u.fw.state = 3 ∧ u.fw.image = s.fw.image ∧ u.keep = s.keep ∧ u.tiles = s.tiles)
        ∧ ∃ u n, exec (.firmwareSelfCheckDone false) s = .next u ∧ u.fw.state = 0 ∧ u.fw.image = s.fw.old ∧ u.alaust.raised = s.alaust.raised ++ [n] ∧ n.code = cFirmwareInvalid ∧ u.tiles = s.tiles)
    ∧ (∀ b : JBody, s.keep.programBad = [] → (s.keep.pos + recLen b) / 65536 + 2 ≤ s.keep.ready →
        journal s b = { s with keep := { s.keep with recs := s.keep.recs ++ [{ jseq := s.keep.next, gen := s.keep.otp.transitions, at_ := s.keep.pos, body := b }], next := s.keep.next + 1, pos := s.keep.pos + recLen b } })

/-- HELLO, PROOF, HANDSHAKE_EXPIRE, END, SESSION_IDLE_TIMEOUT, NOTIFY and NOTIFY_RESEND (12 R385 to R392, R401). Whether a signature verifies, and the values of ECDH, are free values (notes/assumptions/9.md). -/
def Obligations.AlaustSessions : Prop :=
  ∀ s : State,
    (alaustServed s = false → ∀ e f num ok sig, exec (.hello e f) s = .next s ∧ exec (.proof e f num ok sig) s = .next s)
    ∧ (∀ (e : Fin 2) (f : InFrame) (s' : State), alaustServed s = true → udpIngress s e f = (true, s') → toAlaust s' e f = true →
        (helloOk f.payload = false ∨ 4 ≤ s'.alaust.shakes.length → exec (.hello e f) s = .next (roAdd s' oAlaustMalformed 1))
        ∧ (helloOk f.payload = true → s'.alaust.shakes.length < 4 → s'.ctrl.trng = 255 → exec (.hello e f) s = .next s')
        ∧ (helloOk f.payload = true → s'.alaust.shakes.length < 4 → s'.ctrl.trng ≠ 255 → ∃ u x, exec (.hello e f) s = .next u ∧ u.alaust.shakes = s'.alaust.shakes ++ [x] ∧ (x.expert = true ↔ leAt f.payload 16 1 = 1)
            ∧ (s'.alaust.sessions.length ≤ 4 → x.num ∉ numbersUsed s' ∧ 1 ≤ x.num ∧ x.num ≤ 65535) ∧ u.alaust.sessions = s'.alaust.sessions ∧ u.tiles = s'.tiles
            ∧ ∃ nonce private_, nonce.length = 32 ∧ (x.keyIn, x.keyOut) = sessionKeys private_ (slice f.payload 52 97) (slice f.payload 20 32) nonce x.th
              ∧ (PortTakes s' e → ∃ g, Handed s' u e g ∧ g.dst = f.src ∧ g.dport = f.sport.toNat ∧ g.proto = 0
                  ∧ slice g.body 0 145 = outerHeader 2 x.num 0 ++ nonce ++ (4 : Byte) :: beBytes 96 (Config.ecPublic private_)))
        ∧ (1400 < f.payload.length ∨ outerOk 3 f.payload = false → ∀ num ok sig, exec (.proof e f num ok sig) s = .next (roAdd s' oAlaustMalformed 1))
        ∧ (∀ (num : BitVec 16) ok sig, f.payload.length ≤ 1400 → outerOk 3 f.payload = true → s'.alaust.shakes.find? (fun x => x.num = num.toNat) = none → exec (.proof e f num ok sig) s = .next (roAdd s' oAlaustMalformed 1))
        ∧ (∀ (num : BitVec 16) (sig : List Byte) x, f.payload.length ≤ 1400 → outerOk 3 f.payload = true → s'.alaust.shakes.find? (fun x => x.num = num.toNat) = some x →
            exec (.proof e f num false sig) s = .next (roAdd s' oAlaustReplays 1)
            ∧ (ownerKey s' x.slot x.expert = none → exec (.proof e f num true sig) s = .next (roAdd { s' with alaust := { s'.alaust with shakes := s'.alaust.shakes.filter fun y => y.num ≠ x.num } } oAlaustAuthFailures 1))
            ∧ (∀ k, ownerKey s' x.slot x.expert = some k → s'.alaust.sessions.length < 4 → ∃ u, exec (.proof e f num true sig) s = .next u ∧ (∀ z ∈ u.alaust.shakes, z.num ≠ x.num)
                ∧ (Config.ecdsaVerify k (sha384 (x.th ++ hostLabel)) sig = false → u = roAdd { s' with alaust := { s'.alaust with shakes := s'.alaust.shakes.filter fun y => y.num ≠ x.num } } oAlaustAuthFailures 1)
                ∧ (Config.ecdsaVerify k (sha384 (x.th ++ hostLabel)) sig = true → ∃ y, u.alaust.sessions = s'.alaust.sessions ++ [y] ∧ y.num = x.num ∧ y.expert = x.expert ∧ y.host = f.src ∧ y.port = e ∧ y.txNext = 1 ∧ y.stage = [] ∧ y.keyIn = x.keyIn ∧ y.keyOut = x.keyOut
                  ∧ (PortTakes s' e → ∃ g, Handed s' u e g ∧ g.dst = f.src ∧ g.body = outerHeader 4 x.num 0 ++ sealed x.keyOut 4 x.num 0 (leBytes 8 (cfgNat s' oAlaustIdleTimeout) ++ leBytes 2 1400))))))
    ∧ (∀ num : BitVec 16, ∃ u, exec (.handshakeExpire num) s = .next u ∧ (∀ x, x ∈ u.alaust.shakes ↔ x ∈ s.alaust.shakes ∧ x.num ≠ num.toNat) ∧ u.alaust.sessions = s.alaust.sessions ∧ u.tiles = s.tiles)
    ∧ (∀ num : BitVec 16, ∃ u, exec (.sessionIdleTimeout num) s = .next u ∧ sessionOf u num.toNat = none ∧ (∀ b ∈ u.alaust.bulks, b.session ≠ num.toNat) ∧ (∀ k, k ≠ num.toNat → sessionOf u k = sessionOf s k)
        ∧ u.alaust.accepted = s.alaust.accepted ∧ u.tiles = s.tiles ∧ u.tx = s.tx)
    ∧ (∀ (num : BitVec 16) x, sessionOf s num.toNat = some x → ∃ u, exec (.alaustEnd num none) s = .next u ∧ sessionOf u num.toNat = none ∧ (PortTakes s x.port → SentProtected s u x (bodyHeader 0x41 0 0 0)))
    ∧ (∀ num m, (receive s m).1 = false → exec (.alaustEnd num (some m)) s = .next (receive s m).2)
    ∧ (∀ num m s', receive s m = (true, s') → s'.fw.state ≠ 2 → exec (.alaustEnd num (some m)) s = .next (endSession s' m.session.toNat))
    ∧ (s.alaust.raised = [] → exec .notify s = .next s)
    ∧ (∀ n rest, s.alaust.raised = n :: rest → ∃ u, exec .notify s = .next u ∧ u.ctrl.nseq = s.ctrl.nseq + 1 ∧ u.alaust.ring.getLast? = some { n with nseq := s.ctrl.nseq } ∧ (s.alaust.ring.length ≤ 256 → u.alaust.ring.length ≤ 256) ∧ u.tiles = s.tiles
        ∧ (∀ x, s.alaust.sessions = [x] → x.txNext < 2 ^ 48 → (∃ y, u.alaust.sessions = [y] ∧ y.notify = x.notify ++ [(s.ctrl.nseq, 1)] ∧ y.txNext = x.txNext + 1)
            ∧ (PortTakes s x.port → SentProtected s u x (bodyHeader 0x30 0 0 0 ++ noteBytes { n with nseq := s.ctrl.nseq }))))
    ∧ (∀ (num : BitVec 16) (q : BitVec 64) x c n, sessionOf s num.toNat = some x → x.notify.find? (fun n => n.1 = q.toNat) = some c → s.alaust.ring.find? (fun n => n.nseq = q.toNat) = some n →
        (8 ≤ c.2 → exec (.notifyResend num q) s = .next s)
        ∧ (c.2 < 8 → ∃ u, exec (.notifyResend num q) s = .next u ∧ u.tiles = s.tiles ∧ (PortTakes s x.port → SentProtected s u x (bodyHeader 0x30 0 0 0 ++ noteBytes n))
            ∧ (x.txNext < 2 ^ 48 → ∃ y, sessionOf u num.toNat = some y ∧ y.notify = x.notify.map fun z => if z.1 = c.1 then (z.1, z.2 + 1) else z)))
    ∧ (∀ (num : BitVec 16) (q : BitVec 64), sessionOf s num.toNat = none ∨ (∀ x, sessionOf s num.toNat = some x → ∀ n ∈ x.notify, n.1 ≠ q.toNat) → exec (.notifyResend num q) s = .next s)
    ∧ (∀ (m : AMsg) (s' : State) (x : Session), alaustServed s = true → udpIngress s m.e m.frame = (true, s') → toAlaust s' m.e m.frame = true → m.frame.payload.length ≤ 1400 → outerOk 5 m.frame.payload = true → sessionOf s' m.session.toNat = some x →
        (m.ok = false ∨ m.counter.toNat + 64 ≤ x.rxHigh ∨ m.counter.toNat ∈ x.rxSeen → receive s m = (false, roAdd s' oAlaustReplays 1))
        ∧ (m.ok = true → x.rxHigh < m.counter.toNat + 64 → m.counter.toNat ∉ x.rxSeen → m.counter.toNat < 2 ^ 48 →
            ∃ v y, receive s m = (true, v) ∧ sessionOf v m.session.toNat = some y ∧ y.rxHigh = max x.rxHigh m.counter.toNat ∧ m.counter.toNat ∈ y.rxSeen ∧ y.host = m.frame.src ∧ y.stage = x.stage))

/-- READ, WRITE, COMMIT, DISCARD, KEEPALIVE and NOTIFY_ACK (12 R376 to R380, R393 to R396, R401, R402, R408). -/
def Obligations.AlaustRequests : Prop :=
  (∀ (s : State) (m : AMsg) (s' : State) (x : Session), NewRequest s m s' x →
    (∀ l : List AEntry, m.flags.toNat < 2 → m.count.toNat = l.length → l ≠ [] → (∀ e ∈ l, e.reserved = 0) → ∃ u, exec (.alaustRead m l) s = .next u
        ∧ Replied u m.session.toNat 0x10 m.req.toNat l.length cDone (l.foldl (readEntry (.session m.session.toNat) (m.flags.toNat % 2 = 1)) ([], s')).1 ∧ u.cfg = s'.cfg ∧ u.tiles = s'.tiles)
    ∧ (∀ l : List AEntry, 2 ≤ m.flags.toNat ∨ m.count.toNat ≠ l.length → (∃ u, exec (.alaustRead m l) s = .next u ∧ Replied u m.session.toNat 0x10 m.req.toNat 0 cRequestMalformed [] ∧ u.cfg = s'.cfg ∧ u.tiles = s'.tiles)
        ∧ ∃ u, exec (.alaustWrite m l) s = .next u ∧ Replied u m.session.toNat 0x11 m.req.toNat 0 cRequestMalformed [] ∧ u.cfg = s'.cfg ∧ u.tiles = s'.tiles)
    ∧ (m.flags.toNat < 2 → m.count.toNat = 0 → (∃ u, exec (.alaustRead m []) s = .next u ∧ Replied u m.session.toNat 0x10 m.req.toNat 0 cEmpty [])
        ∧ (∃ u, exec (.alaustWrite m []) s = .next u ∧ Replied u m.session.toNat 0x11 m.req.toNat 0 cEmpty [] ∧ u.cfg = s'.cfg)
        ∧ (∀ target : BitVec 64, ∃ u g y, exec (.alaustCommit m target) s = .next u ∧ u.alaust.validating = s'.alaust.validating ++ [g] ∧ g.bytes = x.stage ∧ g.target = target.toNat ∧ g.req = some m.req.toNat
            ∧ sessionOf u m.session.toNat = some y ∧ y.stage = [] ∧ m.req.toNat ∈ y.waiting ∧ u.tx = s'.tx ∧ u.cfg = s'.cfg)
        ∧ (∃ u y, exec (.alaustDiscard m) s = .next u ∧ Replied u m.session.toNat 0x13 m.req.toNat 0 cDone [] ∧ sessionOf u m.session.toNat = some y ∧ y.stage = [] ∧ u.cfg = s'.cfg)
        ∧ (∃ u, exec (.keepalive m) s = .next u ∧ Replied u m.session.toNat 0x40 m.req.toNat 0 cDone [] ∧ u.cfg = s'.cfg ∧ (PortTakes s' x.port → SentProtected s' u x (bodyHeader 0xC0 m.req.toNat 0 cDone)))
        ∧ (∀ q : BitVec 64, ∃ u y, exec (.notifyAck m q) s = .next u ∧ Replied u m.session.toNat 0x31 m.req.toNat 0 cDone [] ∧ sessionOf u m.session.toNat = some y ∧ y.notify = x.notify.filter fun n => n.1 ≠ q.toNat))
    ∧ (∀ (e : AEntry) (r : ObjDef), m.flags.toNat < 2 → m.count.toNat = 1 → e.reserved = 0 → e.data ≠ [] → e.data.length = e.length.toNat → e.length.toNat ≤ 1024 → objNow s' (entryKey e) = some r → r.acc = .rws →
        (r.expert = true → x.expert = true) → spanOk r e.offset.toNat e.data.length = true → (r.bool = true → leNat e.data ≤ 1) → (stagePut x.stage (entryKey e) e.offset.toNat e.data).length ≤ 262144 →
        ∃ u y, exec (.alaustWrite m [e]) s = .next u ∧ Replied u m.session.toNat 0x11 m.req.toNat 1 cDone (entryHead e e.length.toNat cDone) ∧ sessionOf u m.session.toNat = some y
          ∧ y.stage = stagePut x.stage (entryKey e) e.offset.toNat e.data ∧ u.cfg = s'.cfg))
  ∧ (∀ (s : State) (m : AMsg) (s' : State) (x : Session) (r : Nat × List Byte), receive s m = (true, s') → s'.fw.state ≠ 2 → sessionOf s' m.session.toNat = some x → x.replies.find? (fun r => r.1 = m.req.toNat) = some r →
      ∀ l t q, exec (.alaustRead m l) s = .next (sendProtected s' x.num (bulkReply r.2) r.2) ∧ exec (.alaustWrite m l) s = .next (sendProtected s' x.num (bulkReply r.2) r.2) ∧ exec (.alaustCommit m t) s = .next (sendProtected s' x.num (bulkReply r.2) r.2)
        ∧ exec (.alaustDiscard m) s = .next (sendProtected s' x.num (bulkReply r.2) r.2) ∧ exec (.keepalive m) s = .next (sendProtected s' x.num (bulkReply r.2) r.2) ∧ exec (.notifyAck m q) s = .next (sendProtected s' x.num (bulkReply r.2) r.2))
  ∧ (∀ (s : State) (m : AMsg) (s' : State), receive s m = (true, s') → s'.fw.state = 2 → ∀ l, ∃ q, exec (.alaustWrite m l) s = .next { s' with alaust := { s'.alaust with held := s'.alaust.held ++ [q] } } ∧ q = .write m l)
  ∧ (∀ (s : State) (m : AMsg), (receive s m).1 = false → ∀ l t q, exec (.alaustRead m l) s = .next (receive s m).2 ∧ exec (.alaustWrite m l) s = .next (receive s m).2 ∧ exec (.alaustCommit m t) s = .next (receive s m).2
      ∧ exec (.alaustDiscard m) s = .next (receive s m).2 ∧ exec (.keepalive m) s = .next (receive s m).2 ∧ exec (.notifyAck m q) s = .next (receive s m).2)
  ∧ (∀ (s : State) (w : Writer) (staged : Bool) (key off n : Nat),
      (objNow s key = none → readObject s w staged key off n = (cObjectNotFound, [], s))
      ∧ (∀ r, objNow s key = some r → (r.acc = .wo → readObject s w staged key off n = (cAccessDenied, [], s))
          ∧ (r.acc ≠ .wo → (n = 0 → readObject s w staged key off n = (cEmpty, [], s)) ∧ (0 < n → spanOk r off n = false → readObject s w staged key off n = (cLengthMismatch, [], s))
              ∧ (0 < n → spanOk r off n = true → key ≠ oTestData → staged = false → readObject s w staged key off n = (cDone, slice (objValue s r key) off n, s)))))
  ∧ (∀ (s : State) (w : Writer) (key off : Nat) (b : List Byte),
      (objNow s key = none → writeObject s w key off b = (cObjectNotFound, s))
      ∧ (∀ r, objNow s key = some r →
          (r.acc = .const ∨ r.acc = .ro → writeObject s w key off b = (cAccessDenied, s))
          ∧ (r.acc ≠ .const → r.acc ≠ .ro → r.expert = true → writerExpert s w = false → writeObject s w key off b = (cLevelDenied, s))
          ∧ (r.acc ≠ .const → r.acc ≠ .ro → (r.expert = false ∨ writerExpert s w = true) → (b = [] → writeObject s w key off b = (cEmpty, s)) ∧ (b ≠ [] → spanOk r off b.length = false → writeObject s w key off b = (cLengthMismatch, s))
              ∧ (b ≠ [] → spanOk r off b.length = true → r.bool = true → 1 < leNat b → writeObject s w key off b = (cValueRange, s))
              ∧ (b ≠ [] → spanOk r off b.length = true → r.bool = false → r.acc = .rw → key ≠ oTestData → writeObject s w key off b = (cDone, cfgPut s key b)))))

/-- The command objects and the I2C rows (12 R379 to R384, R403 to R407; 15 R489; 16 R521 to R529). -/
def Obligations.CommandObjects : Prop :=
  ∀ s : State,
    (∀ (num : Option (BitVec 16)), writerThere s (rowWriter num) = true → (∀ target : BitVec 64, ∃ u g, exec (.commitRequest num target) s = .next u ∧ u.alaust.answer = cDone ∧ u.alaust.validating = s.alaust.validating ++ [g]
          ∧ g.bytes = stageOf s (rowWriter num) ∧ g.target = target.toNat ∧ g.writer = rowWriter num ∧ stageOf u (rowWriter num) = [] ∧ u.cfg = s.cfg ∧ u.tiles = s.tiles)
        ∧ ∃ u, exec (.commitDiscard num) s = .next u ∧ u.alaust.answer = cDone ∧ stageOf u (rowWriter num) = [] ∧ u.alaust.validating = s.alaust.validating ∧ u.cfg = s.cfg ∧ u.tiles = s.tiles)
    ∧ (∀ num target, writerThere s (rowWriter num) = false → exec (.commitRequest num target) s = .next s ∧ exec (.commitDiscard num) s = .next s)
    ∧ (s.alaust.validating = [] → exec .commitValidationEnd s = .next s)
    ∧ (∀ g rest, s.alaust.validating = g :: rest → ∃ u, exec .commitValidationEnd s = .next u ∧ u.alaust.validating = rest ∧ u.cfg = s.cfg ∧ u.tiles = s.tiles
        ∧ (g.target = 0 → g.bytes = [] → s.alaust.accepted = [] → ∃ h, u.alaust.accepted = [h] ∧ h.tick = applyTick s 0 ∧ h.seq = s.alaust.groups ∧ h.writer = g.writer)
        ∧ (tooLate s g.target = true → u.alaust.accepted = s.alaust.accepted))
    ∧ (∀ (e : Fin 2) (key : List Byte), key.length = 32 → ∃ u, exec (.macsecCakWrite e key) s = .next u ∧ u.alaust.answer = cDone ∧ smFind u.keep.cakNext e.val = some key ∧ u.keep.cak = s.keep.cak ∧ u.tiles = s.tiles)
    ∧ (5 ≤ s.power.phase → s.power.phase ≤ 8 → s.power.cut = none → s.alaust.i2c.busy = false →
        (∀ i sub o n d, ∃ u v, exec (.i2cRead false i sub o n) s = .next u ∧ u.alaust.i2c.response = some [3] ∧ exec (.i2cWrite false i sub o d) s = .next v ∧ v.alaust.i2c.response = some [3] ∧ v.cfg = s.cfg)
        ∧ (s.fw.state ≠ 2 → ∀ (i : BitVec 16) (sub : BitVec 8) (o : BitVec 16) (n : BitVec 8), n.toNat ≤ 64 → ∃ u, exec (.i2cRead true i sub o n) s = .next u ∧ u.alaust.i2c.busy = false ∧ u.cfg = s.cfg ∧ u.tiles = s.tiles
            ∧ u.alaust.i2c.response = some (if i2cReaches i.toNat sub.toNat then i2cBody (readObject s .i2c false (i.toNat * 256 + sub.toNat) o.toNat n.toNat).1 (readObject s .i2c false (i.toNat * 256 + sub.toNat) o.toNat n.toNat).2.1 else i2cBody cObjectNotFound []))
        ∧ (s.fw.state ≠ 2 → ∀ (i : BitVec 16) (sub : BitVec 8) (o : BitVec 16) (d : List Byte), d.length ≤ 64 →
            (i2cReaches i.toNat sub.toNat = false → ∃ u, exec (.i2cWrite true i sub o d) s = .next u ∧ u.alaust.i2c.response = some (i2cBody cObjectNotFound []) ∧ u.cfg = s.cfg)
            ∧ (i2cReaches i.toNat sub.toNat = true → ∃ u, exec (.i2cWrite true i sub o d) s = .next u ∧ u.alaust.i2c.response = some (i2cBody (i2cWriteObject s (i.toNat * 256 + sub.toNat) o.toNat d).1 [])
                ∧ u.cfg = (i2cWriteObject s (i.toNat * 256 + sub.toNat) o.toNat d).2.cfg)))
    ∧ (s.alaust.i2c.busy = true → ∀ pec i sub o n d, exec (.i2cRead pec i sub o n) s = .next s ∧ exec (.i2cWrite pec i sub o d) s = .next s)
    ∧ (∀ b, s.alaust.i2c.busy = false → s.alaust.i2c.response = some b → b ≠ [] → ∃ u, exec .i2cResponse s = .next u ∧ u.alaust.data = b ++ leBytes 1 (crc8 (BitVec.ofNat 8 (2 * s.power.i2cAddr + 1) :: b)) ∧ u.tiles = s.tiles ∧ u.cfg = s.cfg)
    ∧ (s.power.phase ≤ 5 → ∀ o n b v, exec (.testDataRead o n) s = .next s ∧ exec (.testDataWrite o b) s = .next s ∧ exec (.testInject v) s = .next s)
    ∧ (5 < s.power.phase → s.keep.otp.lc ≠ 1 → ∀ o n b v, (∃ u, exec (.testDataRead o n) s = .next u ∧ u.alaust.answer = cObjectNotFound ∧ u.alaust.data = []) ∧ (∃ u, exec (.testDataWrite o b) s = .next u ∧ u.alaust.answer = cObjectNotFound ∧ u.meadow = s.meadow ∧ u.hbm = s.hbm ∧ u.tiles = s.tiles)
        ∧ ∃ u, exec (.testInject v) s = .next u ∧ u.alaust.answer = cObjectNotFound ∧ u.meadow = s.meadow ∧ u.hbm = s.hbm ∧ u.tiles = s.tiles)
    ∧ (5 < s.power.phase → s.keep.otp.lc = 1 →
        (∀ (o n : BitVec 16) l, 0 < n.toNat → o.toNat + n.toNat ≤ 1024 → testBytes s (cfgNat s oTestAddr + o.toNat) n.toNat = some l → ∃ u, exec (.testDataRead o n) s = .next u ∧ u.alaust.answer = cDone ∧ u.alaust.data = l.map (storedByte s) ∧ u.tiles = s.tiles ∧ u.meadow = s.meadow)
        ∧ (∀ (o : BitVec 16) (b : Byte) k, o.toNat < 1024 → testByte s (cfgNat s oTestAddr + o.toNat) = some (.meadow k) → memWf s.meadow.mem = true → ∃ u, exec (.testDataWrite o [b]) s = .next u ∧ u.alaust.answer = cDone
            ∧ (∀ x, memGet u.meadow.mem x = if x = k then b else memGet s.meadow.mem x) ∧ k ∉ u.meadow.bad ∧ u.tiles = s.tiles)
        ∧ (∀ (v : BitVec 64) k, v.toNat < 2 ^ 51 → testByte s (v.toNat % 2 ^ 48) = some (.meadow k) → memWf s.meadow.mem = true → ∃ u, exec (.testInject v) s = .next u ∧ u.alaust.answer = cDone
            ∧ (∀ x, memGet u.meadow.mem x = if x = k then memGet s.meadow.mem x ^^^ BitVec.ofNat 8 (2 ^ (v.toNat / 2 ^ 48 % 8)) else memGet s.meadow.mem x) ∧ (k ∈ u.meadow.bad ↔ k ∉ s.meadow.bad) ∧ u.tiles = s.tiles)
        ∧ (∀ v : BitVec 64, 2 ^ 51 ≤ v.toNat ∨ testByte s (v.toNat % 2 ^ 48) = none → ∃ u, exec (.testInject v) s = .next u ∧ u.alaust.answer = cValueRange ∧ u.meadow = s.meadow ∧ u.hbm = s.hbm ∧ u.tiles = s.tiles))
    ∧ (∀ on, ∃ u, exec (.faultClear on) s = .next u ∧ u.alaust.answer = cDone ∧ u.ctrl.latched = (if on = true ∧ dangerStands s = false then false else s.ctrl.latched) ∧ u.tiles = s.tiles ∧ u.cfg = s.cfg)
    ∧ (∀ v : BitVec 16, (cfgOn s oDetTestAlarms = false → exec (.faultTestAlarm v) s = .next { s with alaust := { s.alaust with answer := cAccessDenied } })
        ∧ (∀ p, cfgOn s oDetTestAlarms = true → holderOf s (v.toNat / 256) = some p → v.toNat / 8 % 32 = 0 → (plannedHandler s p (v.toNat % 8)).isSome = true →
            ((∀ x, setOf s s.ctrl.tick = some x → x.closed = true) → ∃ u, exec (.faultTestAlarm v) s = .next u ∧ u.alaust.answer = cDone ∧ u.ctrl.testAlarms = s.ctrl.testAlarms ++ [(v.toNat / 256, v.toNat % 8)] ∧ u.tiles = s.tiles)
            ∧ (∀ x, setOf s s.ctrl.tick = some x → x.closed = false → exec (.faultTestAlarm v) s = .next { (sendTrigger s p 64 (v.toNat % 8)) with alaust := { (sendTrigger s p 64 (v.toNat % 8)).alaust with answer := cDone } })))
    ∧ (∀ v : BitVec 8, (lcAllowed s.keep.otp.lc v.toNat = true → exec (.lcTransition v false) s = .next { s with alaust := { s.alaust with lcTo := some v.toNat, answer := cDone } })
        ∧ (lcAllowed s.keep.otp.lc v.toNat = false → exec (.lcTransition v false) s = .next { s with alaust := { s.alaust with answer := cLifecycleDenied } })
        ∧ (s.keep.otp.lc = 3 → exec (.lcTransition 4 true) s = .next { s with alaust := { s.alaust with lcTo := some 4, answer := cDone } }))
    ∧ (∀ v : BitVec 8, ∃ u, exec (.lcPkgSvnRaise v) s = .next u ∧ u.tiles = s.tiles ∧ (∀ p, s.ctrl.plan = some p → s.keep.otp.pkgSvn ≤ v.toNat → v.toNat ≤ 64 → v.toNat ≤ p.svn → u.alaust.answer = cDone ∧ u.keep.otp.pkgSvn = v.toNat)
        ∧ (v.toNat < s.keep.otp.pkgSvn ∨ 64 < v.toNat → u.alaust.answer = cRollbackRefused ∧ u.keep = s.keep))
    ∧ (∀ d, ∃ u, exec (.keepModelDelete d) s = .next u ∧ u.tiles = s.tiles ∧ (packageBusy s d = true → u.alaust.answer = cAccessDenied ∧ u.keep = s.keep)
        ∧ (packageBusy s d = false → u.alaust.answer = cDone ∧ ∀ p, p ∈ u.keep.store ↔ p ∈ s.keep.store ∧ p.digest ≠ d))
    ∧ (∀ t : Word, ∃ u, exec (.firmwareSwitch t) s = .next u ∧ u.tiles = s.tiles ∧ (s.fw.state ≠ 1 → u.alaust.answer = cAccessDenied ∧ u.fw = s.fw) ∧ (s.fw.state = 1 → tooLate s t.toNat = true → u.alaust.answer = cCommitTooLate ∧ u.fw = s.fw)
        ∧ (s.fw.state = 1 → tooLate s t.toNat = false → u.alaust.answer = cDone ∧ u.fw.switch = some t.toNat ∧ u.fw.switchAt = nowNs s ∧ u.fw.image = s.fw.image))
    ∧ (exec (.resetRequest 0) s = .next { s with alaust := { s.alaust with answer := cDone } })
    ∧ (∀ v : BitVec 8, 1 < v.toNat → exec (.resetRequest v) s = .next { s with alaust := { s.alaust with answer := cValueRange } })
    ∧ (s.power.cut = none → s.power.phase ≠ 10 → ∃ u c, exec (.resetRequest 1) s = .next u ∧ u.power.cut = some c ∧ c.cause = 3 ∧ u.alaust.answer = cDone ∧ u.hbm.mem = [] ∧ u.meadow.mem = [] ∧ u.cfg = s.cfg)

/-- BULK_OPEN, BULK_DATA, BULK_ACK, BULK_CLOSE, BULK_VERIFY_DONE and the timers of a transfer (12 R397 to R400). -/
def Obligations.BulkTransfers : Prop :=
  (∀ (s : State) (m : AMsg) (s' : State) (x : Session), NewRequest s m s' x →
    (∀ (t f : BitVec 8) (r : BitVec 16) (len first : BitVec 64) (d : List Byte),
      (plainHeader m = false ∨ openFields t.toNat f.toNat r.toNat = false → ∃ u, exec (.bulkOpen m t f r len first d) s = .next u ∧ Replied u m.session.toNat 0x20 m.req.toNat 0 cRequestMalformed [] ∧ u.alaust.bulks = s'.alaust.bulks ∧ u.tiles = s'.tiles)
      ∧ (plainHeader m = true → openFields t.toNat f.toNat r.toNat = true →
          (openCode s' m.session.toNat t.toNat f.toNat len.toNat first.toNat ≠ cDone → ∃ u, exec (.bulkOpen m t f r len first d) s = .next u ∧ Replied u m.session.toNat 0x20 m.req.toNat 0 (openCode s' m.session.toNat t.toNat f.toNat len.toNat first.toNat) [] ∧ u.alaust.bulks = s'.alaust.bulks ∧ u.tiles = s'.tiles)
          ∧ (openCode s' m.session.toNat t.toNat f.toNat len.toNat first.toNat = cDone → t.toNat ≠ 3 → ∃ u b, exec (.bulkOpen m t f r len first d) s = .next u ∧ u.alaust.bulks = s'.alaust.bulks ++ [b] ∧ b.id = s'.alaust.nextBulk ∧ b.session = m.session.toNat
              ∧ b.target = t.toNat ∧ b.length = len.toNat ∧ b.digest = d ∧ b.got = [] ∧ b.parts = [] ∧ (b.persist = true ↔ f.toNat = 1)
              ∧ Replied u m.session.toNat 0x20 m.req.toNat 0 cDone (leBytes 2 s'.alaust.nextBulk ++ leBytes 2 256) ∧ u.tiles = s'.tiles ∧ u.hbm = s'.hbm)
          ∧ (openCode s' m.session.toNat t.toNat f.toNat len.toNat first.toNat = cDone → t.toNat = 3 → downloadBytes s' first.toNat len.toNat = [] → ∃ u, exec (.bulkOpen m t f r len first d) s = .next u
              ∧ Replied u m.session.toNat 0x20 m.req.toNat 0 cEmpty (leBytes 2 s'.alaust.nextBulk ++ leBytes 2 256 ++ leBytes 8 0) ∧ u.alaust.bulks = s'.alaust.bulks)))
    ∧ (plainHeader m = true → ∀ (id : BitVec 16),
        ((∀ b, bulkOf s' m.session.toNat id.toNat = some b → b.target = 3) → ∃ u, exec (.bulkClose m id) s = .next u ∧ Replied u m.session.toNat 0x23 m.req.toNat 0 cBulkUnknown [] ∧ u.alaust.bulks = s'.alaust.bulks)
        ∧ (∀ b, bulkOf s' m.session.toNat id.toNat = some b → b.target ≠ 3 →
            (b.length = 0 → ∃ u, exec (.bulkClose m id) s = .next u ∧ Replied u m.session.toNat 0x23 m.req.toNat 0 cEmpty [] ∧ bulkOf u m.session.toNat id.toNat = none)
            ∧ (0 < b.length → b.got.length < segCount b → ∃ u, exec (.bulkClose m id) s = .next u ∧ Replied u m.session.toNat 0x23 m.req.toNat 0 cBulkLength [] ∧ bulkOf u m.session.toNat id.toNat = none)
            ∧ (0 < b.length → segCount b ≤ b.got.length → sha384 (uploadBytes b) ≠ b.digest → ∃ u, exec (.bulkClose m id) s = .next u ∧ Replied u m.session.toNat 0x23 m.req.toNat 0 cBulkDigest [] ∧ bulkOf u m.session.toNat id.toNat = none)
            ∧ (0 < b.length → segCount b ≤ b.got.length → sha384 (uploadBytes b) = b.digest → ∃ u y, exec (.bulkClose m id) s = .next u ∧ bulkOf u m.session.toNat id.toNat = some { b with closing := some m.req.toNat }
                ∧ sessionOf u m.session.toNat = some y ∧ m.req.toNat ∈ y.waiting ∧ u.tx = s'.tx ∧ u.tiles = s'.tiles))))
  ∧ (∀ (s : State) (m : AMsg) (s' : State) (id : BitVec 16), receive s m = (true, s') → s'.fw.state ≠ 2 →
      (bulkOf s' m.session.toNat id.toNat = none → (∀ (rsv : BitVec 16) seg bytes, exec (.bulkData m (rsv ++ id) seg bytes) s = .next (sendProtected s' m.session.toNat true (bodyHeader 0xA1 m.req.toNat 0 cBulkUnknown))) ∧ ∀ next map, exec (.bulkAck m id next map) s = .next s')
      ∧ (∀ b, bulkOf s' m.session.toNat id.toNat = some b →
          (b.target ≠ 3 → (∀ next map, exec (.bulkAck m id next map) s = .next s') ∧ (∀ (rsv : BitVec 16) (seg : BitVec 32) (bytes : List Byte), plainHeader m = false ∨ rsv ≠ 0 ∨ segCount b ≤ seg.toNat ∨ bytes.length ≠ segLen b seg.toNat →
              exec (.bulkData m (rsv ++ id) seg bytes) s = .next (sendProtected s' m.session.toNat true (bodyHeader 0xA1 m.req.toNat 0 cRequestMalformed)))
            ∧ (∀ (rsv : BitVec 16) (seg : BitVec 32) (bytes : List Byte), plainHeader m = true → rsv = 0 → seg.toNat < segCount b → bytes.length = segLen b seg.toNat →
            (b.target = 2 → seg.toNat ∈ b.got → exec (.bulkData m (rsv ++ id) seg bytes) s = .next s')
            ∧ (b.target = 2 → seg.toNat ∉ b.got → b.unacked < 31 → ∃ u, exec (.bulkData m (rsv ++ id) seg bytes) s = .next u
                ∧ bulkOf u m.session.toNat id.toNat = some { b with got := setInsert b.got seg.toNat, parts := smPut b.parts seg.toNat bytes, unacked := b.unacked + 1 } ∧ u.tx = s'.tx ∧ u.tiles = s'.tiles ∧ u.hbm = s'.hbm)
            ∧ (b.target = 2 → seg.toNat ∉ b.got → b.unacked = 31 → ∀ x, sessionOf s' m.session.toNat = some x → PortTakes s' x.port → ∃ u, exec (.bulkData m (rsv ++ id) seg bytes) s = .next u
                ∧ SentProtected s' u x (bodyHeader 0x22 0 0 0 ++ (leBytes 2 id.toNat ++ leBytes 4 (nextSeg { b with got := setInsert b.got seg.toNat }) ++ leBytes 8 (segMap { b with got := setInsert b.got seg.toNat }))))
            ∧ (b.target = 1 → seg.toNat ≠ 0 → 0 ∈ b.got → seg.toNat ∉ b.got → b.unacked < 31 → memWf s'.hbm.mem = true → ∃ u, exec (.bulkData m (rsv ++ id) seg bytes) s = .next u
                ∧ ∀ a, memGet u.hbm.mem a = if b.base + 1280 * seg.toNat ≤ a ∧ a < b.base + 1280 * seg.toNat + bytes.length then bytes.getD (a - (b.base + 1280 * seg.toNat)) 0 else memGet s'.hbm.mem a)
            ∧ (b.target = 1 → seg.toNat = 0 → regionFree s' b (leAt bytes 16 6) = false →
                exec (.bulkData m (rsv ++ id) seg bytes) s = .next (sendProtected (setBulks s' (s'.alaust.bulks.filter fun c => c.id ≠ id.toNat)) m.session.toNat true (bodyHeader 0xA1 m.req.toNat 0 cPackageOverlap)))))
          ∧ (b.target = 3 → ∀ (next : BitVec 32) map, segCount b ≤ next.toNat → exec (.bulkAck m id next map) s = .next (setBulks s' (s'.alaust.bulks.filter fun c => c.id ≠ id.toNat)))))
  ∧ (∀ (s : State) (id : BitVec 16),
      (∃ u, exec (.bulkTimeout id) s = .next u ∧ (∀ b, b ∈ u.alaust.bulks ↔ b ∈ s.alaust.bulks ∧ b.id ≠ id.toNat) ∧ u.alaust.sessions = s.alaust.sessions ∧ u.tx = s.tx ∧ u.tiles = s.tiles)
      ∧ (s.alaust.bulks.find? (fun b => b.id = id.toNat) = none → exec (.bulkAckTimer id) s = .next s ∧ (∀ seg, exec (.bulkResendTimer id seg) s = .next s) ∧ exec (.bulkVerifyDone id) s = .next s)
      ∧ (∀ b, s.alaust.bulks.find? (fun b => b.id = id.toNat) = some b →
          (b.target = 3 ∨ b.unacked = 0 → exec (.bulkAckTimer id) s = .next s)
          ∧ (∀ seg : BitVec 32, b.target ≠ 3 ∨ b.sent ≤ seg.toNat ∨ seg.toNat ∈ b.got → exec (.bulkResendTimer id seg) s = .next s)
          ∧ (b.closing = none → exec (.bulkVerifyDone id) s = .next s)
          ∧ (∀ x, sessionOf s b.session = some x →
              (PortTakes s x.port → b.target ≠ 3 → b.unacked ≠ 0 → ∃ u, exec (.bulkAckTimer id) s = .next u ∧ SentProtected s u x (bodyHeader 0x22 0 0 0 ++ (leBytes 2 id.toNat ++ leBytes 4 (nextSeg b) ++ leBytes 8 (segMap b)))
                  ∧ (x.txNext < 2 ^ 48 → ∃ c, u.alaust.bulks.find? (fun b => b.id = id.toNat) = some c ∧ c.unacked = 0 ∧ c.got = b.got))
              ∧ (∀ seg : BitVec 32, PortTakes s x.port → b.target = 3 → seg.toNat < b.sent → seg.toNat ∉ b.got → ∃ u, exec (.bulkResendTimer id seg) s = .next u
                  ∧ SentProtected s u x (bodyHeader 0x21 seg.toNat 0 0 ++ (leBytes 2 id.toNat ++ leBytes 2 0 ++ leBytes 4 seg.toNat ++ slice b.data (1280 * seg.toNat) (segLen b seg.toNat))))
              ∧ (∀ req, b.closing = some req → x.txNext < 2 ^ 48 → ∃ u, exec (.bulkVerifyDone id) s = .next u ∧ (∀ c ∈ u.alaust.bulks, c.id ≠ id.toNat) ∧ u.tiles = s.tiles
                  ∧ (b.target = 1 → Replied u b.session 0x23 req 0 (verifyPackage s (uploadBytes b)) [] ∧ u.fw = s.fw
                      ∧ (verifyPackage s (uploadBytes b) = cDone → ∃ p ∈ u.ctrl.packages, p.digest = sha384 (uploadBytes b) ∧ p.base = b.base ∧ p.length = b.length)
                      ∧ (verifyPackage s (uploadBytes b) ≠ cDone → u.ctrl.packages = s.ctrl.packages))
                  ∧ (b.target ≠ 1 → Replied u b.session 0x23 req 0 (verifyImage s.keep.otp (uploadBytes b)) [] ∧ u.ctrl = s.ctrl
                      ∧ (verifyImage s.keep.otp (uploadBytes b) = cDone → u.fw.staged = some (uploadBytes b) ∧ u.fw.state = 1)
                      ∧ (verifyImage s.keep.otp (uploadBytes b) ≠ cDone → u.fw = s.fw))))))

/-- The rows of a Beryl port (13 R412 to R435). The layout of a CONTROL payload is the model's choice (notes/assumptions/28.md) and is not stated. -/
def Obligations.BerylLinks : Prop :=
  ∀ (s : State) (n : Fin 4),
    (∀ (h : BLinkHead), (bport s n).state ≠ 2 ∨ h.seq.toNat ≠ (bport s n).rxNext → ∀ a last off tag pay tick period hops o z c,
        exec (.berylWriteFrame n h a last off tag pay) s = .next s ∧ exec (.berylIdleFrame n h) s = .next s ∧ exec (.berylTickFrame n h a tick period hops) s = .next s
        ∧ exec (.windowGrant n h a o z c) s = .next s ∧ exec (.windowCloseNotice n h a) s = .next s ∧ exec (.windowFinalNotice n h a) s = .next s)
    ∧ (∀ (h : BLinkHead), (bport s n).state = 2 → h.seq.toNat = (bport s n).rxNext → h.code = 0 → ∃ v, linkReceive s n h = some v ∧ exec (.berylIdleFrame n h) s = .next v
        ∧ (bport v n).rxNext = ((bport s n).rxNext + 1) % 65536 ∧ (bport v n).credit0 = min 64 ((bport s n).credit0 + h.credit0.toNat) ∧ (bport v n).credit1 = min 64 ((bport s n).credit1 + h.credit1.toNat)
        ∧ (∀ m, m ≠ n → bport v m = bport s m) ∧ v.beryl.remote = s.beryl.remote ∧ v.beryl.replies = s.beryl.replies ∧ v.beryl.win = s.beryl.win ∧ v.hbm = s.hbm ∧ v.meadow = s.meadow ∧ v.tiles = s.tiles ∧ v.ctrl = s.ctrl ∧ v.cfg = s.cfg
        ∧ ((bport s n).rxAcks = none → (∀ x ∈ (bport s n).replay, x.1 ≠ h.ack.toNat) → (bport v n).replay = (bport s n).replay ∧ (bport v n).resend = (bport s n).resend ∧ (bport v n).rxAcks = none)
        ∧ (∀ a, (bport s n).rxAcks = some a → a ≠ h.ack.toNat → (bport v n).replay = (bport s n).replay.filter fun x => !seqBefore x.1 h.ack.toNat)
        ∧ ((bport s n).rxAcks = some h.ack.toNat → (bport v n).replay = (bport s n).replay
            ∧ ((bport s n).replay ≠ [] → (bport s n).resend = [] → (bport s n).replayRow < 8 → (bport v n).resend = (bport s n).replay.map (·.2) ∧ (bport v n).state = 2)
            ∧ ((bport s n).replay ≠ [] → (bport s n).resend = [] → (bport s n).replayRow = 8 → (bport v n).state = 1)))
    ∧ ((bport s n).state = 2 → exec (.berylBadFrame n) s = .next (roAdd s (oLinkCrcErrors n.val) 1)) ∧ ((bport s n).state ≠ 2 → exec (.berylBadFrame n) s = .next s)
    ∧ (∀ (h : BLinkHead) (v : State) (a : BAddr) (last : Bool) (off : BitVec 32) (tag : BitVec 9) (pay : List Byte) (w : Fin 64), linkReceive s n h = some v → pay.length ≤ 256 → w.val = a.window.toNat →
        (a.dst.toNat = deviceId v → a.src.toNat ≠ deviceId v → ∀ (x : OwnWin) (r : BReply), x = ownWin v w → r = { code := 0, dst := a.src.toNat, window := a.gen.toNat * 64 + a.window.toNat, tag := tag.toNat, count := 1 } →
          (accepts x a.src.toNat a.gen.toNat off.toNat pay.length = false → ∃ u, exec (.berylWriteFrame n h a last off tag pay) s = .next u ∧ u.beryl.replies = pushReply v.beryl.replies { r with code := 3 } ∧ u.beryl.landing = v.beryl.landing ∧ u.hbm = v.hbm ∧ u.meadow = v.meadow ∧ u.tiles = v.tiles
              ∧ u.ro = (roAdd v (oWindowClosedDrops w.val) 1).ro)
          ∧ (accepts x a.src.toNat a.gen.toNat off.toNat pay.length = true → ∃ u, exec (.berylWriteFrame n h a last off tag pay) s = .next u
              ∧ u.beryl.landing = v.beryl.landing ++ [{ due := s.cycle + 60, port := n, window := w, at_ := x.target + (off.toNat - x.offset), bytes := pay, size := pay.length, reply := { r with code := if x.state = 2 then 2 else 1 } }]
              ∧ u.hbm = v.hbm ∧ u.meadow = v.meadow ∧ u.tiles = v.tiles ∧ u.beryl.replies = v.beryl.replies ∧ u.ro = v.ro))
        ∧ (∀ m, a.dst.toNat ≠ deviceId v → routePort v a.dst.toNat = some m → a.hops.toNat < 32 → ∃ u g, exec (.berylWriteFrame n h a last off tag pay) s = .next u ∧ g.hops = a.hops.toNat + 1 ∧ g.payload = pay ∧ g.at_ = s.cycle + 70 ∧ g.dst = a.dst.toNat ∧ g.src = a.src.toNat ∧ g.offset = off.toNat ∧ g.tag = tag.toNat
            ∧ (a.vc = true → g.vc = true) ∧ (g.vc = true → (bport u m).pass1 = (bport v m).pass1 ++ [(n, g)]) ∧ (g.vc = false → (bport u m).pass0 = (bport v m).pass0 ++ [(n, g)]) ∧ u.hbm = v.hbm ∧ u.tiles = v.tiles)
        ∧ (a.dst.toNat ≠ deviceId v → a.src.toNat ≠ deviceId v → routePort v a.dst.toNat = none → ∃ u, exec (.berylWriteFrame n h a last off tag pay) s = .next u
            ∧ u.beryl.replies = pushReply v.beryl.replies { code := 5, dst := a.src.toNat, window := a.gen.toNat * 64 + a.window.toNat, tag := tag.toNat, count := 1 } ∧ u.ro = (roAdd v (oLinkDropped n.val) 1).ro ∧ u.hbm = v.hbm ∧ u.tiles = v.tiles))
    ∧ (∀ x, (s.beryl.landing.find? fun x => x.port = n && x.due ≤ s.cycle) = some x →
        (landFree s x = false → (landPort s n).beryl = s.beryl ∧ (landPort s n).hbm = s.hbm ∧ (landPort s n).meadow = s.meadow ∧ (landPort s n).tiles = s.tiles)
        ∧ (landFree s x = true → x.bytes.length ≤ landLen x → x.reply.dst ≠ deviceId s → x.reply.code ≠ 0 → (landPort s n).beryl.replies = pushReply s.beryl.replies x.reply ∧ (landPort s n).beryl.landing = s.beryl.landing.erase x ∧ (landPort s n).tiles = s.tiles))
    ∧ ((∀ x ∈ s.beryl.landing, x.port = n → s.cycle < x.due) → landPort s n = s)
    ∧ (∀ (h : BLinkHead) (v : State) (a : BAddr), linkReceive s n h = some v → a.dst.toNat = deviceId v →
        (∀ (o z : BitVec 32) (c : BitVec 16), ∃ u, exec (.windowGrant n h a o z c) s = .next u ∧ u.tiles = v.tiles ∧ u.ctrl = v.ctrl
            ∧ ((v.beryl.remote.filter fun x => !(x.device = a.src.toNat && x.window = a.window.toNat)).length < 256 → u.beryl.remote = (v.beryl.remote.filter fun x => !(x.device = a.src.toNat && x.window = a.window.toNat))
                ++ [{ device := a.src.toNat, window := a.window.toNat, gen := a.gen.toNat, offset := o.toNat, size := z.toNat, pool := c.toNat }])
            ∧ (256 ≤ (v.beryl.remote.filter fun x => !(x.device = a.src.toNat && x.window = a.window.toNat)).length → u.beryl.remote = v.beryl.remote))
        ∧ (∃ u, exec (.windowCloseNotice n h a) s = .next u ∧ u.tiles = v.tiles ∧ u.beryl.remote = v.beryl.remote.map fun x => if x.device = a.src.toNat ∧ x.window = a.window.toNat ∧ x.gen = a.gen.toNat then { x with closing := true } else x)
        ∧ (∃ u, exec (.windowFinalNotice n h a) s = .next u
            ∧ ((∃ x ∈ v.beryl.remote, x.device = a.src.toNat ∧ x.window = a.window.toNat ∧ x.gen = a.gen.toNat) → ∀ x ∈ u.beryl.remote, ¬ (x.device = a.src.toNat ∧ x.window = a.window.toNat))))
    ∧ (∀ (h : BLinkHead) (v : State) (a : BAddr) (tick period : Word) (hops : BitVec 8), linkReceive s n h = some v → ∃ u, exec (.berylTickFrame n h a tick period hops) s = .next u ∧ u.tiles = v.tiles
        ∧ (cfgNat v oTickSource ≠ 3 ∨ routePort v (cfgNat v oTickMasterDevice) ≠ some n → u.ctrl = v.ctrl)
        ∧ (cfgNat v oTickSource = 3 → routePort v (cfgNat v oTickMasterDevice) = some n → period.toNat = cfgNat v oTickPeriod → v.ctrl.tick ≤ tick.toNat → u.ctrl.nextTick = some (tick.toNat + 1)
            ∧ u.ctrl.lock = if s.power.phase = 7 ∨ (phaseError (sourceEdge v (masterCycle v n))).natAbs ≤ 1000 then 2 else 1)
        ∧ (cfgNat v oTickSource = 3 → routePort v (cfgNat v oTickMasterDevice) = some n → period.toNat ≠ cfgNat v oTickPeriod ∨ (v.ctrl.lock ≠ 2 ∧ tick.toNat < v.ctrl.tick) → u.ctrl.nextTick = v.ctrl.nextTick ∧ u.ctrl.lock = 1))
    ∧ ((bport s n).state ≠ 2 ∨ 5 * s.cycle + 5 ≤ (bport s n).slotAt → exec (.berylEgressSlot n) s = .next s)
    ∧ ((bport s n).state = 2 → (bport s n).slotAt < 5 * s.cycle + 5 →
        (∃ u, exec (.berylEgressSlot n) s = .next u ∧ (bport u n).slot = (bport s n).slot + 1 ∧ (bport u n).slotAt = max (bport s n).slotAt (5 * s.cycle) + 256 ∧ u.tiles = s.tiles ∧ u.ctrl = s.ctrl ∧ u.hbm = s.hbm ∧ u.meadow = s.meadow)
        ∧ (∀ x r, (bport s n).resend = x :: r → ∃ u, exec (.berylEgressSlot n) s = .next u ∧ u.beryl.sent = { x with wire := (frameWire (deviceId s) (bport s n).scr x).2 } :: s.beryl.sent ∧ (bport u n).scr = (frameWire (deviceId s) (bport s n).scr x).1
            ∧ (bport u n).resend = r ∧ (bport u n).replay = (bport s n).replay ∧ (bport u n).txSeq = (bport s n).txSeq)
        ∧ ((bport s n).resend = [] → 64 ≤ (bport s n).replay.length → ∃ u, exec (.berylEgressSlot n) s = .next u ∧ u.beryl.sent = s.beryl.sent ∧ (bport u n).txSeq = (bport s n).txSeq)
        ∧ ((bport s n).resend = [] → (bport s n).replay.length < 64 → slotReply s n = none →
            ((bport s n).pass1 = [] → (bport s n).pass0 = [] → (bport s n).own = [] → (∀ w ∈ s.beryl.writes, w.port = n → s.cycle < w.frame.at_) → ∃ u x, exec (.berylEgressSlot n) s = .next u ∧ x.port = n ∧ x.frame = none ∧ x.reply = none
                ∧ x.seq = (bport s n).txSeq ∧ x.ack = ((bport s n).rxNext + 65535) % 65536 ∧ u.beryl.sent = { x with wire := (frameWire (deviceId s) (bport s n).scr x).2 } :: s.beryl.sent ∧ (bport u n).txSeq = ((bport s n).txSeq + 1) % 65536 ∧ (bport u n).replay = (bport s n).replay ++ [((bport s n).txSeq, x)])
            ∧ (∀ m f r, (bport s n).pass1 = (m, f) :: r → f.at_ ≤ s.cycle → 0 < (bport s n).credit1 → ∃ u x, exec (.berylEgressSlot n) s = .next u ∧ u.beryl.sent = x :: s.beryl.sent ∧ x.frame = some f ∧ x.seq = (bport s n).txSeq ∧ (bport u n).pass1 = r
                ∧ (m ≠ n → f.vc = true → (bport u m).freed1 = (bport s m).freed1 + 1))))
    ∧ (∀ (self : Nat) (scr : BitVec 58) (x : BSent), (frameBody self x).length = 284 ∧ (frameWire self scr x).2.take 4 = [0xE1, 0x96, 0x3C, 0x5A] ∧ (frameWire self scr x).2.length = 288
        ∧ descramble scr (byteBits ((frameWire self scr x).2.drop 4)) = byteBits (frameBody self x))
    ∧ ((bport s n).state ≠ 1 → (∀ peer delay l, exec (.linkTrainingDone n peer delay l) s = .next s) ∧ exec (.berylDownLimit n) s = .next s)
    ∧ ((bport s n).state = 1 → (∃ u, exec (.berylDownLimit n) s = .next u ∧ bport u n = {} ∧ u.beryl.sent = s.beryl.sent)
        ∧ ∀ (peer : BitVec 8) (delay : BitVec 32) l, ∃ u, exec (.linkTrainingDone n peer delay l) s = .next u ∧ roGet u (oLinkPeer n.val) = peer.toNat ∧ roGet u (oLinkDelay n.val) = delay.toNat
          ∧ (peer.toNat = deviceId s → (bport u n).state = 0) ∧ (peer.toNat ≠ deviceId s → (bport u n).state = 2 ∧ (bport u n).resend = (bport s n).replay.map (·.2) ∧ (bport u n).replay = (bport s n).replay))
    ∧ (roGet s (oLinkLaneSpared n.val) = 1 → exec (.berylLaneSpare n) s = .next s)
    ∧ (roGet s (oLinkLaneSpared n.val) ≠ 1 → ∃ u, exec (.berylLaneSpare n) s = .next u ∧ roGet u (oLinkLaneSpared n.val) = 1 ∧ cBerylLaneSpared ∈ u.ctrl.degraded ∧ u.beryl = s.beryl ∧ u.tiles = s.tiles)
    ∧ (∃ u, exec .lsinLoss s = .next u ∧ roGet u oBerylLaserOk = 0 ∧ (cfgOn s (oLinkEnable n.val) = true → (bport u n).state = 0 ∧ (bport u n).lost = true) ∧ (cfgOn s (oLinkEnable n.val) = false → bport u n = bport s n))
    ∧ (∃ u, exec .lsinRestore s = .next u ∧ roGet u oBerylLaserOk = 1 ∧ (cfgOn s (oLinkEnable n.val) = true → (bport s n).state = 0 → (bport u n).state = 1) ∧ ((bport s n).state ≠ 0 → bport u n = bport s n) ∧ u.tiles = s.tiles)

/-- BIST_ROTATION, BIST_END, REGION_MONITOR_TRIP, TRNG_HEALTH_FAIL, CONTROLLER_LOCKSTEP, CONTROLLER_RESTART_DONE and ENCLAVE_SELFTEST (15 R480 to R490). -/
def Obligations.HealthEvents : Prop :=
  ∀ s : State,
    (∀ r : Fin 8, (s.power.phase ≠ 8 ∨ r.val ∈ s.ctrl.isolated → exec (.bistRotation r) s = .next s)
      ∧ (s.power.phase = 8 → r.val ∉ s.ctrl.isolated → ∃ u, exec (.bistRotation r) s = .next u ∧ (∀ x, x ∈ u.ctrl.rotate ↔ x ∈ s.ctrl.rotate ∨ x = r.val) ∧ u.tiles = s.tiles ∧ u.ctrl.withdraw = s.ctrl.withdraw ∧ u.cfg = s.cfg))
    ∧ (∀ (p : PTile) pass, (tile s p).bistEnd = false ∨ s.power.phase < 7 → exec (.bistEnd p pass) s = .next s)
    ∧ (∀ p : PTile, (tile s p).bistEnd = true → 7 ≤ s.power.phase →
        (∃ u, exec (.bistEnd p true) s = .next u ∧ (tile u p).role = 1 ∧ (tile u p).logical = 255 ∧ (tile u p).bistEnd = false ∧ (tile u p).bistPass = nowNs s ∧ ((tile s p).power < 3 → (tile u p).core = []) ∧ (tile u p).wbuf = [] ∧ (tile u p).abuf = [] ∧ (tile u p).vob = []
            ∧ roGet u (oTileBistPasses p.val) = (roGet s (oTileBistPasses p.val) + 1) % 2 ^ objBits (oTileBistPasses p.val) ∧ ∀ q, q ≠ p → tile u q = tile s q)
        ∧ (∃ u, exec (.bistEnd p false) s = .next u ∧ (tile u p).role = 5 ∧ (tile u p).logical = 255 ∧ (tile u p).power = 4 ∧ cTileRetired ∈ u.ctrl.degraded ∧ roGet u oFaultLastCode = cBistFail ∧ ∀ q, q ≠ p → tile u q = tile s q))
    ∧ (∀ (r : Fin 8) supply long, ∃ u, exec (.regionMonitorTrip r supply long) s = .next u ∧ roGet u oFaultLastCode = (if supply = true then cRegionSupply else cRegionClock) ∧ u.ctrl.regionFaults.getLast? = some (r.val, nowNs s)
        ∧ (∀ p : PTile, p.val / 9 = r.val → (tile u p).run = none) ∧ (∀ p : PTile, p.val / 9 ≠ r.val → tile u p = tile s p)
        ∧ (long = true → r.val ∈ u.ctrl.isolating ∨ r.val ∈ u.ctrl.isolated)
        ∧ (2 ≤ (s.ctrl.regionFaults.filter fun f => decide (f.1 = r.val) && decide (nowNs s < f.2 + 1000000000)).length → r.val ∈ u.ctrl.isolating ∨ r.val ∈ u.ctrl.isolated))
    ∧ (∀ g : Bool, s.ctrl.trng ≠ g.toNat → exec (.trngHealthFail g) s = .next s)
    ∧ (s.ctrl.trng = 0 → ∃ u, exec (.trngHealthFail false) s = .next u ∧ u.ctrl.trng = 1 ∧ cTrngSpared ∈ u.ctrl.degraded ∧ u.tiles = s.tiles)
    ∧ (s.ctrl.trng = 1 → ∃ u, exec (.trngHealthFail true) s = .next u ∧ u.ctrl.trng = 255 ∧ u.ctrl.degraded = s.ctrl.degraded ∧ u.tiles = s.tiles)
    ∧ (∃ u, exec .controllerLockstep s = .next u ∧ faultN u = true ∧ cControllerLockstep ∈ u.ctrl.dangerous ∧ u.ctrl.down = some (s.ctrl.down.getD (s.ctrl.tick + 1)) ∧ (∀ x ∈ u.ctrl.sets, x.suspect = true) ∧ u.tiles = s.tiles ∧ u.cfg = s.cfg)
    ∧ (s.ctrl.down = none → exec .controllerRestartDone s = .next s)
    ∧ (∀ t, s.ctrl.down = some t → ∃ u, exec .controllerRestartDone s = .next u ∧ u.ctrl.down = none ∧ (∀ c, c ∈ u.ctrl.dangerous ↔ c ∈ s.ctrl.dangerous ∧ c ≠ cControllerLockstep) ∧ u.ctrl.latched = s.ctrl.latched ∧ u.tiles = s.tiles
        ∧ u.ctrl.nextMsg = (if t ≤ s.ctrl.tick then s.ctrl.nextMsg + 1 else s.ctrl.nextMsg))
    ∧ (∀ retest, s.ctrl.enclaveFails < 2 ∨ retest = true → ∃ u, exec (.enclaveSelftest true retest) s = .next u ∧ u.ctrl.enclaveFails = 0 ∧ (∀ c, c ∈ u.ctrl.dangerous ↔ c ∈ s.ctrl.dangerous ∧ c ≠ cEnclaveSelftest) ∧ u.ctrl.latched = s.ctrl.latched ∧ u.tiles = s.tiles)
    ∧ (2 ≤ s.ctrl.enclaveFails → exec (.enclaveSelftest true false) s = .next s)
    ∧ (s.ctrl.enclaveFails = 1 → ∃ u, exec (.enclaveSelftest false true) s = .next u ∧ faultN u = true ∧ cEnclaveSelftest ∈ u.ctrl.dangerous ∧ u.ctrl.enclaveFails = 2 ∧ u.tiles = s.tiles)
    ∧ (s.ctrl.enclaveFails = 0 → ∀ retest, ∃ u, exec (.enclaveSelftest false retest) s = .next u ∧ u.ctrl.enclaveFails = 1 ∧ u.ctrl.latched = s.ctrl.latched ∧ u.ctrl.dangerous = s.ctrl.dangerous ∧ u.tiles = s.tiles)

/-- PWR_FAIL_N_FALL, PWR_FAIL_ACCEPT, POWER_FAIL_COMMIT_END, PWR_FAIL_N_RETURN, EXTEST_LOAD, SUPPLY_FAIL, SUPPLY_RANGE, THERMAL_LIMIT, THERMAL_TRIP, POWER_MEASURE and THROTTLE_UPDATE (16 R507 to R511; 17 R541 to R546, R552). The held record's numbers of what is open are those of notes/assumptions/29.md. -/
def Obligations.PowerEvents : Prop :=
  ∀ s : State,
    exec .pwrFailNFall s = .next { s with power := { s.power with powerFail := true } }
    ∧ (s.power.powerFail = false ∨ s.power.cut.isSome = true ∨ s.power.phase = 10 → exec .pwrFailAccept s = .next s)
    ∧ (s.power.cut = none → s.power.phase ≠ 10 →
        (s.power.powerFail = true → ∃ u, exec .pwrFailAccept s = .next u ∧ CutStarted s u 1 ∧ u.power.phase = s.power.phase
            ∧ (s.eth.alarms = [] → u.keep = s.keep ∧ ∃ c, u.power.cut = some c ∧ c.body = powerFailBody s))
        ∧ (∃ u, exec .extestLoad s = .next u ∧ CutStarted s u 6 ∧ faultN u = true)
        ∧ (∀ rail : Fin 12, rail ∈ ([0, 1, 4] : List (Fin 12)) → ∃ u, exec (.supplyFail rail) s = .next u ∧ CutStarted s u 1)
        ∧ (∀ d : Int, 115 ≤ d → ∃ u, exec (.thermalTrip d) s = .next u ∧ CutStarted s u 4))
    ∧ (∀ rail : Fin 12, rail ∉ ([0, 1, 4] : List (Fin 12)) → exec (.supplyFail rail) s = .next s)
    ∧ (∀ d : Int, d < 115 → exec (.thermalTrip d) s = .next s)
    ∧ (s.power.cut = none → exec .powerFailCommitEnd s = .next s)
    ∧ (∀ c, s.power.cut = some c →
        (c.done = true → exec .powerFailCommitEnd s = .next s)
        ∧ (c.done = false → (s.keep.pos + recLen (.powerFail c.body)) / 65536 + 2 ≤ s.keep.ready → ∃ u, exec .powerFailCommitEnd s = .next u
            ∧ u.keep.recs = s.keep.recs ++ [{ jseq := s.keep.next, gen := s.keep.otp.transitions, at_ := s.keep.pos, body := .powerFail c.body }] ∧ u.keep.next = s.keep.next + 1)
        ∧ (c.done = false → c.cause = 3 ∨ c.cause = 5 → ∃ u, exec .powerFailCommitEnd s = .next u ∧ u.power.phase = 1 ∧ u.power.cause = c.cause ∧ u.power.cut = none ∧ u.ctrl.plan = none ∧ u.tiles = State.reset.tiles ∧ u.cfg = [])
        ∧ (c.done = false → c.cause ≠ 3 → c.cause ≠ 5 → ∃ u, exec .powerFailCommitEnd s = .next u ∧ u.power.phase = 10 ∧ u.power.cut = some { c with done := true } ∧ u.tiles = s.tiles ∧ (∀ d, 80 ≤ d → d < 92 → domainState u d = 4) ∧ domainState u 92 = 0)
        ∧ (c.done = true → c.cause = 1 → ∃ u, exec .pwrFailNReturn s = .next u ∧ u.power.phase = 1 ∧ u.power.cause = 1 ∧ u.power.powerFail = false ∧ u.power.cut = none ∧ u.keep = s.keep ∧ u.tiles = State.reset.tiles))
    ∧ ((∀ c, s.power.cut = some c → c.done = false ∨ c.cause ≠ 1) → exec .pwrFailNReturn s = .next { s with power := { s.power with powerFail := false } })
    ∧ (∀ (mw : BitVec 32) (j : Int) (rails : List (BitVec 16)), ∃ u, exec (.powerMeasure mw j rails) s = .next u ∧ u.power.samples = (mw.toNat :: s.power.samples).take 100 ∧ u.power.junction = j ∧ (rails.length = 12 → u.power.rails = rails.map (·.toNat))
        ∧ u.tiles = s.tiles ∧ u.ctrl = s.ctrl ∧ u.cfg = s.cfg)
    ∧ (cfgOn s oPowerCapEnable = false → exec .throttleUpdate s = .next { s with power := { s.power with next := 0 } })
    ∧ (cfgOn s oPowerCapEnable = true → ∃ u, exec .throttleUpdate s = .next u ∧ u.tiles = s.tiles ∧ u.power.level = s.power.level
        ∧ (cfgNat s oPowerCap * 1000 < measuredPower s ∨ cfgInt16 s oPowerTempLimit ≤ s.power.junction → u.power.next = min (s.power.next + 1) 12)
        ∧ (measuredPower s * 100 < 95 * (cfgNat s oPowerCap * 1000) → s.power.junction < cfgInt16 s oPowerTempLimit - 2 → u.power.next = s.power.next - 1)
        ∧ (95 * (cfgNat s oPowerCap * 1000) ≤ measuredPower s * 100 → measuredPower s ≤ cfgNat s oPowerCap * 1000 → s.power.junction < cfgInt16 s oPowerTempLimit → u.power.next = s.power.next)
        ∧ (u.alaust.raised.length = s.alaust.raised.length + if s.power.next = 0 ∧ u.power.next ≠ 0 then 1 else 0))
    ∧ (∀ d : Int, (d < 105 → exec (.thermalLimit d) s = .next { s with power := { s.power with junction := max s.power.junction d } })
        ∧ (105 ≤ d → ∃ u, exec (.thermalLimit d) s = .next u ∧ faultN u = true ∧ roGet u oFaultLastCode = cThermalLimit ∧ u.power.junction = max s.power.junction d ∧ (∀ x ∈ u.ctrl.sets, x.suspect = true) ∧ u.tiles = s.tiles))
    ∧ (∀ (rail : Fin 12) (mv : BitVec 16), ∃ u, exec (.supplyRange rail mv) s = .next u ∧ u.power.rails = s.power.rails.set rail.val mv.toNat ∧ u.tiles = s.tiles
        ∧ (railOut u rail.val = true → faultN u = true ∧ roGet u oFaultLastCode = cSupplyRange) ∧ (railOut u rail.val = false → u.ctrl = s.ctrl))

/-- PLL_LOCK_LOSS, REFCLK_LOSS, REFCLK_RETURN, ETH_REFCLK_RETURN, WAKE_ADMISSION_SLOT, DOMAIN_IN_RUN, TILE_LOWER, PPS_OUT_SECOND, PPS_OUT_END and PPS_IN_EDGE (17 R536 to R551; 18 R570, R571). -/
def Obligations.ClocksAndWakeUps : Prop :=
  ∀ s : State,
    (∀ pll : Fin 9, pll.val ∉ s.power.pll → exec (.pllLockLoss pll) s = .next s)
    ∧ (∀ pll : Fin 9, pll.val ∈ s.power.pll → ∃ u, exec (.pllLockLoss pll) s = .next u ∧ (∀ k, k ∈ u.power.pll ↔ k ∈ s.power.pll ∧ k ≠ pll.val) ∧ u.cfg = s.cfg
        ∧ (pll.val < 2 → 1 - pll.val ∈ s.power.pll → s.power.pllActive = pll.val → u.power.pllActive = 1 - pll.val ∧ cPllSpared ∈ u.ctrl.degraded ∧ u.power.cut = s.power.cut ∧ u.tiles = s.tiles)
        ∧ (pll.val < 2 → 1 - pll.val ∈ s.power.pll → s.power.pllActive ≠ pll.val → u.power.pllActive = s.power.pllActive ∧ u.ctrl = s.ctrl ∧ u.tiles = s.tiles)
        ∧ (pll.val = 2 ∨ (pll.val < 2 ∧ 1 - pll.val ∉ s.power.pll) → s.power.cut = none → s.power.phase ≠ 10 → CutStarted s u 5 ∧ faultN u = true)
        ∧ (∀ e : Fin 2, pll.val = 3 + e.val → domainState s (84 + e.val) = 0 → (ethPort u e).link = false ∧ faultN u = true ∧ u.tiles = s.tiles)
        ∧ (∀ n : Fin 4, pll.val = 5 + n.val → domainState s (86 + n.val) = 0 → (bport u n).state = 0 ∧ faultN u = true)
        ∧ (3 ≤ pll.val → domainState s (81 + pll.val) ≠ 0 → u.ctrl = s.ctrl ∧ u.tiles = s.tiles ∧ u.eth = s.eth ∧ u.beryl = s.beryl))
    ∧ (∃ u, exec (.refclkLoss false) s = .next u ∧ u.power.refclk = false ∧ faultN u = true ∧ u.eth = s.eth ∧ u.tiles = s.tiles)
    ∧ (s.power.ethRefclk = true → ∃ u, exec (.refclkLoss true) s = .next u ∧ u.power.ethRefclk = false ∧ faultN u = true ∧ (∀ e, (ethPort u e).link = false) ∧ 3 ∉ u.power.pll ∧ 4 ∉ u.power.pll ∧ u.tiles = s.tiles)
    ∧ (s.power.ethRefclk = false → ∃ u, exec (.refclkLoss true) s = .next u ∧ u.power = s.power ∧ faultN u = true ∧ u.eth = s.eth ∧ u.tiles = s.tiles)
    ∧ exec .refclkReturn s = .next { s with power := { s.power with refclk := true } }
    ∧ (s.power.ethRefclk = true → exec .ethRefclkReturn s = .next s)
    ∧ (s.power.ethRefclk = false → ∃ u, exec .ethRefclkReturn s = .next u ∧ u.power.ethRefclk = true ∧ u.tiles = s.tiles ∧ u.ctrl = s.ctrl
        ∧ ∀ e : Fin 2, ((∃ x ∈ s.power.linksHeld, x % 2 = e.val) → (ethPort u e).link = true) ∧ ((∀ x ∈ s.power.linksHeld, x % 2 ≠ e.val) → ethPort u e = ethPort s e))
    ∧ (s.power.wake = [] → exec .wakeAdmissionSlot s = .next s)
    ∧ (∀ w r, s.power.wake = w :: r → ∃ u, exec .wakeAdmissionSlot s = .next u ∧ u.power.wake = r ∧ (∀ d, d ∈ u.power.waking ↔ d ∈ s.power.waking ∨ d = w.domain) ∧ u.tiles = s.tiles ∧ u.ro = (roAdd s oPowerWakeWaits r.length).ro)
    ∧ (∀ d : Fin 93, d.val ∉ s.power.waking → exec (.domainInRun d) s = .next s)
    ∧ (∀ d : Fin 93, d.val ∈ s.power.waking → ∃ u, exec (.domainInRun d) s = .next u ∧ (∀ k, k ∈ u.power.waking ↔ k ∈ s.power.waking ∧ k ≠ d.val) ∧ (d.val < 72 ∨ 80 ≤ d.val → domainState u d.val = 0)
        ∧ (d.val = 80 ∨ d.val = 81 → domainState s d.val = 4 → ∀ c ∈ u.meadow.mem, meadowBank (c.1 / 128) % 2 ≠ d.val - 80) ∧ (domainState s d.val ≠ 4 → u.meadow = s.meadow ∧ u.hbm = s.hbm) ∧ (72 ≤ d.val → u.tiles = s.tiles)
        ∧ (∀ p : PTile, p.val = d.val → (∀ q, q ≠ p → tile u q = tile s q) ∧ ((tile s p).power < 3 → tile u p = { tile s p with power := 0 })
            ∧ (3 ≤ (tile s p).power → (tile u p).wbuf = [] ∧ (tile u p).abuf = [] ∧ (tile u p).vob = [] ∧ (tile u p).run = none ∧ (s.ctrl.plan = none → (tile u p).core = []))))
    ∧ (∀ p : PTile, (smFind s.power.lower p.val = none → exec (.tileLower p) s = .next s)
        ∧ (∀ st, smFind s.power.lower p.val = some st →
            (tileIdle (tile s p) = false ∨ p.val ∈ s.power.waking → exec (.tileLower p) s = .next s)
            ∧ (tileIdle (tile s p) = true → p.val ∉ s.power.waking → ∃ u, exec (.tileLower p) s = .next u ∧ (tile u p).power = st ∧ ((tile s p).power < 3 ∨ (tile s p).power ≤ st → tile u p = { tile s p with power := st })
                ∧ (3 ≤ (tile s p).power → st < (tile s p).power → (tile u p).wbuf = [] ∧ (tile u p).abuf = [] ∧ (tile u p).vob = [] ∧ (s.ctrl.plan = none → (tile u p).core = [])) ∧ (∀ q, q ≠ p → tile u q = tile s q) ∧ u.ctrl = s.ctrl)))
    ∧ (s.power.phase = 8 → cfgOn s oPpsOutEnable = true → exec .ppsOutSecond s = .next { s with power := { s.power with ppsOut := true } })
    ∧ (s.power.phase ≠ 8 ∨ cfgOn s oPpsOutEnable = false → exec .ppsOutSecond s = .next s)
    ∧ exec .ppsOutEnd s = .next { s with power := { s.power with ppsOut := false } }
    ∧ (∃ u, exec .ppsInEdge s = .next u ∧ roGet u oPpsInTime = nowNs s % 2 ^ 64 ∧ roGet u oPpsInCount = (roGet s oPpsInCount + 1) % 2 ^ objBits oPpsInCount ∧ u.tiles = s.tiles ∧ u.ctrl = s.ctrl
        ∧ roGet u oPpsInOffset = if nowNs s % 1000000000 ≤ 500000000 then nowNs s % 1000000000 else 2 ^ 64 - (1000000000 - nowNs s % 1000000000))

/-- PORST_N_LOW, PORST_N_RISE, FUSES_SENSED, HBM_TRAINED, IMAGE_READ_DONE, IMAGE_VERIFIED, FIRMWARE_SELFTEST_DONE, JOURNAL_REPLAY_DONE, WIPE_DONE, SELF_TEST_DONE, RESTART_LOCK_WAIT and the rows of recovery (16 R505 to R531; 17 R552 to R556). Whether a signature verifies is a free value (notes/assumptions/9.md). -/
def Obligations.StartUpAndRecovery : Prop :=
  ∀ s : State,
    (∃ u, exec .porstNLow s = .next u ∧ u.power.phase = 0 ∧ u.power.cause = porstCause s ∧ (s.power.cut = none → u.power.cause = 0) ∧ alarmPin u = none ∧ faultN u = true ∧ u.keep = s.keep ∧ u.part = s.part ∧ u.tiles = State.reset.tiles ∧ u.hbm = State.reset.hbm ∧ u.meadow = State.reset.meadow ∧ u.ctrl = State.reset.ctrl ∧ u.alaust = State.reset.alaust ∧ u.eth = State.reset.eth ∧ u.cfg = [] ∧ u.ro = [])
    ∧ (∀ b a, (s.power.phase ≠ 0 → exec (.porstNRise b a) s = .next s)
        ∧ (s.power.phase = 0 → ∃ u, exec (.porstNRise b a) s = .next u ∧ u.power.phase = 1 ∧ u.power.bootMode = b ∧ u.power.i2cAddr = 0x58 + a.toNat ∧ u.tiles = s.tiles ∧ u.cfg = s.cfg))
    ∧ (s.power.phase ≠ 1 → exec .fusesSensed s = .next s)
    ∧ (s.power.phase = 1 → ∃ u, exec .fusesSensed s = .next u ∧ u.power.phase = 2 ∧ 0 ∈ u.power.pll ∧ 1 ∈ u.power.pll ∧ domainState u 90 = 0 ∧ domainState u 91 = 0 ∧ u.tiles = s.tiles)
    ∧ (s.power.phase ≠ 2 → exec .hbmTrained s = .next s)
    ∧ (s.power.phase = 2 → ∃ u, exec .hbmTrained s = .next u ∧ u.power.phase = (if s.power.bootMode = 1 then 9 else 3) ∧ 2 ∈ u.power.pll ∧ domainState u 82 = 0 ∧ u.tiles = s.tiles ∧ u.hbm.mem = s.hbm.mem)
    ∧ (s.power.phase ≠ 3 → exec .imageReadDone s = .next s ∧ exec .imageVerified s = .next s)
    ∧ (s.power.phase = 3 →
        (∀ b r, imageCopies s = b :: r → memWf s.hbm.mem = true → ∃ u, exec .imageReadDone s = .next u ∧ u.power = s.power ∧ ∀ a, memGet u.hbm.mem a = if startArea ≤ a ∧ a < startArea + b.length then b.getD (a - startArea) 0 else memGet s.hbm.mem a)
        ∧ (imageCopies s = [] → ∃ u, exec .imageReadDone s = .next u ∧ u.hbm.mem = s.hbm.mem ∧ u.power = s.power)
        ∧ (s.power.halted = true → exec .imageVerified s = .next s)
        ∧ (s.power.halted = false → (∀ b ∈ imageCopies s, verifyImage s.keep.otp b ≠ cDone) → ∃ u, exec .imageVerified s = .next u ∧ u.power.phase = 9 ∧ domainState u 84 = 0 ∧ domainState u 85 = 0 ∧ u.fw = s.fw)
        ∧ (s.power.halted = false → ∃ u, exec .imageVerified s = .next u ∧ u.tiles = s.tiles ∧ u.keep = s.keep ∧ ∀ b, bootImage s = some b → u.fw.image = b ∧ b ∈ imageCopies s ∧ verifyImage s.keep.otp b = cDone
            ∧ ((∀ c ∈ imageCopies s, c = b) → (keepDevices s).length ≤ (imageCopies s).length → u.fw.state = 0) ∧ ((∃ c ∈ imageCopies s, c ≠ b) → u.fw.state = 3 ∧ u.fw.recovered = true)
            ∧ (s.power.bootMode = 2 → s.keep.otp.lc = 1 → u.power.halted = true ∧ u.power.phase = 3) ∧ (s.power.bootMode ≠ 2 ∨ s.keep.otp.lc ≠ 1 → u.power.halted = false ∧ u.power.phase = 4)))
    ∧ (s.power.phase ≠ 4 → exec .firmwareSelftestDone s = .next s)
    ∧ (s.power.phase = 4 → exec .firmwareSelftestDone s = .next { s with power := { s.power with released := true } })
    ∧ (∀ dead, s.power.phase ≠ 4 ∨ s.power.released = false → exec (.journalReplayDone dead) s = .next s)
    ∧ (∀ dead k, s.power.phase = 4 → s.power.released = true → k = { s.keep with recs := s.keep.recs.filter fun r => !(dead ++ lostRecords s).contains r.jseq } → ∃ u, exec (.journalReplayDone dead) s = .next u ∧ u.power.phase = 5 ∧ domainState u 80 = 0 ∧ domainState u 81 = 0
        ∧ (∀ b, validRecord k = some b → u.ctrl.tick = leAt b 0 8 ∧ u.ctrl.event = leAt b 16 8 ∧ u.ctrl.seq = leAt b 24 8 ∧ u.ctrl.nseq = leAt b 32 8)
        ∧ (validRecord k = none → u.ctrl.event = resumeAt k 0 ∧ u.ctrl.seq = resumeAt k 1 ∧ u.ctrl.nseq = resumeAt k 2)
        ∧ ∀ p : PTile, (tile u p).bistEnd = true ↔ (tile u p).power = 0)
    ∧ (s.power.phase ≠ 5 → exec .wipeDone s = .next s)
    ∧ (s.power.phase = 5 → memWf s.hbm.mem = true → ∃ u, exec .wipeDone s = .next u ∧ u.power.phase = 6 ∧ u.meadow.mem = [] ∧ (∀ a, memGet u.hbm.mem a = if startArea ≤ a ∧ a < startAreaEnd then memGet s.hbm.mem a else 0)
        ∧ ∀ p : PTile, (tile u p).core = [] ∧ (tile u p).wbuf = [] ∧ (tile u p).abuf = [] ∧ (tile u p).vob = [] ∧ (tile u p).role = (tile s p).role ∧ (tile u p).logical = (tile s p).logical)
    ∧ (∀ l g, s.power.phase ≠ 6 → exec (.selfTestDone l g) s = .next s)
    ∧ (∀ (l : List PTile) g, s.power.phase = 6 → ∃ u, exec (.selfTestDone l g) s = .next u ∧ u.power.phase = 7 ∧ u.ctrl.lock = (if cfgNat s oTickSource = 0 then 0 else 1) ∧ (dangerStands u = true → u.ctrl.latched = true)
        ∧ ∀ p : PTile, ((tile s p).bistEnd = false → tile u p = tile s p) ∧ ((tile s p).bistEnd = true → p ∈ l → (tile u p).role = 5 ∧ (tile u p).logical = 255 ∧ cTileRetired ∈ u.ctrl.degraded)
          ∧ ((tile s p).bistEnd = true → p ∉ l → (tile u p).role = (tile s p).role ∧ (tile u p).power = 2 ∧ (tile u p).bistEnd = false ∧ (tile u p).bistPass = nowNs s))
    ∧ (s.power.phase ≠ 7 ∨ s.ctrl.lock = 2 ∨ cfgNat s oTickSource = 0 → exec .restartLockWait s = .next s)
    ∧ (s.power.phase = 7 → s.ctrl.lock ≠ 2 → cfgNat s oTickSource ≠ 0 → ∃ u, exec .restartLockWait s = .next u ∧ u.ctrl.lock = 3 ∧ u.tiles = s.tiles ∧ holdoverError u = 2 ^ 63 - 1)
    ∧ (∀ e h n d, s.power.phase ≠ 9 ∨ s.power.recover.isSome = true → exec (.recoveryRequest e) s = .next s ∧ exec (.recoveryOffer e h n d) s = .next s)
    ∧ (s.power.phase = 9 → s.power.recover = none → ∀ e : Fin 2, ((ethPort s e).link = false → exec (.recoveryRequest e) s = .next s ∧ ∀ h n d, exec (.recoveryOffer e h n d) s = .next s) ∧ ((ethPort s e).link = true → (∃ u f, exec (.recoveryRequest e) s = .next u ∧ u.tx = { port := e, frame := f, src := linkLocal s e, start := macReady s } :: s.tx ∧ f.cls = 5 ∧ f.dst = allNodes ∧ f.dport = recoveryPort ∧ f.body.take 1 = leBytes 1 1 ∧ u.tiles = s.tiles ∧ u.power = s.power)
        ∧ ∀ (h d : List Byte) (n : BitVec 64), ∃ u f r, exec (.recoveryOffer e h n d) s = .next u ∧ u.tx = { port := e, frame := f, src := linkLocal s e, start := macReady s } :: s.tx ∧ f.dst = h ∧ f.dport = recoveryPort ∧ f.body = leBytes 1 3 ++ (leBytes 8 0 ++ leBytes 2 (min 1280 n.toNat))
          ∧ u.power.recover = some r ∧ r.host = h ∧ r.port = e ∧ r.length = n.toNat ∧ r.digest = d ∧ r.got = []))
    ∧ (∀ e h o b, s.power.recover = none → exec (.recoveryData e h o b) s = .next s ∧ exec .recoveryReadRepeat s = .next s)
    ∧ (∀ r, s.power.recover = some r →
        (∀ e h (o : BitVec 64) (b : List Byte), (ethPort s e).link = false ∨ e ≠ r.port ∨ h ≠ r.host ∨ o.toNat ≠ r.got.length ∨ b.length ≠ min 1280 (r.length - r.got.length) → exec (.recoveryData e h o b) s = .next s)
        ∧ ((ethPort s r.port).link = true → ∀ (o : BitVec 64) (b : List Byte), o.toNat = r.got.length → b.length = min 1280 (r.length - r.got.length) →
            (r.got.length + b.length < r.length → ∃ u q f, exec (.recoveryData r.port r.host o b) s = .next u ∧ u.power.recover = some q ∧ q.got = r.got ++ b ∧ q.length = r.length ∧ q.digest = r.digest
                ∧ u.tx = { port := r.port, frame := f, src := linkLocal s r.port, start := macReady s } :: s.tx ∧ f.dst = r.host ∧ f.body = leBytes 1 3 ++ (leBytes 8 (r.got.length + b.length) ++ leBytes 2 (min 1280 (r.length - (r.got.length + b.length)))))
            ∧ (r.length ≤ r.got.length + b.length → ∃ u, exec (.recoveryData r.port r.host o b) s = .next u ∧ u.power.recover = none ∧ u.tiles = s.tiles
                ∧ (sha384 (r.got ++ b) = r.digest → verifyImage s.keep.otp (r.got ++ b) = cDone → u.power.phase = 4 ∧ u.fw.image = r.got ++ b ∧ u.fw.state = 3)
                ∧ (sha384 (r.got ++ b) ≠ r.digest ∨ verifyImage s.keep.otp (r.got ++ b) ≠ cDone → u.power.phase = s.power.phase ∧ u.fw = s.fw)))
        ∧ (8 ≤ r.repeats → exec .recoveryReadRepeat s = .next { s with power := { s.power with recover := none } })
        ∧ (r.repeats < 8 → ∃ u f, exec .recoveryReadRepeat s = .next u ∧ u.power.recover = some { r with repeats := r.repeats + 1 } ∧ u.tiles = s.tiles ∧ ((ethPort s r.port).link = true → u.tx = { port := r.port, frame := f, src := linkLocal s r.port, start := macReady s } :: s.tx ∧ f.dst = r.host
            ∧ f.body = leBytes 1 3 ++ (leBytes 8 r.got.length ++ leBytes 2 (min 1280 (r.length - r.got.length))))))

/-- Which frame cycles are tile-DMA cycles, and their numbers (09 R291). -/
def Obligations.TileDmaCycles : Prop :=
  ∀ f, f < 64 → (∀ k, tileDmaCycle f = some k ↔ k < 40 ∧ f = if k < 20 then 4 + k else 16 + k)
    ∧ ((tileDmaCycle f).isSome = true ↔ (4 ≤ f ∧ f ≤ 23) ∨ (36 ≤ f ∧ f ≤ 55))

/-- The values of State.reset; registers without a stated value and memory before the wipe follow notes/assumptions/4.md and 5.md. -/
def Obligations.ResetState : Prop :=
  State.reset.power.phase = 0 ∧ State.reset.power.cause = 0 ∧ faultN State.reset = true ∧ State.reset.power.cut = none ∧ State.reset.pending = [] ∧ State.reset.cycle = 0
    ∧ (∀ p : PTile, (tile State.reset p).power = 4 ∧ (tile State.reset p).run = none ∧ (tile State.reset p).intCtrl = 0 ∧ (tile State.reset p).intPending = 0 ∧ (tile State.reset p).sched = [] ∧ (tile State.reset p).commits = []
        ∧ (∀ n : Fin 64, gVal (tile State.reset p) n = 0) ∧ (∀ a, memGet (tile State.reset p).core a = 0 ∧ memGet (tile State.reset p).wbuf a = 0 ∧ memGet (tile State.reset p).abuf a = 0 ∧ memGet (tile State.reset p).vob a = 0))
    ∧ (∀ a, memGet State.reset.meadow.mem a = 0 ∧ memGet State.reset.hbm.mem a = 0)
    ∧ (∀ k, cfgNat State.reset k = objDefault k ∧ roGet State.reset k = objDefault k)
    ∧ State.reset.ctrl.plan = none ∧ State.reset.ctrl.items = [] ∧ State.reset.ctrl.msgs = [] ∧ State.reset.ctrl.tick = 0 ∧ State.reset.alaust.sessions = [] ∧ State.reset.alaust.bulks = [] ∧ State.reset.tx = []
    ∧ MemoriesWf State.reset

/-- The canonical form of every memory is kept by every command and by the tile cycle of an empty queue (notes/assumptions/5.md). -/
def Obligations.EveryStepKeepsMemories : Prop :=
  ∀ s t : State, MemoriesWf s → step s = .next t → MemoriesWf t
end

