-- ==== Sys2Proof/Laws/Issue.lean ====
section
/-! SUPPORT. What the issue of one operation can do: the effect, the bar, or the fault. -/

namespace Sys2Proof.Laws

open Sys2Proof Sys2Proof.Machine

/-- An operation that nothing stops has its effect. -/
theorem issueOne_act {p : PTile} {o : TileOp} {s : State} (hb : opBarred (tile s p) o = false) (hw : portWait s (tile s p) o = false)
    (hc : o.conflict s = false) (hk : (o.check s).1 = 0) (hv : o.vfault s = none) : issueOne p o s = o.act s := by
  simp [issueOne, hb, hw, hc, hk, hv]

/-- An operation that its context bars is ILLEGAL_BUNDLE. -/
theorem issueOne_barred {p : PTile} {o : TileOp} {s : State} (hb : opBarred (tile s p) o = true) :
    issueOne p o s = opFault s p cIllegalBundle 0 := by
  simp [issueOne, hb]

/-- An operation whose check fails raises its fault. -/
theorem issueOne_fault {p : PTile} {o : TileOp} {s : State} (hb : opBarred (tile s p) o = false) (hw : portWait s (tile s p) o = false)
    (hc : o.conflict s = false) (hk : (o.check s).1 ≠ 0) : issueOne p o s = opFault s p (o.check s).1 (o.check s).2 := by
  simp [issueOne, hb, hw, hc, hk]

/-- An access of a handler through L0 waits while a vector operation of the flow it cut holds port 0: nothing happens in the cycle (04 R161). -/
theorem issueOne_waits {p : PTile} {o : TileOp} {s : State} (hb : opBarred (tile s p) o = false) (hw : portWait s (tile s p) o = true) : issueOne p o s = s := by
  simp [issueOne, hb, hw]

/-- An operation that names no L0 access never waits for port 0. -/
theorem portWait_false {s : State} {t : Tile} {o : TileOp} (h : o.port ≠ 1) : portWait s t o = false := by
  simp [portWait, h]

/-- Names open to the context do not bar. -/
theorem names_open_any {t : Tile} {l : List (Fin 64)} (h : NamesOpen t l) : (t.inC0 && l.any fun n => decide (32 ≤ n.val)) = false := by
  cases hc : t.inC0 with
  | false => simp
  | true =>
    simp only [Bool.true_and, List.any_eq_false, decide_eq_true_eq]
    intro n hn hge
    have := h hc n hn
    omega

/-- An operation barred by nothing but its names is not barred when they are open. -/
theorem opBarred_false {t : Tile} {o : TileOp} (h : NamesOpen t o.names) (hb : o.barC0 = true → t.inC0 = false) (ho : o.onlyC0 = true → t.inC0 = true)
    (hi : o.illegal t = false) : opBarred t o = false := by
  have h1 := names_open_any h
  simp only [opBarred, hi, Bool.or_false]
  cases hc : t.inC0 <;> cases hb' : o.barC0 <;> cases ho' : o.onlyC0 <;> simp_all

end Sys2Proof.Laws
end

