-- ==== Sys2Proof/Laws/Memory.lean ====
section
/-! SUPPORT. The memory operations keep the canonical form; a read after a write gives the byte written, and every other byte stays. -/

namespace Sys2Proof.Laws

open Sys2Proof Sys2Proof.Machine

/-- a lies above the bound. -/
def Above (o : Option Nat) (a : Nat) : Prop := ∀ lo, o = some lo → lo < a

theorem memSorted_cons {o : Option Nat} {k : Nat} {b : Byte} {r : Mem} :
    memSorted o ((k, b) :: r) = true ↔ Above o k ∧ b ≠ 0 ∧ memSorted (some k) r = true := by
  cases o <;> simp [memSorted, Above, and_assoc]

theorem memSorted_weaken {o o' : Option Nat} {m : Mem} (h : memSorted o m = true) (ho : ∀ a, Above o a → Above o' a) :
    memSorted o' m = true := by
  cases m with
  | nil => cases o' <;> rfl
  | cons c r => rw [memSorted_cons] at h ⊢; exact ⟨ho _ h.1, h.2⟩

theorem memSorted_none {o : Option Nat} {m : Mem} (h : memSorted o m = true) : memSorted none m = true :=
  memSorted_weaken h (by simp [Above])

theorem memSorted_below {k : Nat} {m : Mem} (h : memSorted (some k) m = true) : ∀ c ∈ m, k < c.1 := by
  induction m generalizing k with
  | nil => simp
  | cons c r ih =>
    rw [memSorted_cons] at h
    have hk : k < c.1 := h.1 k rfl
    intro x hx
    rcases List.mem_cons.mp hx with rfl | hx
    · exact hk
    · exact Nat.lt_trans hk (ih h.2.2 x hx)

theorem memGet_below {k a : Nat} {m : Mem} (h : memSorted (some k) m = true) (ha : a ≤ k) : memGet m a = 0 := by
  cases m with
  | nil => rfl
  | cons c r =>
    have := memSorted_below h c List.mem_cons_self
    have h1 : ¬ c.1 = a := by omega
    have h2 : a < c.1 := by omega
    simp [memGet, h1, h2]

theorem memPut_sorted {o : Option Nat} {m : Mem} {a : Nat} {b : Byte} (h : memSorted o m = true) (ha : Above o a) :
    memSorted o (memPut m a b) = true := by
  induction m generalizing o with
  | nil =>
    by_cases hb : b = 0
    · simp only [memPut, hb, if_true]; exact h
    · simp only [memPut, hb, if_false]; rw [memSorted_cons]; exact ⟨ha, hb, rfl⟩
  | cons c r ih =>
    obtain ⟨k, v⟩ := c
    have h0 := h
    rw [memSorted_cons] at h
    simp only [memPut]
    by_cases h1 : a < k
    · simp only [h1, if_true]
      by_cases hb : b = 0
      · simp only [hb, if_true]; exact h0
      · simp only [hb, if_false]
        rw [memSorted_cons, memSorted_cons]
        refine ⟨ha, hb, ?_, h.2⟩
        intro lo e; cases e; exact h1
    · simp only [h1, if_false]
      by_cases h2 : k = a
      · subst h2
        simp only [if_true]
        by_cases hb : b = 0
        · simp only [hb, if_true]
          exact memSorted_weaken h.2.2 (fun x hx lo e => Nat.lt_trans (h.1 lo e) (hx k rfl))
        · simp only [hb, if_false]; rw [memSorted_cons]; exact ⟨h.1, hb, h.2.2⟩
      · simp only [h2, if_false]
        rw [memSorted_cons]
        refine ⟨h.1, h.2.1, ih h.2.2 ?_⟩
        intro lo e; cases e; omega

/-- A store of one byte keeps the canonical form. -/
theorem memPut_wf {m : Mem} (a : Nat) (b : Byte) (h : memWf m = true) : memWf (memPut m a b) = true :=
  memPut_sorted h (by simp [Above])

/-- A store of bytes keeps the canonical form. -/
theorem memWrite_wf {m : Mem} (a : Nat) (bs : List Byte) (h : memWf m = true) : memWf (memWrite m a bs) = true := by
  induction bs generalizing m a with
  | nil => exact h
  | cons b r ih => exact ih _ (memPut_wf a b h)

theorem filter_sorted {o : Option Nat} {m : Mem} (q : Host.Cell → Bool) (h : memSorted o m = true) : memSorted o (m.filter q) = true := by
  induction m generalizing o with
  | nil => simpa using h
  | cons c r ih =>
    rw [memSorted_cons] at h
    by_cases hq : q c = true
    · rw [List.filter_cons_of_pos hq, memSorted_cons]; exact ⟨h.1, h.2.1, ih h.2.2⟩
    · rw [List.filter_cons_of_neg hq]
      exact ih (memSorted_weaken h.2.2 (fun x hx lo e => Nat.lt_trans (h.1 lo e) (hx _ rfl)))

/-- Clearing a range keeps the canonical form. -/
theorem memClear_wf {m : Mem} (a n : Nat) (h : memWf m = true) : memWf (memClear m a n) = true := filter_sorted _ h

theorem sorted_append {o : Option Nat} {l r : Mem} (hl : memSorted o l = true) (hr : memSorted none r = true)
    (hlr : ∀ x ∈ l, ∀ y ∈ r, x.1 < y.1) (hor : ∀ y ∈ r, Above o y.1) : memSorted o (l ++ r) = true := by
  induction l generalizing o with
  | nil =>
    cases r with
    | nil => cases o <;> rfl
    | cons y r => rw [memSorted_cons] at hr; rw [List.nil_append, memSorted_cons]; exact ⟨hor y List.mem_cons_self, hr.2⟩
  | cons c l ih =>
    rw [memSorted_cons] at hl
    rw [List.cons_append, memSorted_cons]
    refine ⟨hl.1, hl.2.1, ih hl.2.2 (fun x hx => hlr x (List.mem_cons_of_mem _ hx)) ?_⟩
    intro y hy lo e; cases e; exact hlr c List.mem_cons_self y hy

theorem fill_sorted (a n : Nat) {b : Byte} (hb : b ≠ 0) : memSorted none ((List.range n).map fun i => (a + i, b)) = true := by
  induction n with
  | zero => rfl
  | succ n ih =>
    rw [List.range_succ, List.map_append]
    refine sorted_append ih ?_ ?_ (by simp [Above])
    · show memSorted none [(a + n, b)] = true
      rw [memSorted_cons]; exact ⟨by simp [Above], hb, rfl⟩
    · simp only [List.map_cons, List.map_nil, List.mem_singleton, List.mem_map, List.mem_range]
      rintro x ⟨i, hi, rfl⟩ y rfl
      simp only
      omega

/-- A fill keeps the canonical form. -/
theorem memFill_wf {m : Mem} (a n : Nat) (b : Byte) (h : memWf m = true) : memWf (memFill m a n b) = true := by
  unfold memFill memWf
  have hlo : memSorted none (m.filter fun c => decide (c.1 < a)) = true := filter_sorted _ h
  have hhi : memSorted none (m.filter fun c => decide (a + n ≤ c.1)) = true := filter_sorted _ h
  by_cases hb : b = 0
  · simp only [hb, if_true, List.append_nil]
    refine sorted_append hlo hhi ?_ (by simp [Above])
    simp only [List.mem_filter, decide_eq_true_eq]
    rintro x ⟨_, hx⟩ y ⟨_, hy⟩; omega
  · simp only [hb, if_false]
    refine sorted_append (sorted_append hlo (fill_sorted a n hb) ?_ (by simp [Above])) hhi ?_ (by simp [Above])
    · simp only [List.mem_filter, decide_eq_true_eq, List.mem_map]
      rintro x ⟨_, hx⟩ y ⟨i, _, rfl⟩
      show x.1 < a + i
      omega
    · simp only [List.mem_append, List.mem_filter, decide_eq_true_eq, List.mem_map, List.mem_range]
      rintro x (⟨_, hx⟩ | ⟨i, hi, rfl⟩) y ⟨_, hy⟩
      · omega
      · show a + i < y.1
        omega

theorem memGet_memPut_sorted {o : Option Nat} {m : Mem} (a : Nat) (b : Byte) (x : Nat) (h : memSorted o m = true) :
    memGet (memPut m a b) x = if x = a then b else memGet m x := by
  induction m generalizing o with
  | nil =>
    by_cases hb : b = 0
    · simp [memPut, hb, memGet]
    · by_cases hx : a = x
      · rw [memPut, if_neg hb]; simp [memGet, hx]
      · rw [memPut, if_neg hb]; simp [memGet, hx, Ne.symm hx]
  | cons c r ih =>
    obtain ⟨k, v⟩ := c
    rw [memSorted_cons] at h
    simp only [memPut]
    by_cases h1 : a < k
    · have hka : ¬ k = a := by omega
      by_cases hb : b = 0
      · simp only [h1, hb, if_true]
        by_cases hx : x = a
        · subst hx; simp [memGet, hka, h1]
        · simp [hx]
      · simp only [h1, hb, if_true, if_false, memGet]
        by_cases hx : x = a
        · subst hx; simp
        · have : ¬ a = x := fun e => hx e.symm
          simp only [hx, this, if_false]
          by_cases hlt : x < a
          · have h3 : ¬ k = x := by omega
            have h4 : x < k := by omega
            simp [hlt, h3, h4]
          · simp [hlt]
    · by_cases h2 : k = a
      · subst h2
        simp only [Nat.lt_irrefl, if_false, if_true]
        by_cases hb : b = 0
        · simp only [hb, if_true, memGet]
          by_cases hx : x = k
          · subst hx; simp [memGet_below h.2.2 (Nat.le_refl _)]
          · have h3 : ¬ k = x := fun e => hx e.symm
            simp only [hx, h3, if_false]
            by_cases hlt : x < k
            · simp [hlt, memGet_below h.2.2 (Nat.le_of_lt hlt)]
            · simp [hlt]
        · simp only [hb, if_false, memGet]
          by_cases hx : x = k
          · subst hx; simp
          · have h3 : ¬ k = x := fun e => hx e.symm
            simp [hx, h3]
      · simp only [h1, h2, if_false, memGet]
        by_cases hx : k = x
        · have : ¬ x = a := by omega
          simp [hx, this]
        · simp only [hx, if_false]
          by_cases hlt : x < k
          · have : ¬ x = a := by omega
            simp [hlt, this]
          · simp only [hlt, if_false]; exact ih h.2.2

/-- A byte read after a store: the byte stored at its address, every other byte as before. -/
theorem memGet_memPut {m : Mem} (a : Nat) (b : Byte) (x : Nat) (h : memWf m = true) :
    memGet (memPut m a b) x = if x = a then b else memGet m x := memGet_memPut_sorted a b x h

/-- A byte read after bytes are stored: the byte of the list inside it, every other byte as before. -/
theorem memGet_memWrite {m : Mem} (a : Nat) (bs : List Byte) (x : Nat) (h : memWf m = true) :
    memGet (memWrite m a bs) x = if a ≤ x ∧ x < a + bs.length then bs.getD (x - a) 0 else memGet m x := by
  induction bs generalizing m a with
  | nil =>
    have : ¬ (a ≤ x ∧ x < a) := by omega
    simp [memWrite, this]
  | cons b r ih =>
    rw [memWrite, ih _ (memPut_wf a b h), memGet_memPut a b x h]
    simp only [List.length_cons]
    by_cases h1 : x = a
    · subst h1
      have e1 : ¬ (x + 1 ≤ x ∧ x < x + 1 + r.length) := by omega
      have e2 : x ≤ x ∧ x < x + (r.length + 1) := by omega
      rw [if_neg e1]; simp [e2]
    · by_cases h2 : a + 1 ≤ x ∧ x < a + 1 + r.length
      · have e2 : a ≤ x ∧ x < a + (r.length + 1) := by omega
        obtain ⟨d, hd⟩ : ∃ d, x - a = d + 1 := ⟨x - a - 1, by omega⟩
        have e3 : x - (a + 1) = d := by omega
        simp [h2, e2, hd, e3]
      · have e2 : ¬ (a ≤ x ∧ x < a + (r.length + 1)) := by omega
        simp only [if_neg h1, if_neg h2, if_neg e2]

/-- Reset lists no byte of any memory. -/
theorem reset_tile (p : PTile) : tile State.reset p = {} := by
  simp [tile, State.reset]

end Sys2Proof.Laws
end

