-- ==== Sys2Proof/Laws/Sha.lean ====
section
/-! SUPPORT. The constants of SHA-384 are the fractions of roots that its definition names. -/

namespace Sys2Proof.Laws

open Sys2Proof.Machine

/-- A number above 1 that no smaller one above 1 divides. -/
def isPrime (p : Nat) : Bool := 2 ≤ p && (List.range p).all fun q => q < 2 || p % q ≠ 0

/-- The primes below 410 in rising order: 80 of them. -/
def shaPrimes : List Nat := (List.range 410).filter isPrime

/-- x is the whole part of the k-th root of p with 64 bits of its fraction. -/
def isRoot (k p x : Nat) : Bool := x ^ k ≤ p * 2 ^ (64 * k) && p * 2 ^ (64 * k) < (x + 1) ^ k

/-- There are 80 such primes. -/
theorem shaPrimes_length : shaPrimes.length = 80 := by decide +kernel

/-- Every round constant is the fraction of the cube root of its prime. -/
theorem shaCubes_spec : (shaPrimes.zipIdx.all fun p => (List.range 8).any fun c => isRoot 3 p.1 (c * 2 ^ 64 + packedWord shaCubes p.2)) = true := by
  decide +kernel

/-- Every start word is the fraction of the square root of its prime. -/
theorem shaSquares_spec : (((shaPrimes.drop 8).take 8).zipIdx.all fun p => (List.range 8).any fun c => isRoot 2 p.1 (c * 2 ^ 64 + packedWord shaSquares p.2)) = true := by
  decide +kernel

end Sys2Proof.Laws
end

