-- ==== Sys2Proof/Laws/State.lean ====
section
/-! SUPPORT. The fields of a state after each named update: one lemma per field. -/

namespace Sys2Proof.Laws

open Sys2Proof Sys2Proof.Machine

/-- The tile that an update changes. -/
@[simp] theorem tile_modTile_self (s : State) (p : PTile) (f : Tile → Tile) : tile (modTile s p f) p = f (tile s p) := by
  simp [tile, modTile]

/-- Every other tile stays. -/
theorem tile_modTile_ne (s : State) {p q : PTile} (f : Tile → Tile) (h : q ≠ p) : tile (modTile s p f) q = tile s q := by
  have hv : p.val ≠ q.val := fun e => h (Fin.ext e.symm)
  simp [tile, modTile, Vector.getElem_set_ne, hv]

/-- A tile read through an update of one tile. -/
theorem tile_modTile (s : State) (p q : PTile) (f : Tile → Tile) : tile (modTile s p f) q = if q = p then f (tile s p) else tile s q := by
  by_cases h : q = p
  · subst h; simp
  · simp [h, tile_modTile_ne]

/-- Two updates of one tile are one. -/
@[simp] theorem modTile_modTile (s : State) (p : PTile) (f g : Tile → Tile) : modTile (modTile s p f) p g = modTile s p (g ∘ f) := by
  simp [modTile]

@[simp] theorem modTile_part (s : State) (p : PTile) (f : Tile → Tile) : (modTile s p f).part = s.part := rfl
@[simp] theorem modTile_cycle (s : State) (p : PTile) (f : Tile → Tile) : (modTile s p f).cycle = s.cycle := rfl
@[simp] theorem modTile_fresh (s : State) (p : PTile) (f : Tile → Tile) : (modTile s p f).fresh = s.fresh := rfl
@[simp] theorem modTile_pending (s : State) (p : PTile) (f : Tile → Tile) : (modTile s p f).pending = s.pending := rfl
@[simp] theorem modTile_meadow (s : State) (p : PTile) (f : Tile → Tile) : (modTile s p f).meadow = s.meadow := rfl
@[simp] theorem modTile_hbm (s : State) (p : PTile) (f : Tile → Tile) : (modTile s p f).hbm = s.hbm := rfl
@[simp] theorem modTile_beryl (s : State) (p : PTile) (f : Tile → Tile) : (modTile s p f).beryl = s.beryl := rfl
@[simp] theorem modTile_queues (s : State) (p : PTile) (f : Tile → Tile) : (modTile s p f).queues = s.queues := rfl
@[simp] theorem modTile_intake (s : State) (p : PTile) (f : Tile → Tile) : (modTile s p f).intake = s.intake := rfl
@[simp] theorem modTile_eth (s : State) (p : PTile) (f : Tile → Tile) : (modTile s p f).eth = s.eth := rfl
@[simp] theorem modTile_alaust (s : State) (p : PTile) (f : Tile → Tile) : (modTile s p f).alaust = s.alaust := rfl
@[simp] theorem modTile_ctrl (s : State) (p : PTile) (f : Tile → Tile) : (modTile s p f).ctrl = s.ctrl := rfl
@[simp] theorem modTile_keep (s : State) (p : PTile) (f : Tile → Tile) : (modTile s p f).keep = s.keep := rfl
@[simp] theorem modTile_fw (s : State) (p : PTile) (f : Tile → Tile) : (modTile s p f).fw = s.fw := rfl
@[simp] theorem modTile_saving (s : State) (p : PTile) (f : Tile → Tile) : (modTile s p f).saving = s.saving := rfl
@[simp] theorem modTile_power (s : State) (p : PTile) (f : Tile → Tile) : (modTile s p f).power = s.power := rfl
@[simp] theorem modTile_cfg (s : State) (p : PTile) (f : Tile → Tile) : (modTile s p f).cfg = s.cfg := rfl
@[simp] theorem modTile_ro (s : State) (p : PTile) (f : Tile → Tile) : (modTile s p f).ro = s.ro := rfl
@[simp] theorem modTile_tx (s : State) (p : PTile) (f : Tile → Tile) : (modTile s p f).tx = s.tx := rfl
@[simp] theorem cfgPut_part (s : State) (k : Nat) (b : List Byte) : (cfgPut s k b).part = s.part := by unfold cfgPut; split <;> rfl
@[simp] theorem cfgPut_cycle (s : State) (k : Nat) (b : List Byte) : (cfgPut s k b).cycle = s.cycle := by unfold cfgPut; split <;> rfl
@[simp] theorem cfgPut_fresh (s : State) (k : Nat) (b : List Byte) : (cfgPut s k b).fresh = s.fresh := by unfold cfgPut; split <;> rfl
@[simp] theorem cfgPut_pending (s : State) (k : Nat) (b : List Byte) : (cfgPut s k b).pending = s.pending := by unfold cfgPut; split <;> rfl
@[simp] theorem cfgPut_tiles (s : State) (k : Nat) (b : List Byte) : (cfgPut s k b).tiles = s.tiles := by unfold cfgPut; split <;> rfl
@[simp] theorem cfgPut_meadow (s : State) (k : Nat) (b : List Byte) : (cfgPut s k b).meadow = s.meadow := by unfold cfgPut; split <;> rfl
@[simp] theorem cfgPut_hbm (s : State) (k : Nat) (b : List Byte) : (cfgPut s k b).hbm = s.hbm := by unfold cfgPut; split <;> rfl
@[simp] theorem cfgPut_beryl (s : State) (k : Nat) (b : List Byte) : (cfgPut s k b).beryl = s.beryl := by unfold cfgPut; split <;> rfl
@[simp] theorem cfgPut_queues (s : State) (k : Nat) (b : List Byte) : (cfgPut s k b).queues = s.queues := by unfold cfgPut; split <;> rfl
@[simp] theorem cfgPut_intake (s : State) (k : Nat) (b : List Byte) : (cfgPut s k b).intake = s.intake := by unfold cfgPut; split <;> rfl
@[simp] theorem cfgPut_eth (s : State) (k : Nat) (b : List Byte) : (cfgPut s k b).eth = s.eth := by unfold cfgPut; split <;> rfl
@[simp] theorem cfgPut_alaust (s : State) (k : Nat) (b : List Byte) : (cfgPut s k b).alaust = s.alaust := by unfold cfgPut; split <;> rfl
@[simp] theorem cfgPut_ctrl (s : State) (k : Nat) (b : List Byte) : (cfgPut s k b).ctrl = s.ctrl := by unfold cfgPut; split <;> rfl
@[simp] theorem cfgPut_keep (s : State) (k : Nat) (b : List Byte) : (cfgPut s k b).keep = s.keep := by unfold cfgPut; split <;> rfl
@[simp] theorem cfgPut_fw (s : State) (k : Nat) (b : List Byte) : (cfgPut s k b).fw = s.fw := by unfold cfgPut; split <;> rfl
@[simp] theorem cfgPut_saving (s : State) (k : Nat) (b : List Byte) : (cfgPut s k b).saving = s.saving := by unfold cfgPut; split <;> rfl
@[simp] theorem cfgPut_power (s : State) (k : Nat) (b : List Byte) : (cfgPut s k b).power = s.power := by unfold cfgPut; split <;> rfl
@[simp] theorem cfgPut_ro (s : State) (k : Nat) (b : List Byte) : (cfgPut s k b).ro = s.ro := by unfold cfgPut; split <;> rfl
@[simp] theorem cfgPut_tx (s : State) (k : Nat) (b : List Byte) : (cfgPut s k b).tx = s.tx := by unfold cfgPut; split <;> rfl
@[simp] theorem cfgPut_tile (s : State) (k : Nat) (b : List Byte) (q : PTile) : tile (cfgPut s k b) q = tile s q := by simp [tile]
@[simp] theorem cfgPutNat_part (s : State) (k v : Nat) : (cfgPutNat s k v).part = s.part := cfgPut_part ..
@[simp] theorem cfgPutNat_cycle (s : State) (k v : Nat) : (cfgPutNat s k v).cycle = s.cycle := cfgPut_cycle ..
@[simp] theorem cfgPutNat_fresh (s : State) (k v : Nat) : (cfgPutNat s k v).fresh = s.fresh := cfgPut_fresh ..
@[simp] theorem cfgPutNat_pending (s : State) (k v : Nat) : (cfgPutNat s k v).pending = s.pending := cfgPut_pending ..
@[simp] theorem cfgPutNat_tiles (s : State) (k v : Nat) : (cfgPutNat s k v).tiles = s.tiles := cfgPut_tiles ..
@[simp] theorem cfgPutNat_meadow (s : State) (k v : Nat) : (cfgPutNat s k v).meadow = s.meadow := cfgPut_meadow ..
@[simp] theorem cfgPutNat_hbm (s : State) (k v : Nat) : (cfgPutNat s k v).hbm = s.hbm := cfgPut_hbm ..
@[simp] theorem cfgPutNat_beryl (s : State) (k v : Nat) : (cfgPutNat s k v).beryl = s.beryl := cfgPut_beryl ..
@[simp] theorem cfgPutNat_queues (s : State) (k v : Nat) : (cfgPutNat s k v).queues = s.queues := cfgPut_queues ..
@[simp] theorem cfgPutNat_intake (s : State) (k v : Nat) : (cfgPutNat s k v).intake = s.intake := cfgPut_intake ..
@[simp] theorem cfgPutNat_eth (s : State) (k v : Nat) : (cfgPutNat s k v).eth = s.eth := cfgPut_eth ..
@[simp] theorem cfgPutNat_alaust (s : State) (k v : Nat) : (cfgPutNat s k v).alaust = s.alaust := cfgPut_alaust ..
@[simp] theorem cfgPutNat_ctrl (s : State) (k v : Nat) : (cfgPutNat s k v).ctrl = s.ctrl := cfgPut_ctrl ..
@[simp] theorem cfgPutNat_keep (s : State) (k v : Nat) : (cfgPutNat s k v).keep = s.keep := cfgPut_keep ..
@[simp] theorem cfgPutNat_fw (s : State) (k v : Nat) : (cfgPutNat s k v).fw = s.fw := cfgPut_fw ..
@[simp] theorem cfgPutNat_saving (s : State) (k v : Nat) : (cfgPutNat s k v).saving = s.saving := cfgPut_saving ..
@[simp] theorem cfgPutNat_power (s : State) (k v : Nat) : (cfgPutNat s k v).power = s.power := cfgPut_power ..
@[simp] theorem cfgPutNat_ro (s : State) (k v : Nat) : (cfgPutNat s k v).ro = s.ro := cfgPut_ro ..
@[simp] theorem cfgPutNat_tx (s : State) (k v : Nat) : (cfgPutNat s k v).tx = s.tx := cfgPut_tx ..
@[simp] theorem cfgPutNat_tile (s : State) (k v : Nat) (q : PTile) : tile (cfgPutNat s k v) q = tile s q := by simp [tile]
@[simp] theorem roPut_part (s : State) (k v : Nat) : (roPut s k v).part = s.part := by unfold roPut; dsimp only; split <;> rfl
@[simp] theorem roPut_cycle (s : State) (k v : Nat) : (roPut s k v).cycle = s.cycle := by unfold roPut; dsimp only; split <;> rfl
@[simp] theorem roPut_fresh (s : State) (k v : Nat) : (roPut s k v).fresh = s.fresh := by unfold roPut; dsimp only; split <;> rfl
@[simp] theorem roPut_pending (s : State) (k v : Nat) : (roPut s k v).pending = s.pending := by unfold roPut; dsimp only; split <;> rfl
@[simp] theorem roPut_tiles (s : State) (k v : Nat) : (roPut s k v).tiles = s.tiles := by unfold roPut; dsimp only; split <;> rfl
@[simp] theorem roPut_meadow (s : State) (k v : Nat) : (roPut s k v).meadow = s.meadow := by unfold roPut; dsimp only; split <;> rfl
@[simp] theorem roPut_hbm (s : State) (k v : Nat) : (roPut s k v).hbm = s.hbm := by unfold roPut; dsimp only; split <;> rfl
@[simp] theorem roPut_beryl (s : State) (k v : Nat) : (roPut s k v).beryl = s.beryl := by unfold roPut; dsimp only; split <;> rfl
@[simp] theorem roPut_queues (s : State) (k v : Nat) : (roPut s k v).queues = s.queues := by unfold roPut; dsimp only; split <;> rfl
@[simp] theorem roPut_intake (s : State) (k v : Nat) : (roPut s k v).intake = s.intake := by unfold roPut; dsimp only; split <;> rfl
@[simp] theorem roPut_eth (s : State) (k v : Nat) : (roPut s k v).eth = s.eth := by unfold roPut; dsimp only; split <;> rfl
@[simp] theorem roPut_alaust (s : State) (k v : Nat) : (roPut s k v).alaust = s.alaust := by unfold roPut; dsimp only; split <;> rfl
@[simp] theorem roPut_ctrl (s : State) (k v : Nat) : (roPut s k v).ctrl = s.ctrl := by unfold roPut; dsimp only; split <;> rfl
@[simp] theorem roPut_keep (s : State) (k v : Nat) : (roPut s k v).keep = s.keep := by unfold roPut; dsimp only; split <;> rfl
@[simp] theorem roPut_fw (s : State) (k v : Nat) : (roPut s k v).fw = s.fw := by unfold roPut; dsimp only; split <;> rfl
@[simp] theorem roPut_saving (s : State) (k v : Nat) : (roPut s k v).saving = s.saving := by unfold roPut; dsimp only; split <;> rfl
@[simp] theorem roPut_power (s : State) (k v : Nat) : (roPut s k v).power = s.power := by unfold roPut; dsimp only; split <;> rfl
@[simp] theorem roPut_cfg (s : State) (k v : Nat) : (roPut s k v).cfg = s.cfg := by unfold roPut; dsimp only; split <;> rfl
@[simp] theorem roPut_tx (s : State) (k v : Nat) : (roPut s k v).tx = s.tx := by unfold roPut; dsimp only; split <;> rfl
@[simp] theorem roPut_tile (s : State) (k v : Nat) (q : PTile) : tile (roPut s k v) q = tile s q := by simp [tile]
@[simp] theorem roAdd_part (s : State) (k n : Nat) : (roAdd s k n).part = s.part := roPut_part ..
@[simp] theorem roAdd_cycle (s : State) (k n : Nat) : (roAdd s k n).cycle = s.cycle := roPut_cycle ..
@[simp] theorem roAdd_fresh (s : State) (k n : Nat) : (roAdd s k n).fresh = s.fresh := roPut_fresh ..
@[simp] theorem roAdd_pending (s : State) (k n : Nat) : (roAdd s k n).pending = s.pending := roPut_pending ..
@[simp] theorem roAdd_tiles (s : State) (k n : Nat) : (roAdd s k n).tiles = s.tiles := roPut_tiles ..
@[simp] theorem roAdd_meadow (s : State) (k n : Nat) : (roAdd s k n).meadow = s.meadow := roPut_meadow ..
@[simp] theorem roAdd_hbm (s : State) (k n : Nat) : (roAdd s k n).hbm = s.hbm := roPut_hbm ..
@[simp] theorem roAdd_beryl (s : State) (k n : Nat) : (roAdd s k n).beryl = s.beryl := roPut_beryl ..
@[simp] theorem roAdd_queues (s : State) (k n : Nat) : (roAdd s k n).queues = s.queues := roPut_queues ..
@[simp] theorem roAdd_intake (s : State) (k n : Nat) : (roAdd s k n).intake = s.intake := roPut_intake ..
@[simp] theorem roAdd_eth (s : State) (k n : Nat) : (roAdd s k n).eth = s.eth := roPut_eth ..
@[simp] theorem roAdd_alaust (s : State) (k n : Nat) : (roAdd s k n).alaust = s.alaust := roPut_alaust ..
@[simp] theorem roAdd_ctrl (s : State) (k n : Nat) : (roAdd s k n).ctrl = s.ctrl := roPut_ctrl ..
@[simp] theorem roAdd_keep (s : State) (k n : Nat) : (roAdd s k n).keep = s.keep := roPut_keep ..
@[simp] theorem roAdd_fw (s : State) (k n : Nat) : (roAdd s k n).fw = s.fw := roPut_fw ..
@[simp] theorem roAdd_saving (s : State) (k n : Nat) : (roAdd s k n).saving = s.saving := roPut_saving ..
@[simp] theorem roAdd_power (s : State) (k n : Nat) : (roAdd s k n).power = s.power := roPut_power ..
@[simp] theorem roAdd_cfg (s : State) (k n : Nat) : (roAdd s k n).cfg = s.cfg := roPut_cfg ..
@[simp] theorem roAdd_tx (s : State) (k n : Nat) : (roAdd s k n).tx = s.tx := roPut_tx ..
@[simp] theorem roAdd_tile (s : State) (k n : Nat) (q : PTile) : tile (roAdd s k n) q = tile s q := by simp [tile]
@[simp] theorem roMax_part (s : State) (k v : Nat) : (roMax s k v).part = s.part := by unfold roMax; split <;> simp
@[simp] theorem roMax_cycle (s : State) (k v : Nat) : (roMax s k v).cycle = s.cycle := by unfold roMax; split <;> simp
@[simp] theorem roMax_fresh (s : State) (k v : Nat) : (roMax s k v).fresh = s.fresh := by unfold roMax; split <;> simp
@[simp] theorem roMax_pending (s : State) (k v : Nat) : (roMax s k v).pending = s.pending := by unfold roMax; split <;> simp
@[simp] theorem roMax_tiles (s : State) (k v : Nat) : (roMax s k v).tiles = s.tiles := by unfold roMax; split <;> simp
@[simp] theorem roMax_meadow (s : State) (k v : Nat) : (roMax s k v).meadow = s.meadow := by unfold roMax; split <;> simp
@[simp] theorem roMax_hbm (s : State) (k v : Nat) : (roMax s k v).hbm = s.hbm := by unfold roMax; split <;> simp
@[simp] theorem roMax_beryl (s : State) (k v : Nat) : (roMax s k v).beryl = s.beryl := by unfold roMax; split <;> simp
@[simp] theorem roMax_queues (s : State) (k v : Nat) : (roMax s k v).queues = s.queues := by unfold roMax; split <;> simp
@[simp] theorem roMax_intake (s : State) (k v : Nat) : (roMax s k v).intake = s.intake := by unfold roMax; split <;> simp
@[simp] theorem roMax_eth (s : State) (k v : Nat) : (roMax s k v).eth = s.eth := by unfold roMax; split <;> simp
@[simp] theorem roMax_alaust (s : State) (k v : Nat) : (roMax s k v).alaust = s.alaust := by unfold roMax; split <;> simp
@[simp] theorem roMax_ctrl (s : State) (k v : Nat) : (roMax s k v).ctrl = s.ctrl := by unfold roMax; split <;> simp
@[simp] theorem roMax_keep (s : State) (k v : Nat) : (roMax s k v).keep = s.keep := by unfold roMax; split <;> simp
@[simp] theorem roMax_fw (s : State) (k v : Nat) : (roMax s k v).fw = s.fw := by unfold roMax; split <;> simp
@[simp] theorem roMax_saving (s : State) (k v : Nat) : (roMax s k v).saving = s.saving := by unfold roMax; split <;> simp
@[simp] theorem roMax_power (s : State) (k v : Nat) : (roMax s k v).power = s.power := by unfold roMax; split <;> simp
@[simp] theorem roMax_cfg (s : State) (k v : Nat) : (roMax s k v).cfg = s.cfg := by unfold roMax; split <;> simp
@[simp] theorem roMax_tx (s : State) (k v : Nat) : (roMax s k v).tx = s.tx := by unfold roMax; split <;> simp
@[simp] theorem roMax_tile (s : State) (k v : Nat) (q : PTile) : tile (roMax s k v) q = tile s q := by simp [tile]
@[simp] theorem roMin_part (s : State) (k v : Nat) : (roMin s k v).part = s.part := by unfold roMin; split <;> simp
@[simp] theorem roMin_cycle (s : State) (k v : Nat) : (roMin s k v).cycle = s.cycle := by unfold roMin; split <;> simp
@[simp] theorem roMin_fresh (s : State) (k v : Nat) : (roMin s k v).fresh = s.fresh := by unfold roMin; split <;> simp
@[simp] theorem roMin_pending (s : State) (k v : Nat) : (roMin s k v).pending = s.pending := by unfold roMin; split <;> simp
@[simp] theorem roMin_tiles (s : State) (k v : Nat) : (roMin s k v).tiles = s.tiles := by unfold roMin; split <;> simp
@[simp] theorem roMin_meadow (s : State) (k v : Nat) : (roMin s k v).meadow = s.meadow := by unfold roMin; split <;> simp
@[simp] theorem roMin_hbm (s : State) (k v : Nat) : (roMin s k v).hbm = s.hbm := by unfold roMin; split <;> simp
@[simp] theorem roMin_beryl (s : State) (k v : Nat) : (roMin s k v).beryl = s.beryl := by unfold roMin; split <;> simp
@[simp] theorem roMin_queues (s : State) (k v : Nat) : (roMin s k v).queues = s.queues := by unfold roMin; split <;> simp
@[simp] theorem roMin_intake (s : State) (k v : Nat) : (roMin s k v).intake = s.intake := by unfold roMin; split <;> simp
@[simp] theorem roMin_eth (s : State) (k v : Nat) : (roMin s k v).eth = s.eth := by unfold roMin; split <;> simp
@[simp] theorem roMin_alaust (s : State) (k v : Nat) : (roMin s k v).alaust = s.alaust := by unfold roMin; split <;> simp
@[simp] theorem roMin_ctrl (s : State) (k v : Nat) : (roMin s k v).ctrl = s.ctrl := by unfold roMin; split <;> simp
@[simp] theorem roMin_keep (s : State) (k v : Nat) : (roMin s k v).keep = s.keep := by unfold roMin; split <;> simp
@[simp] theorem roMin_fw (s : State) (k v : Nat) : (roMin s k v).fw = s.fw := by unfold roMin; split <;> simp
@[simp] theorem roMin_saving (s : State) (k v : Nat) : (roMin s k v).saving = s.saving := by unfold roMin; split <;> simp
@[simp] theorem roMin_power (s : State) (k v : Nat) : (roMin s k v).power = s.power := by unfold roMin; split <;> simp
@[simp] theorem roMin_cfg (s : State) (k v : Nat) : (roMin s k v).cfg = s.cfg := by unfold roMin; split <;> simp
@[simp] theorem roMin_tx (s : State) (k v : Nat) : (roMin s k v).tx = s.tx := by unfold roMin; split <;> simp
@[simp] theorem roMin_tile (s : State) (k v : Nat) (q : PTile) : tile (roMin s k v) q = tile s q := by simp [tile]
@[simp] theorem lastCode_part (s : State) (c : Nat) : (lastCode s c).part = s.part := roPut_part ..
@[simp] theorem lastCode_cycle (s : State) (c : Nat) : (lastCode s c).cycle = s.cycle := roPut_cycle ..
@[simp] theorem lastCode_fresh (s : State) (c : Nat) : (lastCode s c).fresh = s.fresh := roPut_fresh ..
@[simp] theorem lastCode_pending (s : State) (c : Nat) : (lastCode s c).pending = s.pending := roPut_pending ..
@[simp] theorem lastCode_tiles (s : State) (c : Nat) : (lastCode s c).tiles = s.tiles := roPut_tiles ..
@[simp] theorem lastCode_meadow (s : State) (c : Nat) : (lastCode s c).meadow = s.meadow := roPut_meadow ..
@[simp] theorem lastCode_hbm (s : State) (c : Nat) : (lastCode s c).hbm = s.hbm := roPut_hbm ..
@[simp] theorem lastCode_beryl (s : State) (c : Nat) : (lastCode s c).beryl = s.beryl := roPut_beryl ..
@[simp] theorem lastCode_queues (s : State) (c : Nat) : (lastCode s c).queues = s.queues := roPut_queues ..
@[simp] theorem lastCode_intake (s : State) (c : Nat) : (lastCode s c).intake = s.intake := roPut_intake ..
@[simp] theorem lastCode_eth (s : State) (c : Nat) : (lastCode s c).eth = s.eth := roPut_eth ..
@[simp] theorem lastCode_alaust (s : State) (c : Nat) : (lastCode s c).alaust = s.alaust := roPut_alaust ..
@[simp] theorem lastCode_ctrl (s : State) (c : Nat) : (lastCode s c).ctrl = s.ctrl := roPut_ctrl ..
@[simp] theorem lastCode_keep (s : State) (c : Nat) : (lastCode s c).keep = s.keep := roPut_keep ..
@[simp] theorem lastCode_fw (s : State) (c : Nat) : (lastCode s c).fw = s.fw := roPut_fw ..
@[simp] theorem lastCode_saving (s : State) (c : Nat) : (lastCode s c).saving = s.saving := roPut_saving ..
@[simp] theorem lastCode_power (s : State) (c : Nat) : (lastCode s c).power = s.power := roPut_power ..
@[simp] theorem lastCode_cfg (s : State) (c : Nat) : (lastCode s c).cfg = s.cfg := roPut_cfg ..
@[simp] theorem lastCode_tx (s : State) (c : Nat) : (lastCode s c).tx = s.tx := roPut_tx ..
@[simp] theorem lastCode_tile (s : State) (c : Nat) (q : PTile) : tile (lastCode s c) q = tile s q := by simp [tile]
@[simp] theorem notify_part (s : State) (c k n : Nat) (d : List Byte) : (notify s c k n d).part = s.part := rfl
@[simp] theorem notify_cycle (s : State) (c k n : Nat) (d : List Byte) : (notify s c k n d).cycle = s.cycle := rfl
@[simp] theorem notify_fresh (s : State) (c k n : Nat) (d : List Byte) : (notify s c k n d).fresh = s.fresh := rfl
@[simp] theorem notify_pending (s : State) (c k n : Nat) (d : List Byte) : (notify s c k n d).pending = s.pending := rfl
@[simp] theorem notify_tiles (s : State) (c k n : Nat) (d : List Byte) : (notify s c k n d).tiles = s.tiles := rfl
@[simp] theorem notify_meadow (s : State) (c k n : Nat) (d : List Byte) : (notify s c k n d).meadow = s.meadow := rfl
@[simp] theorem notify_hbm (s : State) (c k n : Nat) (d : List Byte) : (notify s c k n d).hbm = s.hbm := rfl
@[simp] theorem notify_beryl (s : State) (c k n : Nat) (d : List Byte) : (notify s c k n d).beryl = s.beryl := rfl
@[simp] theorem notify_queues (s : State) (c k n : Nat) (d : List Byte) : (notify s c k n d).queues = s.queues := rfl
@[simp] theorem notify_intake (s : State) (c k n : Nat) (d : List Byte) : (notify s c k n d).intake = s.intake := rfl
@[simp] theorem notify_eth (s : State) (c k n : Nat) (d : List Byte) : (notify s c k n d).eth = s.eth := rfl
@[simp] theorem notify_ctrl (s : State) (c k n : Nat) (d : List Byte) : (notify s c k n d).ctrl = s.ctrl := rfl
@[simp] theorem notify_keep (s : State) (c k n : Nat) (d : List Byte) : (notify s c k n d).keep = s.keep := rfl
@[simp] theorem notify_fw (s : State) (c k n : Nat) (d : List Byte) : (notify s c k n d).fw = s.fw := rfl
@[simp] theorem notify_saving (s : State) (c k n : Nat) (d : List Byte) : (notify s c k n d).saving = s.saving := rfl
@[simp] theorem notify_power (s : State) (c k n : Nat) (d : List Byte) : (notify s c k n d).power = s.power := rfl
@[simp] theorem notify_cfg (s : State) (c k n : Nat) (d : List Byte) : (notify s c k n d).cfg = s.cfg := rfl
@[simp] theorem notify_ro (s : State) (c k n : Nat) (d : List Byte) : (notify s c k n d).ro = s.ro := rfl
@[simp] theorem notify_tx (s : State) (c k n : Nat) (d : List Byte) : (notify s c k n d).tx = s.tx := rfl
@[simp] theorem notify_tile (s : State) (c k n : Nat) (d : List Byte) (q : PTile) : tile (notify s c k n d) q = tile s q := by simp [tile]
@[simp] theorem degrade_part (s : State) (c : Nat) : (degrade s c).part = s.part := rfl
@[simp] theorem degrade_cycle (s : State) (c : Nat) : (degrade s c).cycle = s.cycle := rfl
@[simp] theorem degrade_fresh (s : State) (c : Nat) : (degrade s c).fresh = s.fresh := rfl
@[simp] theorem degrade_pending (s : State) (c : Nat) : (degrade s c).pending = s.pending := rfl
@[simp] theorem degrade_tiles (s : State) (c : Nat) : (degrade s c).tiles = s.tiles := rfl
@[simp] theorem degrade_meadow (s : State) (c : Nat) : (degrade s c).meadow = s.meadow := rfl
@[simp] theorem degrade_hbm (s : State) (c : Nat) : (degrade s c).hbm = s.hbm := rfl
@[simp] theorem degrade_beryl (s : State) (c : Nat) : (degrade s c).beryl = s.beryl := rfl
@[simp] theorem degrade_queues (s : State) (c : Nat) : (degrade s c).queues = s.queues := rfl
@[simp] theorem degrade_intake (s : State) (c : Nat) : (degrade s c).intake = s.intake := rfl
@[simp] theorem degrade_eth (s : State) (c : Nat) : (degrade s c).eth = s.eth := rfl
@[simp] theorem degrade_alaust (s : State) (c : Nat) : (degrade s c).alaust = s.alaust := rfl
@[simp] theorem degrade_keep (s : State) (c : Nat) : (degrade s c).keep = s.keep := rfl
@[simp] theorem degrade_fw (s : State) (c : Nat) : (degrade s c).fw = s.fw := rfl
@[simp] theorem degrade_saving (s : State) (c : Nat) : (degrade s c).saving = s.saving := rfl
@[simp] theorem degrade_power (s : State) (c : Nat) : (degrade s c).power = s.power := rfl
@[simp] theorem degrade_cfg (s : State) (c : Nat) : (degrade s c).cfg = s.cfg := rfl
@[simp] theorem degrade_ro (s : State) (c : Nat) : (degrade s c).ro = s.ro := rfl
@[simp] theorem degrade_tx (s : State) (c : Nat) : (degrade s c).tx = s.tx := rfl
@[simp] theorem degrade_tile (s : State) (c : Nat) (q : PTile) : tile (degrade s c) q = tile s q := by simp [tile]
@[simp] theorem danger_part (s : State) (c : Nat) (b : Bool) : (danger s c b).part = s.part := rfl
@[simp] theorem danger_cycle (s : State) (c : Nat) (b : Bool) : (danger s c b).cycle = s.cycle := rfl
@[simp] theorem danger_fresh (s : State) (c : Nat) (b : Bool) : (danger s c b).fresh = s.fresh := rfl
@[simp] theorem danger_pending (s : State) (c : Nat) (b : Bool) : (danger s c b).pending = s.pending := rfl
@[simp] theorem danger_tiles (s : State) (c : Nat) (b : Bool) : (danger s c b).tiles = s.tiles := rfl
@[simp] theorem danger_meadow (s : State) (c : Nat) (b : Bool) : (danger s c b).meadow = s.meadow := rfl
@[simp] theorem danger_hbm (s : State) (c : Nat) (b : Bool) : (danger s c b).hbm = s.hbm := rfl
@[simp] theorem danger_beryl (s : State) (c : Nat) (b : Bool) : (danger s c b).beryl = s.beryl := rfl
@[simp] theorem danger_queues (s : State) (c : Nat) (b : Bool) : (danger s c b).queues = s.queues := rfl
@[simp] theorem danger_intake (s : State) (c : Nat) (b : Bool) : (danger s c b).intake = s.intake := rfl
@[simp] theorem danger_eth (s : State) (c : Nat) (b : Bool) : (danger s c b).eth = s.eth := rfl
@[simp] theorem danger_alaust (s : State) (c : Nat) (b : Bool) : (danger s c b).alaust = s.alaust := rfl
@[simp] theorem danger_keep (s : State) (c : Nat) (b : Bool) : (danger s c b).keep = s.keep := rfl
@[simp] theorem danger_fw (s : State) (c : Nat) (b : Bool) : (danger s c b).fw = s.fw := rfl
@[simp] theorem danger_saving (s : State) (c : Nat) (b : Bool) : (danger s c b).saving = s.saving := rfl
@[simp] theorem danger_power (s : State) (c : Nat) (b : Bool) : (danger s c b).power = s.power := rfl
@[simp] theorem danger_cfg (s : State) (c : Nat) (b : Bool) : (danger s c b).cfg = s.cfg := rfl
@[simp] theorem danger_ro (s : State) (c : Nat) (b : Bool) : (danger s c b).ro = s.ro := rfl
@[simp] theorem danger_tx (s : State) (c : Nat) (b : Bool) : (danger s c b).tx = s.tx := rfl
@[simp] theorem danger_tile (s : State) (c : Nat) (b : Bool) (q : PTile) : tile (danger s c b) q = tile s q := by simp [tile]
@[simp] theorem drawFree_part (s : State) : ((drawFree s).2).part = s.part := rfl
@[simp] theorem drawFree_cycle (s : State) : ((drawFree s).2).cycle = s.cycle := rfl
@[simp] theorem drawFree_pending (s : State) : ((drawFree s).2).pending = s.pending := rfl
@[simp] theorem drawFree_tiles (s : State) : ((drawFree s).2).tiles = s.tiles := rfl
@[simp] theorem drawFree_meadow (s : State) : ((drawFree s).2).meadow = s.meadow := rfl
@[simp] theorem drawFree_hbm (s : State) : ((drawFree s).2).hbm = s.hbm := rfl
@[simp] theorem drawFree_beryl (s : State) : ((drawFree s).2).beryl = s.beryl := rfl
@[simp] theorem drawFree_queues (s : State) : ((drawFree s).2).queues = s.queues := rfl
@[simp] theorem drawFree_intake (s : State) : ((drawFree s).2).intake = s.intake := rfl
@[simp] theorem drawFree_eth (s : State) : ((drawFree s).2).eth = s.eth := rfl
@[simp] theorem drawFree_alaust (s : State) : ((drawFree s).2).alaust = s.alaust := rfl
@[simp] theorem drawFree_ctrl (s : State) : ((drawFree s).2).ctrl = s.ctrl := rfl
@[simp] theorem drawFree_keep (s : State) : ((drawFree s).2).keep = s.keep := rfl
@[simp] theorem drawFree_fw (s : State) : ((drawFree s).2).fw = s.fw := rfl
@[simp] theorem drawFree_saving (s : State) : ((drawFree s).2).saving = s.saving := rfl
@[simp] theorem drawFree_power (s : State) : ((drawFree s).2).power = s.power := rfl
@[simp] theorem drawFree_cfg (s : State) : ((drawFree s).2).cfg = s.cfg := rfl
@[simp] theorem drawFree_ro (s : State) : ((drawFree s).2).ro = s.ro := rfl
@[simp] theorem drawFree_tx (s : State) : ((drawFree s).2).tx = s.tx := rfl
@[simp] theorem drawFree_tile (s : State) (q : PTile) : tile ((drawFree s).2) q = tile s q := by simp [tile]
@[simp] theorem sendG_part (s : State) (p : PTile) (l : Nat) (d : Fin 64) (v : Word) : (sendG s p l d v).part = s.part := rfl
@[simp] theorem sendG_cycle (s : State) (p : PTile) (l : Nat) (d : Fin 64) (v : Word) : (sendG s p l d v).cycle = s.cycle := rfl
@[simp] theorem sendG_fresh (s : State) (p : PTile) (l : Nat) (d : Fin 64) (v : Word) : (sendG s p l d v).fresh = s.fresh := rfl
@[simp] theorem sendG_pending (s : State) (p : PTile) (l : Nat) (d : Fin 64) (v : Word) : (sendG s p l d v).pending = s.pending := rfl
@[simp] theorem sendG_meadow (s : State) (p : PTile) (l : Nat) (d : Fin 64) (v : Word) : (sendG s p l d v).meadow = s.meadow := rfl
@[simp] theorem sendG_hbm (s : State) (p : PTile) (l : Nat) (d : Fin 64) (v : Word) : (sendG s p l d v).hbm = s.hbm := rfl
@[simp] theorem sendG_beryl (s : State) (p : PTile) (l : Nat) (d : Fin 64) (v : Word) : (sendG s p l d v).beryl = s.beryl := rfl
@[simp] theorem sendG_queues (s : State) (p : PTile) (l : Nat) (d : Fin 64) (v : Word) : (sendG s p l d v).queues = s.queues := rfl
@[simp] theorem sendG_intake (s : State) (p : PTile) (l : Nat) (d : Fin 64) (v : Word) : (sendG s p l d v).intake = s.intake := rfl
@[simp] theorem sendG_eth (s : State) (p : PTile) (l : Nat) (d : Fin 64) (v : Word) : (sendG s p l d v).eth = s.eth := rfl
@[simp] theorem sendG_alaust (s : State) (p : PTile) (l : Nat) (d : Fin 64) (v : Word) : (sendG s p l d v).alaust = s.alaust := rfl
@[simp] theorem sendG_ctrl (s : State) (p : PTile) (l : Nat) (d : Fin 64) (v : Word) : (sendG s p l d v).ctrl = s.ctrl := rfl
@[simp] theorem sendG_keep (s : State) (p : PTile) (l : Nat) (d : Fin 64) (v : Word) : (sendG s p l d v).keep = s.keep := rfl
@[simp] theorem sendG_fw (s : State) (p : PTile) (l : Nat) (d : Fin 64) (v : Word) : (sendG s p l d v).fw = s.fw := rfl
@[simp] theorem sendG_saving (s : State) (p : PTile) (l : Nat) (d : Fin 64) (v : Word) : (sendG s p l d v).saving = s.saving := rfl
@[simp] theorem sendG_power (s : State) (p : PTile) (l : Nat) (d : Fin 64) (v : Word) : (sendG s p l d v).power = s.power := rfl
@[simp] theorem sendG_cfg (s : State) (p : PTile) (l : Nat) (d : Fin 64) (v : Word) : (sendG s p l d v).cfg = s.cfg := rfl
@[simp] theorem sendG_ro (s : State) (p : PTile) (l : Nat) (d : Fin 64) (v : Word) : (sendG s p l d v).ro = s.ro := rfl
@[simp] theorem sendG_tx (s : State) (p : PTile) (l : Nat) (d : Fin 64) (v : Word) : (sendG s p l d v).tx = s.tx := rfl

end Sys2Proof.Laws
end

