-- ==== Sys2Proof/Laws/Units.lean ====
section
/-! SUPPORT. The fields of a state after the named updates of one unit: one lemma per field that stays. -/

namespace Sys2Proof.Laws

open Sys2Proof Sys2Proof.Machine

@[simp] theorem modPort_part (s : State) (e : Fin 2) (f : Port → Port) : (modPort s e f).part = s.part := rfl
@[simp] theorem modPort_cycle (s : State) (e : Fin 2) (f : Port → Port) : (modPort s e f).cycle = s.cycle := rfl
@[simp] theorem modPort_fresh (s : State) (e : Fin 2) (f : Port → Port) : (modPort s e f).fresh = s.fresh := rfl
@[simp] theorem modPort_pending (s : State) (e : Fin 2) (f : Port → Port) : (modPort s e f).pending = s.pending := rfl
@[simp] theorem modPort_tiles (s : State) (e : Fin 2) (f : Port → Port) : (modPort s e f).tiles = s.tiles := rfl
@[simp] theorem modPort_meadow (s : State) (e : Fin 2) (f : Port → Port) : (modPort s e f).meadow = s.meadow := rfl
@[simp] theorem modPort_hbm (s : State) (e : Fin 2) (f : Port → Port) : (modPort s e f).hbm = s.hbm := rfl
@[simp] theorem modPort_beryl (s : State) (e : Fin 2) (f : Port → Port) : (modPort s e f).beryl = s.beryl := rfl
@[simp] theorem modPort_queues (s : State) (e : Fin 2) (f : Port → Port) : (modPort s e f).queues = s.queues := rfl
@[simp] theorem modPort_intake (s : State) (e : Fin 2) (f : Port → Port) : (modPort s e f).intake = s.intake := rfl
@[simp] theorem modPort_alaust (s : State) (e : Fin 2) (f : Port → Port) : (modPort s e f).alaust = s.alaust := rfl
@[simp] theorem modPort_ctrl (s : State) (e : Fin 2) (f : Port → Port) : (modPort s e f).ctrl = s.ctrl := rfl
@[simp] theorem modPort_keep (s : State) (e : Fin 2) (f : Port → Port) : (modPort s e f).keep = s.keep := rfl
@[simp] theorem modPort_fw (s : State) (e : Fin 2) (f : Port → Port) : (modPort s e f).fw = s.fw := rfl
@[simp] theorem modPort_saving (s : State) (e : Fin 2) (f : Port → Port) : (modPort s e f).saving = s.saving := rfl
@[simp] theorem modPort_power (s : State) (e : Fin 2) (f : Port → Port) : (modPort s e f).power = s.power := rfl
@[simp] theorem modPort_cfg (s : State) (e : Fin 2) (f : Port → Port) : (modPort s e f).cfg = s.cfg := rfl
@[simp] theorem modPort_ro (s : State) (e : Fin 2) (f : Port → Port) : (modPort s e f).ro = s.ro := rfl
@[simp] theorem modPort_tx (s : State) (e : Fin 2) (f : Port → Port) : (modPort s e f).tx = s.tx := rfl
@[simp] theorem modPort_tile (s : State) (e : Fin 2) (f : Port → Port) (q : PTile) : tile (modPort s e f) q = tile s q := rfl
@[simp] theorem modBport_part (s : State) (n : Fin 4) (f : BPort → BPort) : (modBport s n f).part = s.part := rfl
@[simp] theorem modBport_cycle (s : State) (n : Fin 4) (f : BPort → BPort) : (modBport s n f).cycle = s.cycle := rfl
@[simp] theorem modBport_fresh (s : State) (n : Fin 4) (f : BPort → BPort) : (modBport s n f).fresh = s.fresh := rfl
@[simp] theorem modBport_pending (s : State) (n : Fin 4) (f : BPort → BPort) : (modBport s n f).pending = s.pending := rfl
@[simp] theorem modBport_tiles (s : State) (n : Fin 4) (f : BPort → BPort) : (modBport s n f).tiles = s.tiles := rfl
@[simp] theorem modBport_meadow (s : State) (n : Fin 4) (f : BPort → BPort) : (modBport s n f).meadow = s.meadow := rfl
@[simp] theorem modBport_hbm (s : State) (n : Fin 4) (f : BPort → BPort) : (modBport s n f).hbm = s.hbm := rfl
@[simp] theorem modBport_queues (s : State) (n : Fin 4) (f : BPort → BPort) : (modBport s n f).queues = s.queues := rfl
@[simp] theorem modBport_intake (s : State) (n : Fin 4) (f : BPort → BPort) : (modBport s n f).intake = s.intake := rfl
@[simp] theorem modBport_eth (s : State) (n : Fin 4) (f : BPort → BPort) : (modBport s n f).eth = s.eth := rfl
@[simp] theorem modBport_alaust (s : State) (n : Fin 4) (f : BPort → BPort) : (modBport s n f).alaust = s.alaust := rfl
@[simp] theorem modBport_ctrl (s : State) (n : Fin 4) (f : BPort → BPort) : (modBport s n f).ctrl = s.ctrl := rfl
@[simp] theorem modBport_keep (s : State) (n : Fin 4) (f : BPort → BPort) : (modBport s n f).keep = s.keep := rfl
@[simp] theorem modBport_fw (s : State) (n : Fin 4) (f : BPort → BPort) : (modBport s n f).fw = s.fw := rfl
@[simp] theorem modBport_saving (s : State) (n : Fin 4) (f : BPort → BPort) : (modBport s n f).saving = s.saving := rfl
@[simp] theorem modBport_power (s : State) (n : Fin 4) (f : BPort → BPort) : (modBport s n f).power = s.power := rfl
@[simp] theorem modBport_cfg (s : State) (n : Fin 4) (f : BPort → BPort) : (modBport s n f).cfg = s.cfg := rfl
@[simp] theorem modBport_ro (s : State) (n : Fin 4) (f : BPort → BPort) : (modBport s n f).ro = s.ro := rfl
@[simp] theorem modBport_tx (s : State) (n : Fin 4) (f : BPort → BPort) : (modBport s n f).tx = s.tx := rfl
@[simp] theorem modBport_tile (s : State) (n : Fin 4) (f : BPort → BPort) (q : PTile) : tile (modBport s n f) q = tile s q := rfl
@[simp] theorem modWin_part (s : State) (w : Fin 64) (f : OwnWin → OwnWin) : (modWin s w f).part = s.part := rfl
@[simp] theorem modWin_cycle (s : State) (w : Fin 64) (f : OwnWin → OwnWin) : (modWin s w f).cycle = s.cycle := rfl
@[simp] theorem modWin_fresh (s : State) (w : Fin 64) (f : OwnWin → OwnWin) : (modWin s w f).fresh = s.fresh := rfl
@[simp] theorem modWin_pending (s : State) (w : Fin 64) (f : OwnWin → OwnWin) : (modWin s w f).pending = s.pending := rfl
@[simp] theorem modWin_tiles (s : State) (w : Fin 64) (f : OwnWin → OwnWin) : (modWin s w f).tiles = s.tiles := rfl
@[simp] theorem modWin_meadow (s : State) (w : Fin 64) (f : OwnWin → OwnWin) : (modWin s w f).meadow = s.meadow := rfl
@[simp] theorem modWin_hbm (s : State) (w : Fin 64) (f : OwnWin → OwnWin) : (modWin s w f).hbm = s.hbm := rfl
@[simp] theorem modWin_queues (s : State) (w : Fin 64) (f : OwnWin → OwnWin) : (modWin s w f).queues = s.queues := rfl
@[simp] theorem modWin_intake (s : State) (w : Fin 64) (f : OwnWin → OwnWin) : (modWin s w f).intake = s.intake := rfl
@[simp] theorem modWin_eth (s : State) (w : Fin 64) (f : OwnWin → OwnWin) : (modWin s w f).eth = s.eth := rfl
@[simp] theorem modWin_alaust (s : State) (w : Fin 64) (f : OwnWin → OwnWin) : (modWin s w f).alaust = s.alaust := rfl
@[simp] theorem modWin_ctrl (s : State) (w : Fin 64) (f : OwnWin → OwnWin) : (modWin s w f).ctrl = s.ctrl := rfl
@[simp] theorem modWin_keep (s : State) (w : Fin 64) (f : OwnWin → OwnWin) : (modWin s w f).keep = s.keep := rfl
@[simp] theorem modWin_fw (s : State) (w : Fin 64) (f : OwnWin → OwnWin) : (modWin s w f).fw = s.fw := rfl
@[simp] theorem modWin_saving (s : State) (w : Fin 64) (f : OwnWin → OwnWin) : (modWin s w f).saving = s.saving := rfl
@[simp] theorem modWin_power (s : State) (w : Fin 64) (f : OwnWin → OwnWin) : (modWin s w f).power = s.power := rfl
@[simp] theorem modWin_cfg (s : State) (w : Fin 64) (f : OwnWin → OwnWin) : (modWin s w f).cfg = s.cfg := rfl
@[simp] theorem modWin_ro (s : State) (w : Fin 64) (f : OwnWin → OwnWin) : (modWin s w f).ro = s.ro := rfl
@[simp] theorem modWin_tx (s : State) (w : Fin 64) (f : OwnWin → OwnWin) : (modWin s w f).tx = s.tx := rfl
@[simp] theorem modWin_tile (s : State) (w : Fin 64) (f : OwnWin → OwnWin) (q : PTile) : tile (modWin s w f) q = tile s q := rfl
@[simp] theorem modCtx_part (s : State) (c : Nat) (f : Ctx → Ctx) : (modCtx s c f).part = s.part := rfl
@[simp] theorem modCtx_cycle (s : State) (c : Nat) (f : Ctx → Ctx) : (modCtx s c f).cycle = s.cycle := rfl
@[simp] theorem modCtx_fresh (s : State) (c : Nat) (f : Ctx → Ctx) : (modCtx s c f).fresh = s.fresh := rfl
@[simp] theorem modCtx_pending (s : State) (c : Nat) (f : Ctx → Ctx) : (modCtx s c f).pending = s.pending := rfl
@[simp] theorem modCtx_tiles (s : State) (c : Nat) (f : Ctx → Ctx) : (modCtx s c f).tiles = s.tiles := rfl
@[simp] theorem modCtx_meadow (s : State) (c : Nat) (f : Ctx → Ctx) : (modCtx s c f).meadow = s.meadow := rfl
@[simp] theorem modCtx_hbm (s : State) (c : Nat) (f : Ctx → Ctx) : (modCtx s c f).hbm = s.hbm := rfl
@[simp] theorem modCtx_beryl (s : State) (c : Nat) (f : Ctx → Ctx) : (modCtx s c f).beryl = s.beryl := rfl
@[simp] theorem modCtx_queues (s : State) (c : Nat) (f : Ctx → Ctx) : (modCtx s c f).queues = s.queues := rfl
@[simp] theorem modCtx_eth (s : State) (c : Nat) (f : Ctx → Ctx) : (modCtx s c f).eth = s.eth := rfl
@[simp] theorem modCtx_alaust (s : State) (c : Nat) (f : Ctx → Ctx) : (modCtx s c f).alaust = s.alaust := rfl
@[simp] theorem modCtx_ctrl (s : State) (c : Nat) (f : Ctx → Ctx) : (modCtx s c f).ctrl = s.ctrl := rfl
@[simp] theorem modCtx_keep (s : State) (c : Nat) (f : Ctx → Ctx) : (modCtx s c f).keep = s.keep := rfl
@[simp] theorem modCtx_fw (s : State) (c : Nat) (f : Ctx → Ctx) : (modCtx s c f).fw = s.fw := rfl
@[simp] theorem modCtx_saving (s : State) (c : Nat) (f : Ctx → Ctx) : (modCtx s c f).saving = s.saving := rfl
@[simp] theorem modCtx_power (s : State) (c : Nat) (f : Ctx → Ctx) : (modCtx s c f).power = s.power := rfl
@[simp] theorem modCtx_cfg (s : State) (c : Nat) (f : Ctx → Ctx) : (modCtx s c f).cfg = s.cfg := rfl
@[simp] theorem modCtx_ro (s : State) (c : Nat) (f : Ctx → Ctx) : (modCtx s c f).ro = s.ro := rfl
@[simp] theorem modCtx_tx (s : State) (c : Nat) (f : Ctx → Ctx) : (modCtx s c f).tx = s.tx := rfl
@[simp] theorem modCtx_tile (s : State) (c : Nat) (f : Ctx → Ctx) (q : PTile) : tile (modCtx s c f) q = tile s q := rfl
@[simp] theorem modEngine_part (s : State) (g : Fin 9) (f : Engine → Engine) : (modEngine s g f).part = s.part := rfl
@[simp] theorem modEngine_cycle (s : State) (g : Fin 9) (f : Engine → Engine) : (modEngine s g f).cycle = s.cycle := rfl
@[simp] theorem modEngine_fresh (s : State) (g : Fin 9) (f : Engine → Engine) : (modEngine s g f).fresh = s.fresh := rfl
@[simp] theorem modEngine_pending (s : State) (g : Fin 9) (f : Engine → Engine) : (modEngine s g f).pending = s.pending := rfl
@[simp] theorem modEngine_tiles (s : State) (g : Fin 9) (f : Engine → Engine) : (modEngine s g f).tiles = s.tiles := rfl
@[simp] theorem modEngine_meadow (s : State) (g : Fin 9) (f : Engine → Engine) : (modEngine s g f).meadow = s.meadow := rfl
@[simp] theorem modEngine_hbm (s : State) (g : Fin 9) (f : Engine → Engine) : (modEngine s g f).hbm = s.hbm := rfl
@[simp] theorem modEngine_beryl (s : State) (g : Fin 9) (f : Engine → Engine) : (modEngine s g f).beryl = s.beryl := rfl
@[simp] theorem modEngine_queues (s : State) (g : Fin 9) (f : Engine → Engine) : (modEngine s g f).queues = s.queues := rfl
@[simp] theorem modEngine_eth (s : State) (g : Fin 9) (f : Engine → Engine) : (modEngine s g f).eth = s.eth := rfl
@[simp] theorem modEngine_alaust (s : State) (g : Fin 9) (f : Engine → Engine) : (modEngine s g f).alaust = s.alaust := rfl
@[simp] theorem modEngine_ctrl (s : State) (g : Fin 9) (f : Engine → Engine) : (modEngine s g f).ctrl = s.ctrl := rfl
@[simp] theorem modEngine_keep (s : State) (g : Fin 9) (f : Engine → Engine) : (modEngine s g f).keep = s.keep := rfl
@[simp] theorem modEngine_fw (s : State) (g : Fin 9) (f : Engine → Engine) : (modEngine s g f).fw = s.fw := rfl
@[simp] theorem modEngine_saving (s : State) (g : Fin 9) (f : Engine → Engine) : (modEngine s g f).saving = s.saving := rfl
@[simp] theorem modEngine_power (s : State) (g : Fin 9) (f : Engine → Engine) : (modEngine s g f).power = s.power := rfl
@[simp] theorem modEngine_cfg (s : State) (g : Fin 9) (f : Engine → Engine) : (modEngine s g f).cfg = s.cfg := rfl
@[simp] theorem modEngine_ro (s : State) (g : Fin 9) (f : Engine → Engine) : (modEngine s g f).ro = s.ro := rfl
@[simp] theorem modEngine_tx (s : State) (g : Fin 9) (f : Engine → Engine) : (modEngine s g f).tx = s.tx := rfl
@[simp] theorem modEngine_tile (s : State) (g : Fin 9) (f : Engine → Engine) (q : PTile) : tile (modEngine s g f) q = tile s q := rfl
@[simp] theorem modItem_part (s : State) (k : Nat) (f : Item → Item) : (modItem s k f).part = s.part := rfl
@[simp] theorem modItem_cycle (s : State) (k : Nat) (f : Item → Item) : (modItem s k f).cycle = s.cycle := rfl
@[simp] theorem modItem_fresh (s : State) (k : Nat) (f : Item → Item) : (modItem s k f).fresh = s.fresh := rfl
@[simp] theorem modItem_pending (s : State) (k : Nat) (f : Item → Item) : (modItem s k f).pending = s.pending := rfl
@[simp] theorem modItem_tiles (s : State) (k : Nat) (f : Item → Item) : (modItem s k f).tiles = s.tiles := rfl
@[simp] theorem modItem_meadow (s : State) (k : Nat) (f : Item → Item) : (modItem s k f).meadow = s.meadow := rfl
@[simp] theorem modItem_hbm (s : State) (k : Nat) (f : Item → Item) : (modItem s k f).hbm = s.hbm := rfl
@[simp] theorem modItem_beryl (s : State) (k : Nat) (f : Item → Item) : (modItem s k f).beryl = s.beryl := rfl
@[simp] theorem modItem_queues (s : State) (k : Nat) (f : Item → Item) : (modItem s k f).queues = s.queues := rfl
@[simp] theorem modItem_intake (s : State) (k : Nat) (f : Item → Item) : (modItem s k f).intake = s.intake := rfl
@[simp] theorem modItem_eth (s : State) (k : Nat) (f : Item → Item) : (modItem s k f).eth = s.eth := rfl
@[simp] theorem modItem_alaust (s : State) (k : Nat) (f : Item → Item) : (modItem s k f).alaust = s.alaust := rfl
@[simp] theorem modItem_keep (s : State) (k : Nat) (f : Item → Item) : (modItem s k f).keep = s.keep := rfl
@[simp] theorem modItem_fw (s : State) (k : Nat) (f : Item → Item) : (modItem s k f).fw = s.fw := rfl
@[simp] theorem modItem_saving (s : State) (k : Nat) (f : Item → Item) : (modItem s k f).saving = s.saving := rfl
@[simp] theorem modItem_power (s : State) (k : Nat) (f : Item → Item) : (modItem s k f).power = s.power := rfl
@[simp] theorem modItem_cfg (s : State) (k : Nat) (f : Item → Item) : (modItem s k f).cfg = s.cfg := rfl
@[simp] theorem modItem_ro (s : State) (k : Nat) (f : Item → Item) : (modItem s k f).ro = s.ro := rfl
@[simp] theorem modItem_tx (s : State) (k : Nat) (f : Item → Item) : (modItem s k f).tx = s.tx := rfl
@[simp] theorem modItem_tile (s : State) (k : Nat) (f : Item → Item) (q : PTile) : tile (modItem s k f) q = tile s q := rfl
@[simp] theorem modSession_part (s : State) (n : Nat) (f : Session → Session) : (modSession s n f).part = s.part := rfl
@[simp] theorem modSession_cycle (s : State) (n : Nat) (f : Session → Session) : (modSession s n f).cycle = s.cycle := rfl
@[simp] theorem modSession_fresh (s : State) (n : Nat) (f : Session → Session) : (modSession s n f).fresh = s.fresh := rfl
@[simp] theorem modSession_pending (s : State) (n : Nat) (f : Session → Session) : (modSession s n f).pending = s.pending := rfl
@[simp] theorem modSession_tiles (s : State) (n : Nat) (f : Session → Session) : (modSession s n f).tiles = s.tiles := rfl
@[simp] theorem modSession_meadow (s : State) (n : Nat) (f : Session → Session) : (modSession s n f).meadow = s.meadow := rfl
@[simp] theorem modSession_hbm (s : State) (n : Nat) (f : Session → Session) : (modSession s n f).hbm = s.hbm := rfl
@[simp] theorem modSession_beryl (s : State) (n : Nat) (f : Session → Session) : (modSession s n f).beryl = s.beryl := rfl
@[simp] theorem modSession_queues (s : State) (n : Nat) (f : Session → Session) : (modSession s n f).queues = s.queues := rfl
@[simp] theorem modSession_intake (s : State) (n : Nat) (f : Session → Session) : (modSession s n f).intake = s.intake := rfl
@[simp] theorem modSession_eth (s : State) (n : Nat) (f : Session → Session) : (modSession s n f).eth = s.eth := rfl
@[simp] theorem modSession_ctrl (s : State) (n : Nat) (f : Session → Session) : (modSession s n f).ctrl = s.ctrl := rfl
@[simp] theorem modSession_keep (s : State) (n : Nat) (f : Session → Session) : (modSession s n f).keep = s.keep := rfl
@[simp] theorem modSession_fw (s : State) (n : Nat) (f : Session → Session) : (modSession s n f).fw = s.fw := rfl
@[simp] theorem modSession_saving (s : State) (n : Nat) (f : Session → Session) : (modSession s n f).saving = s.saving := rfl
@[simp] theorem modSession_power (s : State) (n : Nat) (f : Session → Session) : (modSession s n f).power = s.power := rfl
@[simp] theorem modSession_cfg (s : State) (n : Nat) (f : Session → Session) : (modSession s n f).cfg = s.cfg := rfl
@[simp] theorem modSession_ro (s : State) (n : Nat) (f : Session → Session) : (modSession s n f).ro = s.ro := rfl
@[simp] theorem modSession_tx (s : State) (n : Nat) (f : Session → Session) : (modSession s n f).tx = s.tx := rfl
@[simp] theorem modSession_tile (s : State) (n : Nat) (f : Session → Session) (q : PTile) : tile (modSession s n f) q = tile s q := rfl
@[simp] theorem setBulks_part (s : State) (l : List Bulk) : (setBulks s l).part = s.part := rfl
@[simp] theorem setBulks_cycle (s : State) (l : List Bulk) : (setBulks s l).cycle = s.cycle := rfl
@[simp] theorem setBulks_fresh (s : State) (l : List Bulk) : (setBulks s l).fresh = s.fresh := rfl
@[simp] theorem setBulks_pending (s : State) (l : List Bulk) : (setBulks s l).pending = s.pending := rfl
@[simp] theorem setBulks_tiles (s : State) (l : List Bulk) : (setBulks s l).tiles = s.tiles := rfl
@[simp] theorem setBulks_meadow (s : State) (l : List Bulk) : (setBulks s l).meadow = s.meadow := rfl
@[simp] theorem setBulks_hbm (s : State) (l : List Bulk) : (setBulks s l).hbm = s.hbm := rfl
@[simp] theorem setBulks_beryl (s : State) (l : List Bulk) : (setBulks s l).beryl = s.beryl := rfl
@[simp] theorem setBulks_queues (s : State) (l : List Bulk) : (setBulks s l).queues = s.queues := rfl
@[simp] theorem setBulks_intake (s : State) (l : List Bulk) : (setBulks s l).intake = s.intake := rfl
@[simp] theorem setBulks_eth (s : State) (l : List Bulk) : (setBulks s l).eth = s.eth := rfl
@[simp] theorem setBulks_ctrl (s : State) (l : List Bulk) : (setBulks s l).ctrl = s.ctrl := rfl
@[simp] theorem setBulks_keep (s : State) (l : List Bulk) : (setBulks s l).keep = s.keep := rfl
@[simp] theorem setBulks_fw (s : State) (l : List Bulk) : (setBulks s l).fw = s.fw := rfl
@[simp] theorem setBulks_saving (s : State) (l : List Bulk) : (setBulks s l).saving = s.saving := rfl
@[simp] theorem setBulks_power (s : State) (l : List Bulk) : (setBulks s l).power = s.power := rfl
@[simp] theorem setBulks_cfg (s : State) (l : List Bulk) : (setBulks s l).cfg = s.cfg := rfl
@[simp] theorem setBulks_ro (s : State) (l : List Bulk) : (setBulks s l).ro = s.ro := rfl
@[simp] theorem setBulks_tx (s : State) (l : List Bulk) : (setBulks s l).tx = s.tx := rfl
@[simp] theorem setBulks_tile (s : State) (l : List Bulk) (q : PTile) : tile (setBulks s l) q = tile s q := rfl
@[simp] theorem sysTake_part (s : State) (c : Nat) : (sysTake s c).part = s.part := rfl
@[simp] theorem sysTake_cycle (s : State) (c : Nat) : (sysTake s c).cycle = s.cycle := rfl
@[simp] theorem sysTake_fresh (s : State) (c : Nat) : (sysTake s c).fresh = s.fresh := rfl
@[simp] theorem sysTake_pending (s : State) (c : Nat) : (sysTake s c).pending = s.pending := rfl
@[simp] theorem sysTake_tiles (s : State) (c : Nat) : (sysTake s c).tiles = s.tiles := rfl
@[simp] theorem sysTake_meadow (s : State) (c : Nat) : (sysTake s c).meadow = s.meadow := rfl
@[simp] theorem sysTake_beryl (s : State) (c : Nat) : (sysTake s c).beryl = s.beryl := rfl
@[simp] theorem sysTake_queues (s : State) (c : Nat) : (sysTake s c).queues = s.queues := rfl
@[simp] theorem sysTake_intake (s : State) (c : Nat) : (sysTake s c).intake = s.intake := rfl
@[simp] theorem sysTake_eth (s : State) (c : Nat) : (sysTake s c).eth = s.eth := rfl
@[simp] theorem sysTake_alaust (s : State) (c : Nat) : (sysTake s c).alaust = s.alaust := rfl
@[simp] theorem sysTake_ctrl (s : State) (c : Nat) : (sysTake s c).ctrl = s.ctrl := rfl
@[simp] theorem sysTake_keep (s : State) (c : Nat) : (sysTake s c).keep = s.keep := rfl
@[simp] theorem sysTake_fw (s : State) (c : Nat) : (sysTake s c).fw = s.fw := rfl
@[simp] theorem sysTake_saving (s : State) (c : Nat) : (sysTake s c).saving = s.saving := rfl
@[simp] theorem sysTake_power (s : State) (c : Nat) : (sysTake s c).power = s.power := rfl
@[simp] theorem sysTake_cfg (s : State) (c : Nat) : (sysTake s c).cfg = s.cfg := rfl
@[simp] theorem sysTake_ro (s : State) (c : Nat) : (sysTake s c).ro = s.ro := rfl
@[simp] theorem sysTake_tx (s : State) (c : Nat) : (sysTake s c).tx = s.tx := rfl
@[simp] theorem sysTake_tile (s : State) (c : Nat) (q : PTile) : tile (sysTake s c) q = tile s q := rfl
@[simp] theorem bankTake_part (s : State) (b : Nat) : (bankTake s b).part = s.part := rfl
@[simp] theorem bankTake_cycle (s : State) (b : Nat) : (bankTake s b).cycle = s.cycle := rfl
@[simp] theorem bankTake_fresh (s : State) (b : Nat) : (bankTake s b).fresh = s.fresh := rfl
@[simp] theorem bankTake_pending (s : State) (b : Nat) : (bankTake s b).pending = s.pending := rfl
@[simp] theorem bankTake_tiles (s : State) (b : Nat) : (bankTake s b).tiles = s.tiles := rfl
@[simp] theorem bankTake_hbm (s : State) (b : Nat) : (bankTake s b).hbm = s.hbm := rfl
@[simp] theorem bankTake_beryl (s : State) (b : Nat) : (bankTake s b).beryl = s.beryl := rfl
@[simp] theorem bankTake_queues (s : State) (b : Nat) : (bankTake s b).queues = s.queues := rfl
@[simp] theorem bankTake_intake (s : State) (b : Nat) : (bankTake s b).intake = s.intake := rfl
@[simp] theorem bankTake_eth (s : State) (b : Nat) : (bankTake s b).eth = s.eth := rfl
@[simp] theorem bankTake_alaust (s : State) (b : Nat) : (bankTake s b).alaust = s.alaust := rfl
@[simp] theorem bankTake_ctrl (s : State) (b : Nat) : (bankTake s b).ctrl = s.ctrl := rfl
@[simp] theorem bankTake_keep (s : State) (b : Nat) : (bankTake s b).keep = s.keep := rfl
@[simp] theorem bankTake_fw (s : State) (b : Nat) : (bankTake s b).fw = s.fw := rfl
@[simp] theorem bankTake_saving (s : State) (b : Nat) : (bankTake s b).saving = s.saving := rfl
@[simp] theorem bankTake_power (s : State) (b : Nat) : (bankTake s b).power = s.power := rfl
@[simp] theorem bankTake_cfg (s : State) (b : Nat) : (bankTake s b).cfg = s.cfg := rfl
@[simp] theorem bankTake_ro (s : State) (b : Nat) : (bankTake s b).ro = s.ro := rfl
@[simp] theorem bankTake_tx (s : State) (b : Nat) : (bankTake s b).tx = s.tx := rfl
@[simp] theorem bankTake_tile (s : State) (b : Nat) (q : PTile) : tile (bankTake s b) q = tile s q := rfl
@[simp] theorem hbmWrite_part (s : State) (a : Nat) (b : List Byte) : (hbmWrite s a b).part = s.part := rfl
@[simp] theorem hbmWrite_cycle (s : State) (a : Nat) (b : List Byte) : (hbmWrite s a b).cycle = s.cycle := rfl
@[simp] theorem hbmWrite_fresh (s : State) (a : Nat) (b : List Byte) : (hbmWrite s a b).fresh = s.fresh := rfl
@[simp] theorem hbmWrite_pending (s : State) (a : Nat) (b : List Byte) : (hbmWrite s a b).pending = s.pending := rfl
@[simp] theorem hbmWrite_tiles (s : State) (a : Nat) (b : List Byte) : (hbmWrite s a b).tiles = s.tiles := rfl
@[simp] theorem hbmWrite_meadow (s : State) (a : Nat) (b : List Byte) : (hbmWrite s a b).meadow = s.meadow := rfl
@[simp] theorem hbmWrite_beryl (s : State) (a : Nat) (b : List Byte) : (hbmWrite s a b).beryl = s.beryl := rfl
@[simp] theorem hbmWrite_queues (s : State) (a : Nat) (b : List Byte) : (hbmWrite s a b).queues = s.queues := rfl
@[simp] theorem hbmWrite_intake (s : State) (a : Nat) (b : List Byte) : (hbmWrite s a b).intake = s.intake := rfl
@[simp] theorem hbmWrite_eth (s : State) (a : Nat) (b : List Byte) : (hbmWrite s a b).eth = s.eth := rfl
@[simp] theorem hbmWrite_alaust (s : State) (a : Nat) (b : List Byte) : (hbmWrite s a b).alaust = s.alaust := rfl
@[simp] theorem hbmWrite_ctrl (s : State) (a : Nat) (b : List Byte) : (hbmWrite s a b).ctrl = s.ctrl := rfl
@[simp] theorem hbmWrite_keep (s : State) (a : Nat) (b : List Byte) : (hbmWrite s a b).keep = s.keep := rfl
@[simp] theorem hbmWrite_fw (s : State) (a : Nat) (b : List Byte) : (hbmWrite s a b).fw = s.fw := rfl
@[simp] theorem hbmWrite_saving (s : State) (a : Nat) (b : List Byte) : (hbmWrite s a b).saving = s.saving := rfl
@[simp] theorem hbmWrite_power (s : State) (a : Nat) (b : List Byte) : (hbmWrite s a b).power = s.power := rfl
@[simp] theorem hbmWrite_cfg (s : State) (a : Nat) (b : List Byte) : (hbmWrite s a b).cfg = s.cfg := rfl
@[simp] theorem hbmWrite_ro (s : State) (a : Nat) (b : List Byte) : (hbmWrite s a b).ro = s.ro := rfl
@[simp] theorem hbmWrite_tx (s : State) (a : Nat) (b : List Byte) : (hbmWrite s a b).tx = s.tx := rfl
@[simp] theorem hbmWrite_tile (s : State) (a : Nat) (b : List Byte) (q : PTile) : tile (hbmWrite s a b) q = tile s q := rfl
@[simp] theorem hbmSet_part (s : State) (a : Nat) (b : List Byte) : (hbmSet s a b).part = s.part := rfl
@[simp] theorem hbmSet_cycle (s : State) (a : Nat) (b : List Byte) : (hbmSet s a b).cycle = s.cycle := rfl
@[simp] theorem hbmSet_fresh (s : State) (a : Nat) (b : List Byte) : (hbmSet s a b).fresh = s.fresh := rfl
@[simp] theorem hbmSet_pending (s : State) (a : Nat) (b : List Byte) : (hbmSet s a b).pending = s.pending := rfl
@[simp] theorem hbmSet_tiles (s : State) (a : Nat) (b : List Byte) : (hbmSet s a b).tiles = s.tiles := rfl
@[simp] theorem hbmSet_meadow (s : State) (a : Nat) (b : List Byte) : (hbmSet s a b).meadow = s.meadow := rfl
@[simp] theorem hbmSet_beryl (s : State) (a : Nat) (b : List Byte) : (hbmSet s a b).beryl = s.beryl := rfl
@[simp] theorem hbmSet_queues (s : State) (a : Nat) (b : List Byte) : (hbmSet s a b).queues = s.queues := rfl
@[simp] theorem hbmSet_intake (s : State) (a : Nat) (b : List Byte) : (hbmSet s a b).intake = s.intake := rfl
@[simp] theorem hbmSet_eth (s : State) (a : Nat) (b : List Byte) : (hbmSet s a b).eth = s.eth := rfl
@[simp] theorem hbmSet_alaust (s : State) (a : Nat) (b : List Byte) : (hbmSet s a b).alaust = s.alaust := rfl
@[simp] theorem hbmSet_ctrl (s : State) (a : Nat) (b : List Byte) : (hbmSet s a b).ctrl = s.ctrl := rfl
@[simp] theorem hbmSet_keep (s : State) (a : Nat) (b : List Byte) : (hbmSet s a b).keep = s.keep := rfl
@[simp] theorem hbmSet_fw (s : State) (a : Nat) (b : List Byte) : (hbmSet s a b).fw = s.fw := rfl
@[simp] theorem hbmSet_saving (s : State) (a : Nat) (b : List Byte) : (hbmSet s a b).saving = s.saving := rfl
@[simp] theorem hbmSet_power (s : State) (a : Nat) (b : List Byte) : (hbmSet s a b).power = s.power := rfl
@[simp] theorem hbmSet_cfg (s : State) (a : Nat) (b : List Byte) : (hbmSet s a b).cfg = s.cfg := rfl
@[simp] theorem hbmSet_ro (s : State) (a : Nat) (b : List Byte) : (hbmSet s a b).ro = s.ro := rfl
@[simp] theorem hbmSet_tx (s : State) (a : Nat) (b : List Byte) : (hbmSet s a b).tx = s.tx := rfl
@[simp] theorem hbmSet_tile (s : State) (a : Nat) (b : List Byte) (q : PTile) : tile (hbmSet s a b) q = tile s q := rfl
@[simp] theorem meadowWrite_part (s : State) (a : Nat) (b : List Byte) : (meadowWrite s a b).part = s.part := rfl
@[simp] theorem meadowWrite_cycle (s : State) (a : Nat) (b : List Byte) : (meadowWrite s a b).cycle = s.cycle := rfl
@[simp] theorem meadowWrite_fresh (s : State) (a : Nat) (b : List Byte) : (meadowWrite s a b).fresh = s.fresh := rfl
@[simp] theorem meadowWrite_pending (s : State) (a : Nat) (b : List Byte) : (meadowWrite s a b).pending = s.pending := rfl
@[simp] theorem meadowWrite_tiles (s : State) (a : Nat) (b : List Byte) : (meadowWrite s a b).tiles = s.tiles := rfl
@[simp] theorem meadowWrite_hbm (s : State) (a : Nat) (b : List Byte) : (meadowWrite s a b).hbm = s.hbm := rfl
@[simp] theorem meadowWrite_beryl (s : State) (a : Nat) (b : List Byte) : (meadowWrite s a b).beryl = s.beryl := rfl
@[simp] theorem meadowWrite_queues (s : State) (a : Nat) (b : List Byte) : (meadowWrite s a b).queues = s.queues := rfl
@[simp] theorem meadowWrite_intake (s : State) (a : Nat) (b : List Byte) : (meadowWrite s a b).intake = s.intake := rfl
@[simp] theorem meadowWrite_eth (s : State) (a : Nat) (b : List Byte) : (meadowWrite s a b).eth = s.eth := rfl
@[simp] theorem meadowWrite_alaust (s : State) (a : Nat) (b : List Byte) : (meadowWrite s a b).alaust = s.alaust := rfl
@[simp] theorem meadowWrite_ctrl (s : State) (a : Nat) (b : List Byte) : (meadowWrite s a b).ctrl = s.ctrl := rfl
@[simp] theorem meadowWrite_keep (s : State) (a : Nat) (b : List Byte) : (meadowWrite s a b).keep = s.keep := rfl
@[simp] theorem meadowWrite_fw (s : State) (a : Nat) (b : List Byte) : (meadowWrite s a b).fw = s.fw := rfl
@[simp] theorem meadowWrite_saving (s : State) (a : Nat) (b : List Byte) : (meadowWrite s a b).saving = s.saving := rfl
@[simp] theorem meadowWrite_power (s : State) (a : Nat) (b : List Byte) : (meadowWrite s a b).power = s.power := rfl
@[simp] theorem meadowWrite_cfg (s : State) (a : Nat) (b : List Byte) : (meadowWrite s a b).cfg = s.cfg := rfl
@[simp] theorem meadowWrite_ro (s : State) (a : Nat) (b : List Byte) : (meadowWrite s a b).ro = s.ro := rfl
@[simp] theorem meadowWrite_tx (s : State) (a : Nat) (b : List Byte) : (meadowWrite s a b).tx = s.tx := rfl
@[simp] theorem meadowWrite_tile (s : State) (a : Nat) (b : List Byte) (q : PTile) : tile (meadowWrite s a b) q = tile s q := rfl
@[simp] theorem freeBuffer_part (s : State) (n : Fin 4) (vc : Bool) : (freeBuffer s n vc).part = s.part := rfl
@[simp] theorem freeBuffer_cycle (s : State) (n : Fin 4) (vc : Bool) : (freeBuffer s n vc).cycle = s.cycle := rfl
@[simp] theorem freeBuffer_fresh (s : State) (n : Fin 4) (vc : Bool) : (freeBuffer s n vc).fresh = s.fresh := rfl
@[simp] theorem freeBuffer_pending (s : State) (n : Fin 4) (vc : Bool) : (freeBuffer s n vc).pending = s.pending := rfl
@[simp] theorem freeBuffer_tiles (s : State) (n : Fin 4) (vc : Bool) : (freeBuffer s n vc).tiles = s.tiles := rfl
@[simp] theorem freeBuffer_meadow (s : State) (n : Fin 4) (vc : Bool) : (freeBuffer s n vc).meadow = s.meadow := rfl
@[simp] theorem freeBuffer_hbm (s : State) (n : Fin 4) (vc : Bool) : (freeBuffer s n vc).hbm = s.hbm := rfl
@[simp] theorem freeBuffer_queues (s : State) (n : Fin 4) (vc : Bool) : (freeBuffer s n vc).queues = s.queues := rfl
@[simp] theorem freeBuffer_intake (s : State) (n : Fin 4) (vc : Bool) : (freeBuffer s n vc).intake = s.intake := rfl
@[simp] theorem freeBuffer_eth (s : State) (n : Fin 4) (vc : Bool) : (freeBuffer s n vc).eth = s.eth := rfl
@[simp] theorem freeBuffer_alaust (s : State) (n : Fin 4) (vc : Bool) : (freeBuffer s n vc).alaust = s.alaust := rfl
@[simp] theorem freeBuffer_ctrl (s : State) (n : Fin 4) (vc : Bool) : (freeBuffer s n vc).ctrl = s.ctrl := rfl
@[simp] theorem freeBuffer_keep (s : State) (n : Fin 4) (vc : Bool) : (freeBuffer s n vc).keep = s.keep := rfl
@[simp] theorem freeBuffer_fw (s : State) (n : Fin 4) (vc : Bool) : (freeBuffer s n vc).fw = s.fw := rfl
@[simp] theorem freeBuffer_saving (s : State) (n : Fin 4) (vc : Bool) : (freeBuffer s n vc).saving = s.saving := rfl
@[simp] theorem freeBuffer_power (s : State) (n : Fin 4) (vc : Bool) : (freeBuffer s n vc).power = s.power := rfl
@[simp] theorem freeBuffer_cfg (s : State) (n : Fin 4) (vc : Bool) : (freeBuffer s n vc).cfg = s.cfg := rfl
@[simp] theorem freeBuffer_ro (s : State) (n : Fin 4) (vc : Bool) : (freeBuffer s n vc).ro = s.ro := rfl
@[simp] theorem freeBuffer_tx (s : State) (n : Fin 4) (vc : Bool) : (freeBuffer s n vc).tx = s.tx := rfl
@[simp] theorem freeBuffer_tile (s : State) (n : Fin 4) (vc : Bool) (q : PTile) : tile (freeBuffer s n vc) q = tile s q := rfl
@[simp] theorem sendMoved_part (s : State) (p : PTile) (l : Nat) (d : Fin 64) (v : Word) : (sendMoved s p l d v).part = s.part := rfl
@[simp] theorem sendMoved_cycle (s : State) (p : PTile) (l : Nat) (d : Fin 64) (v : Word) : (sendMoved s p l d v).cycle = s.cycle := rfl
@[simp] theorem sendMoved_fresh (s : State) (p : PTile) (l : Nat) (d : Fin 64) (v : Word) : (sendMoved s p l d v).fresh = s.fresh := rfl
@[simp] theorem sendMoved_pending (s : State) (p : PTile) (l : Nat) (d : Fin 64) (v : Word) : (sendMoved s p l d v).pending = s.pending := rfl
@[simp] theorem sendMoved_meadow (s : State) (p : PTile) (l : Nat) (d : Fin 64) (v : Word) : (sendMoved s p l d v).meadow = s.meadow := rfl
@[simp] theorem sendMoved_hbm (s : State) (p : PTile) (l : Nat) (d : Fin 64) (v : Word) : (sendMoved s p l d v).hbm = s.hbm := rfl
@[simp] theorem sendMoved_beryl (s : State) (p : PTile) (l : Nat) (d : Fin 64) (v : Word) : (sendMoved s p l d v).beryl = s.beryl := rfl
@[simp] theorem sendMoved_queues (s : State) (p : PTile) (l : Nat) (d : Fin 64) (v : Word) : (sendMoved s p l d v).queues = s.queues := rfl
@[simp] theorem sendMoved_intake (s : State) (p : PTile) (l : Nat) (d : Fin 64) (v : Word) : (sendMoved s p l d v).intake = s.intake := rfl
@[simp] theorem sendMoved_eth (s : State) (p : PTile) (l : Nat) (d : Fin 64) (v : Word) : (sendMoved s p l d v).eth = s.eth := rfl
@[simp] theorem sendMoved_alaust (s : State) (p : PTile) (l : Nat) (d : Fin 64) (v : Word) : (sendMoved s p l d v).alaust = s.alaust := rfl
@[simp] theorem sendMoved_ctrl (s : State) (p : PTile) (l : Nat) (d : Fin 64) (v : Word) : (sendMoved s p l d v).ctrl = s.ctrl := rfl
@[simp] theorem sendMoved_keep (s : State) (p : PTile) (l : Nat) (d : Fin 64) (v : Word) : (sendMoved s p l d v).keep = s.keep := rfl
@[simp] theorem sendMoved_fw (s : State) (p : PTile) (l : Nat) (d : Fin 64) (v : Word) : (sendMoved s p l d v).fw = s.fw := rfl
@[simp] theorem sendMoved_saving (s : State) (p : PTile) (l : Nat) (d : Fin 64) (v : Word) : (sendMoved s p l d v).saving = s.saving := rfl
@[simp] theorem sendMoved_power (s : State) (p : PTile) (l : Nat) (d : Fin 64) (v : Word) : (sendMoved s p l d v).power = s.power := rfl
@[simp] theorem sendMoved_cfg (s : State) (p : PTile) (l : Nat) (d : Fin 64) (v : Word) : (sendMoved s p l d v).cfg = s.cfg := rfl
@[simp] theorem sendMoved_ro (s : State) (p : PTile) (l : Nat) (d : Fin 64) (v : Word) : (sendMoved s p l d v).ro = s.ro := rfl
@[simp] theorem sendMoved_tx (s : State) (p : PTile) (l : Nat) (d : Fin 64) (v : Word) : (sendMoved s p l d v).tx = s.tx := rfl
/-- The port that an update changes. -/
@[simp] theorem ethPort_modPort_self (s : State) (e : Fin 2) (f : Port → Port) : ethPort (modPort s e f) e = f (ethPort s e) := by
  simp [ethPort, modPort]

/-- The other port stays. -/
theorem ethPort_modPort_ne (s : State) {e o : Fin 2} (f : Port → Port) (h : o ≠ e) : ethPort (modPort s e f) o = ethPort s o := by
  have hv : e.val ≠ o.val := fun x => h (Fin.ext x.symm)
  simp [ethPort, modPort, Vector.getElem_set_ne, hv]

/-- The Beryl port that an update changes. -/
@[simp] theorem bport_modBport_self (s : State) (n : Fin 4) (f : BPort → BPort) : bport (modBport s n f) n = f (bport s n) := by
  simp [bport, modBport]

/-- The other Beryl ports stay. -/
theorem bport_modBport_ne (s : State) {n m : Fin 4} (f : BPort → BPort) (h : m ≠ n) : bport (modBport s n f) m = bport s m := by
  have hv : n.val ≠ m.val := fun x => h (Fin.ext x.symm)
  simp [bport, modBport, Vector.getElem_set_ne, hv]

/-- What the scrambler sends, the descrambler gives back from the same register (13 R416). -/
theorem descramble_scramble (st : BitVec 58) (l : List Bool) : descramble st (scramble st l).2 = l := by
  induction l generalizing st with
  | nil => rfl
  | cons b bs ih =>
    have hb : ∀ x y : Bool, ((((b ^^ x) ^^ y) ^^ x) ^^ y) = b := by cases b <;> decide
    simp only [scramble, descramble, scrambleBit, ih, hb]

end Sys2Proof.Laws
end

