-- ==== Sys2Proof/WellFormed.lean ====
section
/-! DEFINITION. Which commands are well formed: the lengths and bounds that an operand's type does not carry. -/

namespace Sys2Proof

/-- Addresses of a received datagram are 16 bytes each (01 R26). -/
def InFrame.wf (f : InFrame) : Bool := f.src.length == 16 && f.dst.length == 16

/-- An operand list has the length, and a number the range, that its row of the table gives it. -/
def Instr.wf : Instr → Bool
  | .hbmPartialWriteback granule => granule < 0x18000000
  | .hbmSoftRemap row => row < 25165824
  | .meadowRefill slot => slot < 0x200000
  | .rtpPacketReceive _ f => f.wf
  | .igmpQuery _ _ group => group.length == 4 || group.length == 16
  | .arpRequest _ _ hw ip target => hw.length == 6 && ip.length == 4 && target.length == 4
  | .neighborSolicitation _ _ src target => src.length == 16 && target.length == 16
  | .icmpEchoRequest _ _ src dst data => src.length == 16 && dst.length == 16 && 4 ≤ data.length
  | .ptpAnnounceReceive _ _ gm _ => gm.length == 8
  | .hello _ f => f.wf
  | .proof _ f _ _ sig => f.wf && sig.length == 96
  | .alaustRead m entries => m.frame.wf && entries.all fun x => x.data.isEmpty
  | .alaustWrite m entries => m.frame.wf && entries.all fun x => x.data.length == x.length.toNat
  | .alaustCommit m _ => m.frame.wf
  | .alaustDiscard m => m.frame.wf
  | .bulkOpen m _ _ _ _ _ digest => m.frame.wf && digest.length == 48
  | .bulkData m _ _ bytes => m.frame.wf && bytes.length ≤ 1280
  | .bulkAck m _ _ _ => m.frame.wf
  | .bulkClose m _ => m.frame.wf
  | .notifyAck m _ => m.frame.wf
  | .keepalive m => m.frame.wf
  | .alaustEnd _ host => (match host with | some m => m.frame.wf | none => true)
  | .macsecCakWrite _ key => key.length == 32
  | .keepModelDelete digest => digest.length == 48
  | .berylWriteFrame _ _ _ _ _ _ payload => 1 ≤ payload.length && payload.length ≤ 256
  | .recoveryOffer _ host _ digest => host.length == 16 && digest.length == 48
  | .recoveryData _ host _ _ => host.length == 16
  | .powerMeasure _ _ rails => rails.length == 12
  | .packageDirJournal digest => digest.length == 48
  | .tickBoundary | .tickOutEnd | .stepBoundary | .guardStart | .lbItemTake _ | .itemTimeout _ | .tickInEdge | .tickInLoss | .bundleIssue _ | .nop _ |
    .add _ _ _ _ | .sub _ _ _ _ | .and _ _ _ _ | .or _ _ _ _ | .xor _ _ _ _ | .shl _ _ _ _ | .shr _ _ _ _ | .sar _ _ _ _ | .min _ _ _ _ |
    .max _ _ _ _ | .cmpEq _ _ _ _ | .cmpLt _ _ _ _ | .cmpLtu _ _ _ _ | .abs _ _ _ | .sel _ _ _ _ _ | .clamp _ _ _ _ | .add4Bu _ _ _ _ |
    .avg4Bu _ _ _ _ | .sad4Bu _ _ _ _ | .addi _ _ _ _ | .andi _ _ _ _ | .ori _ _ _ _ | .xori _ _ _ _ | .shli _ _ _ _ | .shri _ _ _ _ | .sari _ _ _ _ |
    .cmpiEq _ _ _ _ | .cmpiLt _ _ _ _ | .cmpiLtu _ _ _ _ | .movi0 _ _ _ | .movi1 _ _ _ _ | .movi2 _ _ _ _ | .movi3 _ _ _ _ | .movi4 _ _ _ _ |
    .ldB _ _ _ _ _ | .ldBu _ _ _ _ _ | .ldH _ _ _ _ _ | .ldHu _ _ _ _ _ | .ldW _ _ _ _ _ | .ldWu _ _ _ _ _ | .ldD _ _ _ _ _ | .stB _ _ _ _ _ |
    .stH _ _ _ _ _ | .stW _ _ _ _ _ | .stD _ _ _ _ _ | .aupd _ _ _ _ | .mva _ _ _ _ | .mvg _ _ _ _ | .mul _ _ _ _ | .mulh _ _ _ _ | .mulrH _ _ _ _ |
    .mac _ _ _ _ _ | .msu _ _ _ _ _ | .mac2H _ _ _ _ _ | .mac4B _ _ _ _ _ | .accClr _ _ | .accLd _ _ _ _ | .accMv _ _ _ _ _ | .accSh _ _ _ |
    .norm _ _ _ | .exp _ _ _ | .expmax _ _ _ _ | .br _ _ | .brZ _ _ _ | .brNz _ _ _ | .call _ _ | .brR _ _ | .loopSet _ _ _ _ _ |
    .loopRest _ _ _ _ _ | .loopClr _ _ | .cbSet _ _ _ | .mtc _ _ _ | .mfc _ _ _ | .intPendingClear _ _ | .bellFromClear _ _ | .rot _ | .nint _ _ |
    .mark _ _ | .dmaStart _ _ _ | .arrStart _ _ | .waitDma _ _ | .waitFlag _ _ _ | .waitRelease _ | .timeRd _ _ | .rng _ _ | .c0Trig _ _ |
    .c0Bell _ _ _ | .c1Bell _ _ | .emit _ _ | .c0End _ | .reti _ | .endItem _ | .waitReissue _ | .vectorReissue _ | .interruptEntry _ |
    .class0TriggerDelivery _ | .class0Dispatch _ | .class0Overrun _ | .doorbellDelivery _ | .stepRerun _ | .setvl _ _ _ _ | .vload _ _ _ _ _ _ |
    .vloadS _ _ _ _ _ _ _ | .vgather _ _ _ _ _ _ _ | .vdeal2 _ _ _ _ _ | .vdeal3 _ _ _ _ _ | .vdeal4 _ _ _ _ _ | .vstore _ _ _ _ _ _ |
    .vstoreS _ _ _ _ _ _ _ | .vscatter _ _ _ _ _ _ _ | .vsettle _ | .vpick _ _ _ _ | .vplace _ _ _ _ | .vfirst _ _ _ | .eAdd _ _ _ _ _ _ |
    .eSub _ _ _ _ _ _ | .eRsub _ _ _ _ _ _ | .eAnd _ _ _ _ _ _ | .eOr _ _ _ _ _ _ | .eXor _ _ _ _ _ _ | .eShl _ _ _ _ _ _ | .eShr _ _ _ _ _ _ |
    .eSar _ _ _ _ _ _ | .eMin _ _ _ _ _ _ | .eMinu _ _ _ _ _ _ | .eMax _ _ _ _ _ _ | .eMaxu _ _ _ _ _ _ | .eAdds _ _ _ _ _ _ | .eAddsu _ _ _ _ _ _ |
    .eSubs _ _ _ _ _ _ | .eSubsu _ _ _ _ _ _ | .eMul _ _ _ _ _ _ | .eMulh _ _ _ _ _ _ | .eMulhu _ _ _ _ _ _ | .eMla _ _ _ _ _ _ | .eMls _ _ _ _ _ _ |
    .wAdd _ _ _ _ _ _ | .wAddu _ _ _ _ _ _ | .wSub _ _ _ _ _ _ | .wSubu _ _ _ _ _ _ | .wMul _ _ _ _ _ _ | .wMulu _ _ _ _ _ _ | .wMulsu _ _ _ _ _ _ |
    .wMla _ _ _ _ _ _ | .wMlau _ _ _ _ _ _ | .nShr _ _ _ _ _ _ | .nSar _ _ _ _ _ _ | .nClip _ _ _ _ _ _ | .nClipu _ _ _ _ _ _ | .vdot4Ss _ _ _ _ _ _ |
    .vdot4Uu _ _ _ _ _ _ | .vdot4Su _ _ _ _ _ _ | .vdot2Ss _ _ _ _ _ _ | .vdot2Uu _ _ _ _ _ _ | .vdot2Su _ _ _ _ _ _ | .mEq _ _ _ _ _ _ |
    .mNe _ _ _ _ _ _ | .mLt _ _ _ _ _ _ | .mLtu _ _ _ _ _ _ | .mLe _ _ _ _ _ _ | .mLeu _ _ _ _ _ _ | .eBlend _ _ _ _ _ _ | .eFill _ _ _ _ _ _ |
    .xUp _ _ _ _ _ _ | .xDown _ _ _ _ _ _ | .xPerm _ _ _ _ _ _ | .rSum _ _ _ _ _ _ | .rMax _ _ _ _ _ _ | .rMaxu _ _ _ _ _ _ | .rMin _ _ _ _ _ _ |
    .rMinu _ _ _ _ _ _ | .rAnd _ _ _ _ _ _ | .rOr _ _ _ _ _ _ | .rXor _ _ _ _ _ _ | .efAdd _ _ _ _ _ _ | .efSub _ _ _ _ _ _ | .efMul _ _ _ _ _ _ |
    .efMla _ _ _ _ _ _ | .efNmla _ _ _ _ _ _ | .efMls _ _ _ _ _ _ | .efMin _ _ _ _ _ _ | .efMax _ _ _ _ _ _ | .efSgn _ _ _ _ _ _ |
    .efSgnn _ _ _ _ _ _ | .efSgnx _ _ _ _ _ _ | .efDiv _ _ _ _ _ _ | .efSqrt _ _ _ _ _ _ | .mFeq _ _ _ _ _ _ | .mFlt _ _ _ _ _ _ | .mFle _ _ _ _ _ _ |
    .efCvtFi _ _ _ _ _ _ | .efCvtFu _ _ _ _ _ _ | .efCvtIf _ _ _ _ _ _ | .efCvtUf _ _ _ _ _ _ | .wfCvt _ _ _ _ _ _ | .wfMla _ _ _ _ _ _ |
    .nfCvt _ _ _ _ _ _ | .rfTree _ _ _ _ _ _ | .rfSeq _ _ _ _ _ _ | .rfMax _ _ _ _ _ _ | .rfMin _ _ _ _ _ _ | .fadd _ _ _ _ _ _ | .fsub _ _ _ _ _ _ |
    .fmul _ _ _ _ _ _ | .fma _ _ _ _ _ _ | .fmin _ _ _ _ _ _ | .fmax _ _ _ _ _ _ | .fdiv _ _ _ _ _ _ | .fsqrt _ _ _ _ _ _ | .fget _ _ _ |
    .fput _ _ _ | .fcvtGf _ _ _ | .fcvtFg _ _ _ | .arraySpanStart _ | .arrayAccUpdate _ | .arrayDrainRead _ _ | .arrayDrainWrite _ |
    .arrayComplete _ | .arrayBoxListRead _ | .cropOutputWrite _ | .dmaDescActivate _ _ | .dmaBurstRead _ _ | .dmaReadDeliver _ _ |
    .dmaBurstWrite _ _ | .dmaDescComplete _ _ | .dmaAbort _ _ | .dmaAbortComplete _ _ | .dmaEngineStopComplete _ | .dmaEngineClear _ _ |
    .qcrossRemove _ _ | .queueSlot | .pointerSweepComplete | .memEngineDone _ _ | .hbmRefreshSlot _ | .hbmTempChange _ | .scrubEnd _ |
    .multicastJoin _ _ | .multicastJoinRepeat _ _ | .frameDrop _ _ _ | .decodeUnitTake | .decodeUnitDone _ | .decodeEngineFault _ |
    .portLinkChange _ _ _ _ | .preemptVerify _ | .preemptVerifyResponse _ | .gclEntryAdvance _ | .gclListSwitch _ | .frerRecoveryReset _ |
    .mkpduReceive _ _ _ _ _ | .mkaHello _ | .mkaLifeExpire _ | .ptpSyncReceive _ _ _ | .ptpPdelayTimer _ | .ptpPdelayReqReceive _ _ _ |
    .ptpPdelayRespReceive _ _ _ _ | .ptpSyncTimeout _ | .alarmEgress | .alarmPulseEnd | .resultEgressSend | .recordSetClose | .onyxSealSigned |
    .saveDigestComplete | .resumeVerifyComplete | .handshakeExpire _ | .commitRequest _ _ | .commitValidationEnd | .commitDiscard _ |
    .bulkAckTimer _ | .bulkResendTimer _ _ | .bulkVerifyDone _ | .bulkTimeout _ | .notify | .notifyResend _ _ | .sessionIdleTimeout _ |
    .i2cRead _ _ _ _ _ | .i2cWrite _ _ _ _ _ | .i2cResponse | .testDataRead _ _ | .testDataWrite _ _ | .testInject _ | .faultClear _ |
    .faultTestAlarm _ | .lcTransition _ _ | .lcPkgSvnRaise _ | .firmwareSwitch _ | .resetRequest _ | .berylIdleFrame _ _ | .berylBadFrame _ |
    .berylTickFrame _ _ _ _ _ _ | .windowGrant _ _ _ _ _ _ | .windowCloseNotice _ _ _ | .windowFinalNotice _ _ _ | .berylEgressSlot _ |
    .linkTrainingDone _ _ _ _ | .berylDownLimit _ | .berylLaneSpare _ | .lsinLoss | .lsinRestore | .bistRotation _ | .bistEnd _ _ |
    .regionMonitorTrip _ _ _ | .trngHealthFail _ | .controllerLockstep | .controllerRestartDone | .enclaveSelftest _ _ | .checkpointCommit |
    .planActivationLoad | .firmwareRewriteDone | .pwrFailNFall | .pwrFailAccept | .powerFailCommitEnd | .pwrFailNReturn | .porstNLow |
    .porstNRise _ _ | .fusesSensed | .hbmTrained | .imageReadDone | .imageVerified | .firmwareSelftestDone | .journalReplayDone _ | .wipeDone |
    .selfTestDone _ _ | .restartLockWait | .recoveryRequest _ | .recoveryReadRepeat | .extestLoad | .throttleUpdate | .thermalLimit _ |
    .thermalTrip _ | .supplyRange _ _ | .supplyFail _ | .pllLockLoss _ | .refclkLoss _ | .refclkReturn | .wakeAdmissionSlot | .domainInRun _ |
    .tileLower _ | .ppsOutSecond | .ppsInEdge | .ppsOutEnd | .tickFrameLoss | .ethRefclkReturn | .firmwareSelfCheckDone _ => true

end Sys2Proof
end

