-- ==== Sys2Proof/Tests/Slice0.lean ====
section
/-! SUPPORT. Tests: for each statement a state that meets its hypotheses, at boundary values; an ill-formed term for each check of Instr.wf; and single commands with the results the spec gives them. -/

namespace Sys2Proof.Tests
open Sys2Proof Sys2Proof.Machine

set_option Elab.async false

/-- The part after reset, 100 tile cycles on, with tile 5 changed. -/
def on5 (f : Tile → Tile) : State := modTile { State.reset with cycle := 100 } 5 f

/-- The part after reset, 100 tile cycles on, with the job's bank of tile 5 changed. -/
def job5 (f : Bank → Bank) : State := on5 fun t => { t with job := f t.job }

/-- The next state of an outcome. -/
def out (o : Host.Outcome State Fault Refusal) : State := match o with | .next t => t | _ => {}

/-- A command has a next state. -/
def goes (o : Host.Outcome State Fault Refusal) : Bool := match o with | .next _ => true | _ => false

/-- The general-register results in flight on tile 5: due, register, value. -/
def flying (s : State) : List (Nat × Nat × Word) := (tile s 5).sched.filterMap fun e => match e.act with | .gReg _ r v => some (e.due, r.val, v) | _ => none

/-- Tile 5 with two general registers. -/
def two (x y : Word) : State := job5 fun b => { b with g := (b.g.set 3 x).set 63 y }

/-- Outside the class-0 context every register name is open. -/
theorem names_open {t : Tile} {l : List (Fin 64)} (h : t.inC0 = false) : NamesOpen t l := fun h' => absurd (h.symm.trans h') (by decide)

/-- Objects set to integers. -/
def withCfg (l : List (Nat × Nat)) (s : State) : State := l.foldl (fun s x => cfgPutNat s x.1 x.2) s

theorem hyp_IdleStepIsOneTileCycle : (State.reset).pending = [] := by decide +kernel
/-- The rest of the queue stays in order (the queue is the model's own, notes/assumptions/1.md). -/
theorem test_step_takes_front : (out (step { two 5 7 with pending := [.add 5 1 3 63, .nop 5] })).pending = [.nop 5] := by decide +kernel
theorem hyp_AluResults : NamesOpen (tile (on5 fun t => { t with inC0 := true }) 5) [31, 0, 31] ∧ NamesOpen (tile (on5 id) 5) [63, 32, 31] := ⟨fun _ => by decide, names_open (by decide +kernel)⟩
theorem hyp_ImmediateAluResults_shift : (63 : BitVec 14).toNat < 64 ∧ 64 ≤ (64 : BitVec 14).toNat ∧ 64 ≤ (16383 : BitVec 14).toNat := by decide
theorem hyp_ImmediateAluResults_abs : gVal (tile (two (BitVec.intMin 64 + 1) 0) 5) 3 ≠ BitVec.intMin 64 := by decide +kernel
theorem hyp_BarredOperationsFault : (tile (on5 fun t => { t with inC0 := true }) 5).inC0 = true ∧ 32 ≤ (32 : Fin 64).val ∧ 32 ≤ (63 : Fin 64).val ∧ (tile (on5 id) 5).inC0 = false := by decide +kernel
theorem hyp_ResultsLand : frozen (on5 fun t => { t with sched := [{ due := 100, issue := 99, act := .gReg false 33 7 }] }) 5 = false
    ∧ (tile (on5 fun t => { t with sched := [{ due := 100, issue := 99, act := .gReg false 33 7 }] }) 5).entry = none := by decide +kernel
theorem hyp_GeneralRegisters : (31 : Fin 64).val < 32 ∧ 32 ≤ (32 : Fin 64).val ∧ 32 ≤ (62 : Fin 64).val ∧ (62 : Fin 64).val + 1 < 64 ∧ (tile (on5 id) 5).inC0 = false
    ∧ NamesOpen (tile (on5 id) 5) [0, 63, 1] := ⟨by decide, by decide, by decide, by decide, by decide +kernel, names_open (by decide +kernel)⟩
/-- a1 with a circular buffer of 24 bytes at 0x40. -/
def circ : State := job5 fun b => { b with a := b.a.set 1 0x48, cb := b.cb.set 1 (BitVec.ofNat 64 (24 * 2 ^ 32 + 0x40)) }
theorem hyp_AddressingModes : field 53 32 (bankOf (tile circ 5)).cb[0].toNat = 0 ∧ field 53 32 (bankOf (tile circ 5)).cb[1].toNat ≠ 0
    ∧ lNext (tile circ 5) 1 (.postImm 16) = some 0x40 ∧ NamesOpen (tile circ 5) [63] := ⟨by decide +kernel, by decide +kernel, by decide +kernel, names_open (by decide +kernel)⟩
/-- a1 at the last double word of core memory; port 0 taken in the next cycle alone. -/
def top8 : State := on5 fun t => { t with port0 := [101], job := { t.job with a := t.job.a.set 1 0x1FFFF8 } }
theorem hyp_LoadResults : (∀ i, LMode.offset 0 ≠ .update i) ∧ NamesOpen (tile top8 5) (9 :: lNames (.offset 0)) ∧ ((0 : Fin 2) = 0 → top8.cycle ∉ (tile top8 5).port0)
    ∧ aHigh (tile top8 5) 1 = false ∧ lEa (tile top8 5) 1 (.offset 0) < coreSize ∧ lEa (tile top8 5) 1 (.offset 0) % 8 = 0
    ∧ badByte (tile top8 5).coreBad (lEa (tile top8 5) 1 (.offset 0)) 8 = none :=
  ⟨(fun _ h => nomatch h), names_open (by decide +kernel), by decide +kernel, by decide +kernel, by decide +kernel, by decide +kernel, by decide +kernel⟩
/-- a1 behind core memory, a2 in the descriptor area, a3 odd. -/
def badA : State := job5 fun b => { b with a := ((b.a.set 1 0x200000).set 2 0x1FF000).set 3 7 }
theorem hyp_CoreAccessFaults : NamesOpen (tile badA 5) (9 :: lNames (.offset 0)) ∧ badA.cycle ∉ (tile badA 5).port0 ∧ (∀ i, LMode.offset 0 ≠ .update i)
    ∧ aHigh (tile badA 5) 1 = true ∧ coreSize ≤ lEa (tile badA 5) 1 (.offset 0)
    ∧ aHigh (tile badA 5) 2 = false ∧ lEa (tile badA 5) 2 (.offset 0) < coreSize ∧ (tile badA 5).inC0 = false ∧ descArea ≤ lEa (tile badA 5) 2 (.offset 0)
    ∧ aHigh (tile badA 5) 3 = false ∧ lEa (tile badA 5) 3 (.offset 0) < descArea ∧ lEa (tile badA 5) 3 (.offset 0) % 2 ≠ 0 :=
  ⟨names_open (by decide +kernel), by decide +kernel, (fun _ h => nomatch h), by decide +kernel, by decide +kernel, by decide +kernel, by decide +kernel, by decide +kernel,
    by decide +kernel, by decide +kernel, by decide +kernel, by decide +kernel⟩
theorem hyp_CoreAccessFaults_update : ∃ i, LMode.update 0 = .update i := ⟨0, rfl⟩
/-- a1 at the last double word below the descriptor area. -/
def lowTop : State := job5 fun b => { b with a := b.a.set 1 0x1FEFF8 }
/-- The class-0 context with a window of the 4,096 bytes at 0. -/
def win : State := on5 fun t => { t with inC0 := true, c0Window := BitVec.ofNat 32 (1 * 2 ^ 12), c0 := { t.c0 with a := t.c0.a.set 2 0x8000 } }
theorem hyp_StoreEffects : aHigh (tile lowTop 5) 1 = false ∧ lEa (tile lowTop 5) 1 (.offset 0) < descArea ∧ lEa (tile lowTop 5) 1 (.offset 0) % 8 = 0 ∧ (tile lowTop 5).inC0 = false
    ∧ lowTop.cycle ∉ (tile lowTop 5).port0 := by decide +kernel
theorem hyp_StoreEffects_class0 : (tile win 5).inC0 = true ∧ aHigh (tile win 5) 2 = false ∧ lEa (tile win 5) 2 (.offset 0) < coreSize ∧ inWindow (tile win 5) (lEa (tile win 5) 2 (.offset 0)) 8 = false
    ∧ NamesOpen (tile win 5) (9 :: lNames (.offset 0)) := ⟨by decide +kernel, by decide +kernel, by decide +kernel, by decide +kernel, fun _ => by decide⟩
theorem hyp_StoredBytes : memWf (tile (on5 fun t => { t with core := [(4, 9)] }) 5).core = true ∧ ({ space := .core, addr := 0, bytes := [1, 2], rank := 2 } : Commit).rank < ({ space := .core, addr := 1, bytes := [3], rank := 3 } : Commit).rank := by decide +kernel
theorem hyp_DspReads : NamesOpen (tile (on5 id) 5) [63, 0] ∧ (1 : BitVec 2) ≠ 3 ∧ ((0 : Word).setWidth 16).toInt ≠ -32768 ∧ ((0x8000 : Word).setWidth 16).toInt = -32768
    ∧ dspSat (bankOf (tile (on5 id) 5)).dsp = true ∧ dspSat (bankOf (tile (job5 fun b => { b with dsp := 0 }) 5)).dsp = false := ⟨names_open (by decide +kernel), by decide, by decide, by decide, by decide +kernel, by decide +kernel⟩
theorem hyp_DspReads_rounding : 2 * (roundShift 0 6 2 * 4 - 6) = 4 - 0 ∧ 2 * (roundShift 0 10 2 * 4 - 10) = -4 ∧ 2 * (roundShift 2 6 2 * 4 - 6) = 4 ∧ 2 * (roundShift 2 (-6) 2 * 4 - (-6)) = -4 := by decide +kernel
theorem hyp_AccumulatorWrites : NamesOpen (tile (on5 id) 5) [63, 0] ∧ 2 < (3 : BitVec 2).toNat ∧ (2 : BitVec 2).toNat ≤ 2 ∧ 1 < (2 : BitVec 2).toNat ∧ (1 : BitVec 2).toNat ≤ 1 := ⟨names_open (by decide +kernel), by decide, by decide, by decide, by decide⟩

/-- Tile 5 in Run with an item, holding logical id 9. -/
def live (f : Tile → Tile) : State := on5 fun t => f { t with power := 0, role := 0, logical := 9, run := some {} }
theorem hyp_ControlFlowOperations : NamesOpen (tile (on5 id) 5) [63] ∧ NamesOpen (tile (on5 id) 5) [63, 3, 4] ∧ ((gVal (tile (two 8 8) 5) 3).setWidth 32).toNat ≤ ((gVal (tile (two 8 8) 5) 63).setWidth 32).toNat
    ∧ ((gVal (tile (two 9 8) 5) 63).setWidth 32).toNat < ((gVal (tile (two 9 8) 5) 3).setWidth 32).toNat :=
  ⟨names_open (by decide +kernel), names_open (by decide +kernel), by decide +kernel, by decide +kernel⟩
/-- g3 holds a circular buffer that ends with core memory, g63 one that ends 8 bytes behind it. -/
def bufs : State := two (BitVec.ofNat 64 (8 * 2 ^ 32 + 0x1FFFF8)) (BitVec.ofNat 64 (16 * 2 ^ 32 + 0x1FFFF8))
theorem hyp_ControlFlowOperations_cb : (∀ r ∈ [(3 : Fin 64), 63], let v := gVal (tile bufs 5) r
    (v.extractLsb' 0 21).toNat % 8 = 0 ∧ (v.extractLsb' 32 22).toNat % 8 = 0 ∧ v.extractLsb' 21 11 = 0 ∧ v.extractLsb' 54 10 = 0
    ∧ ((v.extractLsb' 0 21).toNat + (v.extractLsb' 32 22).toNat ≤ 0x200000 ↔ r = 3)) := by decide +kernel
theorem hyp_ControlRegisterAccess : NamesOpen (tile (on5 id) 5) [63] ∧ (tile (on5 fun t => { t with inC0 := true }) 5).inC0 = true ∧ (0x4F : BitVec 8) ∈ ([0x01, 0x10, 0x11, 0x12, 0x13, 0x14, 0x16, 0x41, 0x42, 0x4D, 0x4E, 0x4F] : List (BitVec 8))
    ∧ (0x15 : BitVec 8) ∉ ([0x00, 0x01, 0x10, 0x11, 0x12, 0x13, 0x14, 0x16, 0x41, 0x42, 0x4D, 0x4E, 0x4F] : List (BitVec 8))
    ∧ mfcListed false 0x07 = false ∧ mfcListed false 0x70 = false ∧ mfcListed true 0x01 = false ∧ (tile (on5 id) 5).inC0 = false :=
  ⟨names_open (by decide +kernel), by decide +kernel, by decide, by decide, by decide, by decide, by decide, by decide +kernel⟩
theorem hyp_IssueControlOperations : (1 ≤ (1 : BitVec 9).toNat ∧ (300 : BitVec 9).toNat ≤ 300) ∧ ((0 : BitVec 9).toNat = 0 ∧ 300 < (301 : BitVec 9).toNat) := by decide
theorem hyp_IssueControlOperations_flag : (aVal (tile top8 5) 1).toNat < coreSize ∧ (aVal (tile top8 5) 1).toNat % 8 = 0 ∧ coreSize ≤ (aVal (tile badA 5) 1).toNat
    ∧ (aVal (tile badA 5) 3).toNat < coreSize ∧ (aVal (tile badA 5) 3).toNat % 8 ≠ 0 ∧ (tile badA 5).inC0 = false := by decide +kernel
/-- Channel 2 of the DMA engine of tile 5. -/
def chan2 (c : Channel) : State := on5 fun t => { t with dma := { t.dma with ch := t.dma.ch.set 2 c } }
theorem hyp_DescriptorHandover : (tile (chan2 {}) 5).inC0 = false ∧ (tile (chan2 {}) 5).dma.stopped = false ∧ ((tile (chan2 {}) 5).dma.ch[(2 : Fin 8)].active.isSome → (tile (chan2 {}) 5).dma.ch[(2 : Fin 8)].pend.length = 0)
    ∧ (tile (chan2 { pend := [{}] }) 5).dma.ch[(2 : Fin 8)].pend.length ≤ 1 ∧ (tile (chan2 { active := some {}, pend := [{}] }) 5).dma.ch[(2 : Fin 8)].active.isSome
    ∧ (tile (chan2 { pend := [{}, {}] }) 5).dma.ch[(2 : Fin 8)].pend.length = 2 ∧ (tile (on5 fun t => { t with dma := { t.dma with stopped := true } }) 5).dma.stopped = true := by decide +kernel
theorem hyp_DescriptorHandover_array : arrPendings (tile (on5 id) 5) 100 < 2 ∧ 2 ≤ arrPendings (tile (on5 fun t => { t with arr := { t.arr with descs := [{ t0 := 98 }, { t0 := 99 }, { t0 := 99 }] } }) 5) 100 := by decide +kernel
theorem hyp_TimeReads : NamesOpen (tile (on5 id) 5) [63] := names_open (by decide +kernel)
theorem hyp_RandomAndBells : cfgNat (live id) oDetRngMode = 0 ∧ cfgNat { live id with cfg := [(oDetRngMode, [1])] } oDetRngMode = 1 ∧ (tile (live id) 5).inC0 = false ∧ (tile (live id) 5).run = some {}
    ∧ replaying (live id) 5 = false ∧ replaying (live fun t => { t with run := some { replay := true } }) 5 = true ∧ holderOf (live id) 9 = some 5 ∧ holderOf (live id) 63 = none := by decide +kernel
/-- A handler runs on tile 5, with a1 at the last 64 bytes of core memory and a2 one byte on. -/
def hand : State := on5 fun t => { t with inC0 := true, c0run := some {}, c0 := { t.c0 with a := (t.c0.a.set 1 0x1FFFC0).set 2 0x1FFFC1 } }
theorem hyp_EmitAndReturns : (tile hand 5).inC0 = true ∧ (tile hand 5).c0run = some {} ∧ ({} : C0Run).suppressed = false ∧ replaying hand 5 = false ∧ (aVal (tile hand 5) 1).toNat + 64 ≤ coreSize
    ∧ badByte (tile hand 5).coreBad (aVal (tile hand 5) 1).toNat 64 = none ∧ coreSize < (aVal (tile hand 5) 2).toNat + 64 ∧ (tile (live id) 5).inC0 = false := by decide +kernel
/-- The last bundle of core memory, all 0, is next. -/
def nopAt (f : Bank → Bank) : State := live fun t => { t with job := f { t.job with pc := 0x1FFFE0 } }
theorem hyp_BundleIssue : mayIssue (nopAt id) 5 = true ∧ zeroLoop (bankOf (tile (nopAt id) 5)) = none ∧ (bankOf (tile (nopAt id) 5)).pc.toNat % 32 = 0 ∧ (bankOf (tile (nopAt id) 5)).pc.toNat < coreSize
    ∧ badByte (tile (nopAt id) 5).coreBad (bankOf (tile (nopAt id) 5)).pc.toNat 32 = none ∧ fetchBytes (tile (nopAt id) 5) 100 (bankOf (tile (nopAt id) 5)).pc.toNat = List.replicate 32 0
    ∧ (bankOf (tile (nopAt id) 5)).branch = [] ∧ (bankOf (tile (nopAt id) 5)).loopCtrl.toNat % 4 = 0 := by decide +kernel
/-- The bundle is the end of armed level l with a count. -/
def loopAt (l : Fin 2) (n : Nat) : State := nopAt fun b => { b with loopCtrl := BitVec.ofNat 32 (2 ^ l.val), loopCount := b.loopCount.set l.val (BitVec.ofNat 32 n) l.isLt, loopEnd := b.loopEnd.set l.val 0x1FFFE0 l.isLt }
theorem hyp_BundleIssue_loops : ∀ l : Fin 2, ∀ n ∈ [1, 2], mayIssue (loopAt l n) 5 = true ∧ zeroLoop (bankOf (tile (loopAt l n) 5)) = none ∧ (bankOf (tile (loopAt l n) 5)).loopCtrl.toNat % 4 = 2 ^ l.val
    ∧ (bankOf (tile (loopAt l n) 5)).loopEnd[l] = (bankOf (tile (loopAt l n) 5)).pc ∧ (bankOf (tile (loopAt l n) 5)).loopCount[l].toNat = n := by decide +kernel
/-- A pending branch to 64. -/
def brAt (n : Nat) : State := nopAt fun b => { b with branch := [{ target := 64, left := n }] }
theorem hyp_BundleIssue_branch : ∀ n ∈ [1, 5], mayIssue (brAt n) 5 = true ∧ (bankOf (tile (brAt n) 5)).branch = [{ target := 64, left := (n - 1) + 1 }] := by decide +kernel
/-- Level 1 is armed with a count of 0, and its start is the next bundle. -/
def skipAt : State := nopAt fun b => { b with loopCtrl := 2, loopStart := b.loopStart.set 1 0x1FFFE0 }
theorem hyp_BundleIssue_held : mayIssue (on5 id) 5 = false ∧ mayIssue skipAt 5 = true ∧ zeroLoop (bankOf (tile skipAt 5)) = some 1 := by decide +kernel
/-- A program counter behind core memory, a misaligned one, a bundle of bad parity, and a bundle of a reserved word. -/
def faultAt (k : Nat) : State := live fun t => { t with coreBad := [0x4F], core := [(0x60, 1)], job := { t.job with pc := [0x200000, 0x10, 0x40, 0x60].getD k 0 } }
theorem hyp_BundleIssue_faults : (∀ k < 4, mayIssue (faultAt k) 5 = true ∧ zeroLoop (bankOf (tile (faultAt k) 5)) = none) ∧ coreSize ≤ (bankOf (tile (faultAt 0) 5)).pc.toNat
    ∧ (bankOf (tile (faultAt 1) 5)).pc.toNat % 32 ≠ 0 ∧ badByte (tile (faultAt 2) 5).coreBad (bankOf (tile (faultAt 2) 5)).pc.toNat 32 = some 0x4F
    ∧ badByte (tile (faultAt 3) 5).coreBad (bankOf (tile (faultAt 3) 5)).pc.toNat 32 = none ∧ (decodeBundle 5 (fetchBytes (tile (faultAt 3) 5) 100 0x60)).isNone := by decide +kernel
/-- Source 3 is pending and enabled. -/
def irq (f : Tile → Tile) : State := live fun t => f { t with intPending := 0x18, intEnable := 0x18 }
theorem hyp_InterruptEntry : interruptDue (live id) 5 = false ∧ interruptDue (irq id) 5 = true ∧ (∀ e ∈ (tile (irq id) 5).sched, scalarLanding e.act = true → e.due ≤ 100)
    ∧ interruptDue (irq fun t => { t with job := { t.job with hold := .waitDma 7 1 false } }) 5 = true ∧ interruptDue (irq fun t => { t with job := { t.job with hold := .waitFlag 1 8 1 false } }) 5 = true := by decide +kernel
theorem hyp_InterruptEntry_flight : let s := irq fun t => { t with sched := [{ due := 103, issue := 98, act := .gReg false 1 7 }] }
    interruptDue s 5 = true ∧ ∃ e ∈ (tile s 5).sched, scalarLanding e.act = true ∧ s.cycle < e.due := by decide +kernel
/-- Handler 2 of a plan in force that runs, on logical tile 9. -/
def bound (f : Tile → Tile) : State :=
  let s := live f
  { s with ctrl := { s.ctrl with runs := true, plan := some { tiles := List.replicate 10 { handlerFirst := 0, handlerCount := 1 }, handlers := [{ handler := 2, pc := 0x40 }] } } }
theorem hyp_Class0AndDoorbells : frozen (live id) 5 = false ∧ (handlerPc (bound id) 5 2).isSome = true ∧ handlerPc (bound id) 5 7 = none ∧ handlerPc (live id) 5 2 = none ∧ class0Due (bound id) 5 = false
    ∧ class0Due (bound fun t => { t with c0wait := [{ src := 64, handler := 2 }] }) 5 = true ∧ (tile (bound fun t => { t with trigs := [{ due := 100, src := 64, handler := 2 }] }) 5).trigs = [{ due := 100, src := 64, handler := 2 }]
    ∧ frozen { live id with power := { (live id).power with level := 15 } } 5 = true := by decide +kernel
theorem hyp_Class0AndDoorbells_overrun : (tile hand 5).c0run = some { start := 0 } ∧ (2047 : Nat) < ({} : C0Run).start + 2048 ∧ ({} : C0Run).start + 2048 ≤ 2048
    ∧ frozen (on5 fun t => { t with bells := [(100, 63)] }) 5 = false ∧ (∀ b ∈ (tile (on5 fun t => { t with bells := [(100, 63)] }) 5).bells, b.2 < 64) := by decide +kernel
/-- What ResumedIssue asks of a live tile. -/
def lives (s : State) : Bool := tileLive s 5 && (tile s 5).switchAt ≤ s.cycle && (tile s 5).entry.isNone && betweenBundles s (tile s 5)
theorem hyp_ResumedIssue : lives (live fun t => { t with job := { t.job with hold := .waitDma 7 1 false } }) = true ∧ lives (live fun t => { t with job := { t.job with hold := .waitFlag 0 8 1 false } }) = true
    ∧ badByte (tile (live id) 5).coreBad 8 8 = none
    ∧ lives (live fun t => { t with reissueAt := some 100, intWait := waitDmaWord 7, dma := { t.dma with ch := t.dma.ch.set 7 { pend := [{}] } } }) = true
    ∧ lives (live fun t => { t with vReissueAt := some 100 }) = true := by decide +kernel
theorem hyp_ResumedIssue_rerun : let s := live fun t => { t with rerun := true, shadow := some {} }
    (tile s 5).rerun = true ∧ tileLive s 5 = true ∧ (tile s 5).inC0 = false ∧ (tile s 5).switchAt ≤ s.cycle ∧ vecBusy s (tile s 5) = false ∧ refillDue s (tile s 5) = false ∧ (tile s 5).shadow = some {} := by decide +kernel

/-- Tile 5 with VL = 4 elements of the width of code ew; v0 enables the even ones. -/
def vec (ew : Nat) (f : Tile → Tile) : State := on5 fun t => f { t with vl := 4, vew := BitVec.ofNat 32 ew, v := t.v.set 0 0x55 }
theorem hyp_VectorArithmetic : (tile (vec 2 id) 5).inC0 = false ∧ ewOf (tile (vec 2 id) 5) = 32 ∧ vArithIllegal 32 (vArithWord 0x10 0 31 0 31 true 3) = false ∧ vArithIllegal 32 (vArithWord 0x10 0 31 0 31 true 2) = true
    ∧ (tile (vec 2 fun t => { t with vl := 0 }) 5).vl = 0 ∧ 0 < (tile (vec 2 id) 5).vl ∧ (tile (on5 fun t => { t with inC0 := true }) 5).inC0 = true
    ∧ vArithIllegal 8 (vArithWord 0x13 8 30 1 31 false 1) = false ∧ vArithIllegal 8 (vArithWord 0x13 8 31 1 31 false 1) = true := by decide +kernel
/-- The last lane of an e.add at full length. -/
def addOp (ew : Nat) : VOp := { word := vArithWord 0x10 0 31 30 29 true 0, vl := 2048 / ew, ew := ew, mask := 0x55 }
theorem hyp_VectorLaneResults : ∀ ew ∈ [8, 16, 32, 64], (addOp ew).ew ∈ [8, 16, 32, 64] ∧ (addOp ew).vl ≤ 2048 / ew ∧ vOpc (addOp ew).word ∈ [0x10, 0x11, 0x12, 0x15, 0x17, 0x20, 0x21, 0x23]
    ∧ (∀ r ∈ vReads (addOp ew).word, r ∉ (tile (on5 fun t => { t with vBad := [31] }) 5).vBad) ∧ (0 : Nat) < 8 ∧ (7 : Nat) < 8 := by decide +kernel
theorem hyp_ElementResults : (32 : Nat) ∈ [8, 16, 32] ∧ isNan (fUnpack binary32 (fAdd binary32 0 0x7F800000 0xFF800000).1) = true ∧ isNan (fUnpack bf16 (fMul bf16 0 0x7F80 0).1) = true := by decide +kernel
theorem hyp_CrossLaneResults : ∀ ew ∈ [8, 16, 32, 64], ∀ x ∈ [(0x16, 5), (0x22, 2), (0x18, 0), (0x18, 1), (0x18, 2), (0x19, 0), (0x19, 7)],
    let op : VOp := { word := vArithWord x.1 x.2 31 30 29 true 0, vl := 2048 / ew, ew := ew, mask := 0x55, scalar := 1 }
    op.vl ≤ 2048 / op.ew ∧ vOpc op.word = x.1 ∧ vSub op.word = x.2 ∧ op.scalar.toNat % 2 ^ ew ≤ 1 ∧ 0 + op.scalar.toNat % 2 ^ ew < 2048 / ew := by decide +kernel
theorem hyp_VectorElementMoves : (tile (two 255 256) 5).inC0 = false ∧ ewOf (tile (two 255 256) 5) = 8 ∧ (gVal (tile (two 255 256) 5) 3).toNat < 2048 / 8 ∧ 2048 / 8 ≤ (gVal (tile (two 255 256) 5) 63).toNat
    ∧ (31 : Nat) ∉ (tile (two 255 256) 5).vBad ∧ ({ dst := 63 } : VOp).dst.val ≠ 0 := by decide +kernel
/-- Four words at the end of core memory, of the descriptor area and of the vector operand buffer, at a1, a2 and a3. -/
def vmem : State := vec 2 fun t => { t with job := { t.job with a := ((t.job.a.set 1 0x1FFFF0).set 2 0x1FEFF0).set 3 0x7FF0, g := t.job.g.set 3 4 } }
/-- A memory word with no bad element, whose port is free. -/
def vok (w : BitVec 32) : Bool := (vFaultOf (tile vmem 5) w 0).isNone && (vPortCycles (tile vmem 5) w 0).all fun c => !(if w.getLsbD 16 then (tile vmem 5).portV else (tile vmem 5).port0).contains (vmem.cycle + c)
theorem hyp_VectorMemoryIssue : (tile vmem 5).inC0 = false ∧ (tile vmem 5).vl ≤ 2048 / ewOf (tile vmem 5) ∧ field 53 32 (tile vmem 5).job.cb[1].toNat = 0 := by decide +kernel
theorem hyp_VectorMemoryIssue_loads : vok (vMemWord 2 31 1 true false true 0) && vok (vMemWord 2 31 3 true true true 0) && vok (vMemWord 3 31 1 true false true 768) && vok (vMemWord 4 31 1 false false true (30 * 256 + 3)) = true := by decide +kernel
theorem hyp_VectorMemoryIssue_deals : vok (vMemWord 5 30 0 true false true 64) && vok (vMemWord 5 29 0 true false true 128) && vok (vMemWord 5 28 0 true false true 192) = true := by decide +kernel
theorem hyp_VectorMemoryIssue_stores : vok (vMemWord 6 31 2 true false true 0) && vok (vMemWord 7 31 2 false false true 768) && vok (vMemWord 8 31 2 false false true (30 * 256 + 3)) = true := by decide +kernel
theorem hyp_VectorMemoryIssue_legal : vMemIllegal (vMemWord 2 31 1 true false true 0) = false ∧ vMemIllegal (vMemWord 5 30 0 true false true 64) = false ∧ vMemIllegal (vMemWord 5 28 0 true false true 192) = false
    ∧ vMemIllegal (vMemWord 7 31 2 false false true 768) = false ∧ vMemIllegal (vMemWord 8 31 2 false false true (30 * 256 + 3)) = false ∧ vMemIllegal (vMemWord 2 31 1 true false true 16) = true := by decide +kernel
theorem hyp_VectorMemoryAndFaults : (∀ e ∈ [(31, 255, 0x1FFFFF)], e.1 < 32 ∧ e.2.1 < 2048 / 8) ∧ badByte (tile (on5 fun t => { t with coreBad := [0x1FFFFE] }) 5).coreBad 0x1FFFFF (8 / 8) = none
    ∧ ({ cause := 15, elem := 255, vob := true, addr := 0x7FFF } : VFault).cause < 16 ∧ ({ cause := 15, elem := 255, vob := true, addr := 0x7FFF } : VFault).elem < 256
    ∧ (let t := tile (on5 fun t => { t with vresume := 0x4000000000000000 }) 5; t.vresume.getLsbD 62 = true ∧ t.intCtrl.getLsbD 0 = false ∧ t.nintEnd ≤ 100 ∧ ∀ b ∈ t.job.branch, b.left = 0)
    ∧ (tile (on5 id) 5).vresume.getLsbD 62 = false := by decide +kernel
theorem hyp_ScalarFloatOperations : (tile (on5 id) 5).inC0 = false ∧ 0xFFFFFFFFFFFFFFFF < 2 ^ 64 := by decide +kernel
theorem hyp_CorrectRounding : (∀ f ∈ [bf16, binary32, binary64], (scaledF f 1).isSome = true ∧ 1 < 2 ^ (f.ebits + f.mbits + 1) ∧ ∀ m < 4, (scaledF f (fAdd f m 1 1).1).isSome = true ∧ (scaledF f (fMul f m 1 1).1).isSome = true)
    ∧ (scaledF binary32 0xFF7FFFFF).isSome = true ∧ 0xFF7FFFFF < 2 ^ (binary32.ebits + binary32.mbits + 1) := by decide +kernel

/-- A layer of one output on one channel: K_TOTAL, M_COUNT, N_COLS, KH, KW, IN_W and IN_H 1, with DRAIN. -/
def layer : BitVec 1024 := BitVec.ofNat 1024 (2 ^ 112 + 2 ^ 104 + 2 ^ 95 + 2 ^ 188 + 2 ^ 184 + 2 ^ 240 + 2 ^ 224 + 2 ^ 42)
/-- Tile 5 with the one array descriptor r. -/
def arr5 (r : ArrRun) : State := on5 fun t => { t with arr := { t.arr with descs := [r] } }
/-- The layer with its weights loaded. -/
def loadedRun (l : List Byte) : ArrRun := { desc := layer, valid := true, load := l }
/-- The layer with its whole block of weights loaded. -/
def fullRun : ArrRun := loadedRun (List.replicate 16384 0)
theorem hyp_ArrayStages_span : spanDue (tile (arr5 fullRun) 5) 100 = some fullRun := by
  have hp : arrPlan (tile (arr5 fullRun) 5).arr = [(arrCarry (tile (arr5 fullRun) 5).arr, fullRun)] := rfl
  have hb : dBlockBytes fullRun.desc = 16384 := by decide +kernel
  have hc : (fullRun.load.length = dBlockBytes fullRun.desc) = True := by
    rw [hb, show fullRun.load = List.replicate 16384 0 from rfl, List.length_replicate]; simp
  unfold spanDue
  rw [hp, List.find?_cons_of_pos]
  · rfl
  · simp only [hc, decide_true, Bool.and_true]; decide +kernel
theorem hyp_ArrayStages_idle : spanDue (tile (on5 id) 5) 100 = none ∧ (∀ r ∈ (tile (on5 id) 5).arr.descs, ∀ e ∈ r.sums, (100 : Nat) < e.due) ∧ (∀ x ∈ (tile (on5 id) 5).arr.drains, (100 : Nat) < x.due) := by decide +kernel
/-- A column sum that is due. -/
def sum1 : EntrySum := { due := 100, first := true, terms := [(3, false)], res := [sumResidue 3] }
theorem hyp_ArrayStages_sum : let r : ArrRun := { desc := layer, valid := true, sums := [sum1] }
    (tile (arr5 r) 5).arr.descs = [r] ∧ sum1.due ≤ 100 ∧ sumBad (tile (arr5 r) 5) (dAccSet r.desc) sum1 = false ∧ sumResidueBad (tile (arr5 r) 5) (dAccSet r.desc) sum1 = false
    ∧ sumResidueBad (tile (arr5 r) 5) (dAccSet r.desc) { sum1 with res := [1] } = true := by decide +kernel
theorem hyp_ArrayStages_drain : let r : ArrRun := { desc := layer, valid := true, landed := 1, lastLand := 99 }
    (tile (arr5 r) 5).arr.descs = [r] ∧ arrDraining r = true ∧ dAccSet r.desc = 0 ∧ r.lastLand + 1 + r.drained ≤ 100 ∧ bitAt 767 r.desc.toNat = false ∧ (tile (arr5 r) 5).vobBad = [] := by decide +kernel
theorem hyp_ArrayStages_sound : ∀ k, (smGet {} (tile (arr5 {}) 5).arr.acc[(0 : Fin 2)] k).bad = false := fun _ => rfl
theorem hyp_ArrayStages_write : let r : ArrRun := { desc := layer, valid := true, landed := 1, drained := 1 }
    let x : DrainRead := { due := 100, vals := [{ val := 5 }], params := [(1, 0, 0)] }
    let s := on5 fun t => { t with arr := { t.arr with descs := [r], drains := [x] } }
    (tile s 5).arr.descs = [r] ∧ (tile s 5).arr.drains = [x] ∧ x.t0 = r.t0 ∧ x.due ≤ s.cycle ∧ x.params.length = x.vals.length := by decide +kernel
theorem hyp_ArrayStages_complete : let r : ArrRun := { desc := layer, valid := true, landed := 1, drained := 1, written := 1, lastWrite := 99, sat := 2 ^ 24 - 1, invalid := 65535 }
    ((arrPlan (tile (arr5 r) 5).arr).find? (arrCompletes 100)).map (·.2) = some r ∧ r.sat < 2 ^ 24 ∧ r.invalid < 2 ^ 16 := by decide +kernel
/-- A crop of one box of one output on one channel: KIND 1, A_FMT 1, OW, OH, IN_W and IN_H 1. -/
def crop : BitVec 1024 := BitVec.ofNat 1024 (2 ^ 60 + 2 ^ 54 + 2 ^ 112 + 2 ^ 193 + 2 ^ 185 + 2 ^ 177 + 2 ^ 240 + 2 ^ 224)
theorem hyp_ArrayStages_boxes : let r : ArrRun := { desc := crop, valid := true, t0 := 0 }
    boxDue (tile (arr5 r) 5) 100 = some r ∧ (tile (arr5 r) 5).wbufBad = []
    ∧ (∀ i < min 16 (dBoxes r.desc - r.boxes.length), boxOk r.desc (memRead (tile (arr5 r) 5).wbuf (dBoxAddr r.desc + 16 * r.boxes.length + 16 * i) 16) = true) := by decide +kernel
theorem hyp_ArrayStages_crop : let o : CropOut := { due := 100, reads := [[1], [2], [3], [4]] }
    let r : ArrRun := { desc := crop, valid := true, boxes := [List.replicate 16 0], boxesRead := true, crops := [o] }
    (tile (arr5 r) 5).arr.descs = [r] ∧ r.crops = [o] ∧ o.due ≤ 100 ∧ o.reads.length = dC1 r.desc := by decide +kernel
theorem hyp_ArrayArithmetic : ([[(2 : Byte)], [3]] : List (List Byte)).length = [some (4 : Int), none].length ∧ dWFmt layer = 0 ∧ (127 : Nat) < dNCols (BitVec.ofNat 1024 (128 * 2 ^ 95))
    ∧ (0 : Nat) < 1 ∧ (1 : Nat) < 2 ∧ fUnpack binary32 0x43FF8000 = .fin false 16744448 (-15) := by decide +kernel
theorem hyp_ArrayArithmetic_bytes : e4m3Int 126 = some 229376 ∧ e4m3Int 127 = none ∧ e5m2Int 123 = some 3758096384 ∧ e5m2Int 124 = none := by decide +kernel
/-- 64 bytes from core memory to the activation buffer of logical tile 9, with IRQ. -/
def move : BitVec 512 := BitVec.ofNat 512 ((0x020009000000) * 2 ^ 464 + (0x020009240000) * 2 ^ 416 + 2 ^ 320 + 2 ^ 288 + 64 * 2 ^ 264 + 64 * 2 ^ 240 + 16)
/-- The same with nothing to move. -/
def moveNone : BitVec 512 := BitVec.ofNat 512 ((0x020009000000) * 2 ^ 464 + (0x020009240000) * 2 ^ 416 + 16)
/-- A fill of 64 bytes of HBM. -/
def fillHbm : BitVec 512 := BitVec.ofNat 512 (0x1000 * 2 ^ 416 + 2 ^ 288 + 64 * 2 ^ 240 + 32)
/-- Channel 7 of the DMA engine of a live tile. -/
def chan7 (c : Channel) : State := live fun t => { t with dma := { t.dma with ch := t.dma.ch.set 7 c } }
theorem hyp_DmaDescriptors_activate : (chan (chan7 { pend := [{ desc := move, t0 := 95, valid := true }] }) 5 7).active = none ∧ ({ desc := move, t0 := 95, valid := true } : DmaPend).t0 + 5 ≤ 100
    ∧ (chan (chan7 { pend := [{}] }) 5 7).freeAt < 100 ∧ descEmpty move = false ∧ descEmpty moveNone = true ∧ (100 : Nat) < ({ desc := move, t0 := 96, valid := true } : DmaPend).t0 + 5 := by decide +kernel
theorem hyp_DmaDescriptors_read : let r : DmaRun := { desc := move }
    let s := chan7 { active := some r }
    (chan s 5 7).active = some r ∧ mOp r.desc = 0 ∧ patEndpoint s 5 (srcPattern r.desc) = .mem .core
    ∧ (readable s 5 r).find? (fun b => let port := portOf (.mem .core) (endpointOf s 5 (patAddr (srcPattern r.desc) b.1)).2
          !((writePorts s 5 fun _ => true).contains port) && !((readPorts s 5 7).contains port)) = some (0, 64)
    ∧ badByte (tile s 5).coreBad (endpointOf s 5 (patAddr (srcPattern r.desc) 0)).2 64 = none := by decide +kernel
theorem hyp_DmaDescriptors_deliver : let r : DmaRun := { desc := move, staged := [{ pos := 0, bytes := List.replicate 64 7, due := 100 }] }
    (chan (chan7 { active := some r }) 5 7).active = some r ∧ (∀ b ∈ r.staged, b.done = true ∨ (100 : Nat) < b.due ∨ b.err = 0) := by decide +kernel
theorem hyp_DmaDescriptors_write : let r : DmaRun := { desc := move, staged := [{ pos := 0, bytes := List.replicate 64 7, due := 99, done := true }] }
    let s := chan7 { active := some r }
    nextWrite s 5 r = some (0, List.replicate 64 7) ∧ patEndpoint s 5 (dstPattern r.desc) = .mem .act ∧ replaying s 5 = false
    ∧ portOpen s 5 (.mem .act) (endpointOf s 5 (patAddr (dstPattern r.desc) 0)).2 = true ∧ portOf (.mem .act) (endpointOf s 5 (patAddr (dstPattern r.desc) 0)).2 ∉ (writePorts s 5 fun k => k < 7) := by decide +kernel
theorem hyp_DmaDescriptors_complete : let r : DmaRun := { desc := move, written := 64, effect := 99 }
    let s := chan7 { active := some r }
    r.stopping = 0 ∧ r.aborting = false ∧ descDone s 5 7 r = true ∧ descDone s 5 7 { desc := move, written := 63 } = false ∧ mIrq r.desc = true := by decide +kernel
theorem hyp_DmaDescriptors_memory : let r : DmaRun := { desc := fillHbm, written := 64, effect := 20 }
    let s := { chan7 { active := some r } with cycle := 200 }
    mOp r.desc = 1 ∧ patTotal (dstPattern r.desc) ≤ r.written ∧ writesLanded s 5 7 r = true ∧ patEndpoint s 5 (dstPattern r.desc) = .hbm ∧ r.effect + 180 ≤ s.cycle := by decide +kernel
theorem hyp_DmaDescriptors_abort : let r : DmaRun := { desc := move, aborting := true, effect := 99 }
    let s := chan7 { active := some r }
    r.stopping = 0 ∧ r.aborting = true ∧ (∀ b ∈ r.staged, b.done = true) ∧ nextWrite s 5 r = none ∧ writesLanded s 5 7 r = true := by decide +kernel
theorem hyp_DmaDescriptors_stop : let r : DmaRun := { desc := move, stopping := 1, effect := 98 }
    let s := live fun t => { t with dma := { t.dma with stopping := some 99, ch := t.dma.ch.set 7 { active := some r } } }
    (tile s 5).dma.stopping = some 99 ∧ (99 : Nat) < s.cycle ∧ stopDone s 5 7 r = true ∧ (tile (live id) 5).dma.stopping = none := by decide +kernel
theorem hyp_DmaDescriptors_stop_others : ∀ k : Fin 8, k ≠ 7 → (chan (live fun t => { t with dma := { t.dma with stopping := some 99, ch := t.dma.ch.set 7 { active := some { stopping := 1 } } } }) 5 k).active = none := by decide +kernel
/-- The queue engine at a slot of the intake, with one item of n bytes waiting. -/
def slotS (n : Nat) : State := { State.reset with cycle := 100, queues := { State.reset.queues with used := [0, 2], intake := [{ queue := 1023, bytes := List.replicate n 7 }] } }
theorem hyp_QueueOperations : (slotS 64).queues.slotAt ≠ 101 ∧ sinceBoundary (slotS 64) % 4 = 0 ∧ holderOf (slotS 64) (sinceBoundary (slotS 64) % 64) = none ∧ (1023 : Nat) < 1024
    ∧ 0 < poolFree (slotS 64) ∧ (slotS 64).queues.used.Pairwise (· < ·) ∧ memWf (slotS 64).meadow.mem = true ∧ (slotS 64).queues.ptrA = (slotS 64).queues.ptrB
    ∧ headItem { items := [{ prio := 1, cells := [0] }, { prio := 2, cells := [1] }] } = some { prio := 2, cells := [1] }
    ∧ ({ slotS 1 with queues := { (slotS 1).queues with slotAt := 101 } }).queues.slotAt = (slotS 1).cycle + 1 := by decide +kernel
/-- A partial write of granule 9. -/
def part9 : State := { State.reset with cycle := 50, hbm := { State.reset.hbm with partials := [{ granule := 9, bytes := [(576, 3)], at_ := 10 }] } }
theorem hyp_MemoryCommands : part9.hbm.partials = [{ granule := 9, bytes := [(576, 3)], at_ := 10 }] ∧ (10 : Nat) + 40 ≤ part9.cycle ∧ refreshing { part9 with cycle := 200 } (pseudoOf 9) = false
    ∧ (49 : Nat) < 10 + 40 ∧ (∀ x ∈ part9.hbm.partials, x.granule ≠ 8) := by decide +kernel
theorem hyp_MemoryCommands_refresh : refreshStarts State.reset 31 = false ∧ refreshStarts { State.reset with cycle := 60 * 31 } 31 = true
    ∧ badSymbols State.reset (State.reset.hbm.patrolPos[(31 : Fin 32)] * 32 + 31) = []
    ∧ (badSymbols { State.reset with hbm := { State.reset.hbm with flips := [(64 * 31 + 62, 1), (64 * 31 + 63, 128)] } } (State.reset.hbm.patrolPos[(31 : Fin 32)] * 32 + 31)).length = 1
    ∧ State.reset.hbm.patrolPos[(31 : Fin 32)] + 1 < 12582912 := by decide +kernel
/-- Row 786432 is queued for repair, with n spare rows of its pseudo-channel used. -/
def repair (n : Nat) : State := { State.reset with hbm := { State.reset.hbm with repairs := [786432], remaps := (List.range n).map fun i => { row := 786433 + i, spare := i } } }
theorem hyp_MemoryCommands_repair : (786432 : Nat) ∈ (repair 7).hbm.repairs ∧ spareRow (repair 7) (786432 / 786432) = some 7 ∧ spareRow (repair 8) (786432 / 786432) = none ∧ (0 : Nat) ∉ (repair 7).hbm.repairs := by decide +kernel
theorem hyp_MemoryCommands_refill : let r : PlanRegion := { kind := 1, base := meadowBase + 128, length := 128 }
    r.source = 0 ∧ r.base ≤ meadowBase + 1 * 128 ∧ meadowBase + 1 * 128 + 128 ≤ r.base + r.length ∧ memWf State.reset.meadow.mem = true
    ∧ (1 : Nat) ∈ ({ State.reset with meadow := { State.reset.meadow with refills := [1] } }).meadow.refills ∧ (1 : Nat) ∉ State.reset.meadow.refills := by decide +kernel
theorem hyp_MemoryCommands_scrub : let t := tile (on5 fun t => { t with scrubUntil := some 100 }) 5
    t.scrubUntil = some 100 ∧ memWf t.core = true ∧ memWf t.wbuf = true ∧ memWf t.abuf = true ∧ memWf t.vob = true ∧ (∀ e, (tile (on5 id) 5).scrubUntil = some e → e = 0 ∨ 100 < e) :=
  ⟨by decide +kernel, by decide +kernel, by decide +kernel, by decide +kernel, by decide +kernel, fun _ h => (nomatch h)⟩

/-- Port 0 up; context 1023 in a state, of codec 1, on UDP port 5004 and SSRC 7, with a ring of 64 KiB, its bucket full. -/
def stream (st : Nat) : State :=
  let s := { State.reset with cycle := 100, intake := { State.reset.intake with ctx := [(1023, { state := st, high := some 65535, tokens := 4 * 3000 * 500000000000 })] } }
  modPort (withCfg [(oCtxUdpPort 1023, 5004), (oCtxSsrc 1023, 7), (oCtxCodec 1023, 1), (oCtxRingSize 1023, 65536), (oCtxMaxLuma 1023, 1000), (oCtxMaxFps 1023, 1)] s) 0 fun p => { p with link := true }
/-- An RTP packet of payload type 96 and SSRC 7 with one NAL unit of type 1. -/
def rtp (marker : Bool) (seq : Nat) : List Byte := [0x80, if marker then 0xE0 else 0x60] ++ beBytes 2 seq ++ beBytes 4 9000 ++ beBytes 4 7 ++ [0x41, 1, 2]
/-- It in a datagram to the context. -/
def rtpFrame (marker : Bool) (seq : Nat) : InFrame := { head := { len := 100, vid := none, sec := none }, rtag := none, src := List.replicate 16 0, dst := List.replicate 16 0, sport := 9, dport := 5004, payload := rtp marker seq }
theorem hyp_RtpIntake_match : (udpIngress (stream 3) 0 (rtpFrame true 0)).1 = true ∧ (parseRtp (rtp true 0)).map (fun r => (r.seq, r.marker, leAt r.payload 0 1 % 32)) = some (0, true, 1)
    ∧ (parseRtp (rtp false 0)).map (fun r => matchContext (udpIngress (stream 3) 0 (rtpFrame false 0)).2 0 (rtpFrame false 0) r) = some (some 1023) := by decide +kernel
theorem hyp_RtpIntake_context : (ctxOf (stream 3) 1023).high = some 65535 ∧ (0 + 65536 - 65535) % 65536 = 1 ∧ (32767 + 65536 - 65535) % 65536 = 32768 ∧ 32768 < (32768 + 65536 - 65535) % 65536 ∧ (65535 + 65536 - 65535) % 65536 = 0
    ∧ cfgNat (stream 3) (oCtxCodec 1023) = 1 ∧ (ctxOf (stream 3) 1023).unit = none ∧ (ctxOf (stream 2) 1023).state = 2 ∧ (ctxOf (stream 3) 1023).state = 3 := by decide +kernel
theorem hyp_RtpIntake_room : 4 * (4 + 3) ≤ cfgNat (stream 3) (oCtxRingSize 1023) ∧ ringHeld (stream 3) 1023 + (4 + 3) ≤ cfgNat (stream 3) (oCtxRingSize 1023) ∧ unitAdmitted (stream 3) 1023 = true
    ∧ (cfgNat (stream 3) (oCtxMaxLuma 1023) + 2000) * 500000000000 ≤ tokensNow (stream 3) 1023 := by decide +kernel
theorem hyp_RtpIntake_refused : (udpIngress State.reset 0 (rtpFrame true 0)).1 = false ∧ (parseRtp [0x40]).isNone = true := by decide +kernel
/-- Context 3 runs and its queue holds one item of cell 0, at a slot of the decode engines. -/
def decodes (f : Ctx → Ctx) : State :=
  { State.reset with cycle := 1, queues := { State.reset.queues with used := [0], ptrA := [(3, { items := [{ cells := [0] }] })], ptrB := [(3, { items := [{ cells := [0] }] })] }, intake := { State.reset.intake with ctx := [(3, f { state := 3 })] } }
theorem hyp_DecodeUnits_take : sinceBoundary (decodes id) % 4 = 1 ∧ (List.finRange 9).find? (fun g => engineServes (decodes id) g && ((decodes id).intake.engines[g]).job.isNone) = some 0
    ∧ earliest (decodes id) = some (3, { cells := [0] }) ∧ (readItem (decodes id) [0]).2 = 0 ∧ leAt (readItem (decodes id) [0]).1 6 2 % 2 = 0 ∧ (ctxOf (decodes id) 3).gapSkip = false
    ∧ earliest State.reset = none := by decide +kernel
theorem hyp_DecodeUnits_damaged : leAt (readItem { decodes id with meadow := { (decodes id).meadow with mem := [(0x0FC00006, 1)] } } [0]).1 6 2 % 2 = 1 := by decide +kernel
/-- Engine 8 decodes a unit of context 3. -/
def decoding (now : Nat) : State := { State.reset with cycle := now, intake := { State.reset.intake with ctx := [(3, { state := 3, engine := some 8 })], engines := State.reset.intake.engines.set 8 { job := some { ctx := 3, item := List.replicate 128 0, start := 5 } } } }
theorem hyp_DecodeUnits_done : ((decoding 9).intake.engines[(8 : Fin 9)]).job = some { ctx := 3, item := List.replicate 128 0, start := 5 } ∧ (State.reset.intake.engines[(8 : Fin 9)]).job = none
    ∧ (State.reset.intake.engines[(8 : Fin 9)]).failed = false ∧ freeSlot (withCfg [(oCtxDpbSlots 3, 1)] (decoding 9)) 3 = some 0 := by decide +kernel
theorem hyp_DecodeUnits_times (w h len : Nat) : (1004 : Nat) < 5 + (1000 + max (ceilDiv (w * h) 2) len) ∧ 5 + (1000 + max (ceilDiv (w * h) 2) len) ≤ 5 + (1000 + max (ceilDiv (w * h) 2) len) := by omega
/-- Port 1 as given. -/
def port1 (p : Port) : State := modPort (setDomain { State.reset with cycle := 100 } 85 0) 1 fun _ => p
/-- A frame without a tag. -/
def plain (n : Nat) : L2Head := { len := n, vid := none, sec := none }
theorem hyp_EthernetPorts_link : domainState (port1 {}) (84 + (1 : Fin 2).val) = 0 ∧ domainState State.reset (84 + (1 : Fin 2).val) ≠ 0 ∧ (port1 {}).power.ethRefclk = true ∧ (ethPort (port1 {}) 1).link = false ∧ (ethPort (port1 { link := true }) 1).link = true := by decide +kernel
theorem hyp_EthernetPorts_verify : (ethPort (port1 { link := true, preempt := 1, verifies := 3 }) 1).preempt = 1 ∧ 3 ≤ (ethPort (port1 { link := true, preempt := 1, verifies := 3 }) 1).verifies
    ∧ (ethPort (port1 { link := true, preempt := 1, verifies := 2 }) 1).verifies < 3 ∧ (ethPort (port1 {}) 1).queue = [] ∧ (ethPort (port1 {}) 1).gcl.count = 0 ∧ (ethPort (port1 { link := true }) 1).preempt ≠ 1 := by decide +kernel
theorem hyp_EthernetPorts_gates : let n := nowNs (port1 {})
    (ethPort (port1 { gclNext := some {}, gclNextAt := n }) 1).gclNextAt ≤ nowNs (port1 { gclNext := some {}, gclNextAt := n }) ∧ nowNs (port1 { gclNext := some {}, gclNextAt := n + 1 }) < (ethPort (port1 { gclNext := some {}, gclNextAt := n + 1 }) 1).gclNextAt
    ∧ (ethPort (port1 { gclNext := some {} }) 1).gclNext = some {} ∧ (ethPort (port1 { gcl := { count := 1 } }) 1).gcl.count ≠ 0 ∧ (ethPort (port1 {}) 1).gclNext = none := by decide +kernel
theorem hyp_EthernetPorts_streams : smFind ({ State.reset with eth := { State.reset.eth with frer := [(255, {})] } }).eth.frer (255 : BitVec 8).toNat = some {} ∧ smFind State.reset.eth.frer (0 : BitVec 8).toNat = none
    ∧ cfgOn (port1 { link := true }) (oMacsecEnable 1) = false ∧ (plain 1600).len ≤ 1600 ∧ 1600 < (plain 1601).len := by decide +kernel
/-- Port 1 up with IPv4 address 10.0.0.1. -/
def ip1 : State := cfgPut (port1 { link := true }) (oPortIpv4 1) [10, 0, 0, 1]
theorem hyp_AddressAnswers : portSecured ip1 1 = true ∧ (ethPort ip1 1).queue = [] ∧ (ethPort ip1 1).gcl.count = 0 ∧ (ingress ip1 1 (plain 64)).1 = true ∧ (ingress ip1 1 (plain 1601)).1 = false
    ∧ cfgBytes ip1 (oPortIpv4 1) = [10, 0, 0, 1] ∧ allZero ([10, 0, 0, 1] : List Byte) = false ∧ ([10, 0, 0, 2] : List Byte) ≠ cfgBytes ip1 (oPortIpv4 1)
    ∧ isV4 (linkLocal ip1 1) = false ∧ linkLocal ip1 1 ∈ ownAddrs ip1 1 ∧ smFind ip1.cfg oQciFilters = none ∧ (v4Lead ++ [10, 0, 0, 1]) ∈ ownAddrs ip1 1 ∧ (v4Lead ++ [10, 0, 0, 2]) ∉ ownAddrs ip1 1
    ∧ allZero (linkLocal ip1 1) = false := by decide +kernel
/-- Context 1023 waits for its first IDR unit on group 239.0.0.1, its join due on both ports. -/
def joined : State :=
  let s := cfgPut (withCfg [(oCtxPort 1023, 2)] ip1) (oCtxDstAddr 1023) (v4Lead ++ [239, 0, 0, 1])
  { s with intake := { s.intake with ctx := [(1023, { state := 2 })], joinAt := [(1, 1023, false), (0, 1023, true)] } }
theorem hyp_AddressAnswers_groups : (memberships joined 1).filter (fun j => queried (List.replicate 4 0) j.1) = [(v4Lead ++ [239, 0, 0, 1], [])]
    ∧ (memberships ip1 1).filter (fun j => queried (List.replicate 4 0) j.1) = []
    ∧ ((1 : Fin 2).val, (1023 : BitVec 10).toNat, false) ∈ joined.intake.joinAt ∧ ((0 : Fin 2).val, (1023 : BitVec 10).toNat, true) ∈ joined.intake.joinAt ∧ ((0 : Fin 2).val, (1023 : BitVec 10).toNat, false) ∉ joined.intake.joinAt
    ∧ ((1 : Fin 2).val, (1023 : BitVec 10).toNat, true) ∉ joined.intake.joinAt := by decide +kernel
/-- Port 1 with MACsec and its key, of priority 16. -/
def mka (p : Port) : State :=
  let s := withCfg [(oMacsecEnable 1, 1)] (port1 { p with link := true })
  { s with keep := { s.keep with cak := [(1, List.replicate 32 1)] } }
theorem hyp_KeyAgreementAndGptp_mka : mkaActive (mka {}) 1 = true ∧ mkaActive (port1 { link := true }) 1 = false ∧ (∃ p ∈ (ethPort (mka { peers := [{ sci := 9 }] }) 1).peers, p.sci = (9 : Word).toNat)
    ∧ 4 ≤ (ethPort (mka { peers := List.replicate 4 { sci := 9 } }) 1).peers.length ∧ (∀ p ∈ (ethPort (mka { peers := List.replicate 4 { sci := 9 } }) 1).peers, p.sci ≠ (8 : Word).toNat)
    ∧ (ethPort (mka { peers := List.replicate 3 { sci := 9 } }) 1).peers.length < 4 ∧ keyServer (mka {}) 1 = true ∧ cfgNat (mka {}) (oMacsecKeyServerPriority 1) < (17 : BitVec 8).toNat
    ∧ (15 : BitVec 8).toNat < cfgNat (mka {}) (oMacsecKeyServerPriority 1) ∧ (∀ p ∈ (ethPort (mka {}) 1).peers, p.sci ≠ (8 : Word).toNat) ∧ (ethPort (mka {}) 1).queue = [] ∧ (ethPort (mka {}) 1).gcl.count = 0 := by decide +kernel
/-- gPTP runs with port 1 its slave. -/
def ptp (other : Port) (p : Port) : State :=
  let s := modPort (port1 { p with link := true }) 0 fun _ => other
  { s with eth := { s.eth with ptpState := 1, slave := 1 }, power := { s.power with phase := 7 }, ctrl := { s.ctrl with lock := 2 } }
theorem hyp_KeyAgreementAndGptp_gptp : (ingress (ptp {} { asCapable := true }) 1 (plain 64)).1 = true ∧ (ethPort (ptp {} { asCapable := true }) 1).asCapable = true ∧ (ptp {} {}).eth.ptpState = 1 ∧ (ptp {} {}).eth.slave = (1 : Fin 2).val
    ∧ cfgNat (ptp {} {}) oTickSource = 1 ∧ (ptp {} {}).power.phase = 7 ∧ (ethPort (ptp {} {}) 1).asCapable = false ∧ (ethPort (ptp { gm := [] } {}) (1 - 1)).gm = [] ∧ (5 : BitVec 64).toNat < (ethPort (ptp { gm := [1], gmPrio := 6 } {}) (1 - 1)).gmPrio
    ∧ portUp (port1 {}) 1 = false ∧ portSecured (ptp {} {}) 1 = true ∧ (7 : BitVec 16).toNat = (ethPort (ptp {} { pdelaySeq := 7 }) 1).pdelaySeq ∧ (8 : BitVec 16).toNat ≠ (ethPort (ptp {} { pdelaySeq := 7 }) 1).pdelaySeq
    ∧ (ethPort (ptp { synced := true } {}) (1 - 1)).synced = true ∧ (ethPort (ptp {} {}) (1 - 1)).synced = false ∧ (ethPort (ptp {} {}) (1 - 1)).asCapable = false ∧ (ptp {} {}).ctrl.lock ≠ 0 ∧ State.reset.eth.ptpState ≠ 1 := by decide +kernel

/-- One alarm that has reached the egress. -/
def alarm1 : State := { modPort { State.reset with cycle := 100 } 0 (fun p => { p with link := true }) with eth := { (modPort State.reset 0 (fun p => { p with link := true })).eth with alarms := [{ due := 100 }] } }
theorem hyp_ResultsAndSeals_alarm : alarm1.eth.alarms = [{ due := 100 }] ∧ ({ due := 100 } : AlarmTx).due ≤ alarm1.cycle ∧ cfgNat (withCfg [(oAlarmPorts, 1)] alarm1) oAlarmPorts = 1 ∧ (ethPort (withCfg [(oAlarmPorts, 1)] alarm1) 0).link = true
    ∧ portSecured alarm1 0 = true ∧ (ethPort alarm1 0).queue = [] ∧ (ethPort alarm1 0).gcl.count = 0 ∧ (∀ x ∈ State.reset.eth.alarms, State.reset.cycle < x.due) := by decide +kernel
/-- A record of one cell at the head of queue 1,032, its bytes as given. -/
def egress (len : Nat) (item msg : Option Nat) (bad : Byte) : State :=
  { State.reset with cycle := 2, meadow := { State.reset.meadow with mem := if bad = 0 then [] else [(0x0FC00000, bad)] }, queues := { State.reset.queues with used := [0], ptrA := [(1032, { items := [{ cells := [0], len := len, item := item, msg := msg }] })] } }
theorem hyp_ResultsAndSeals_record : let s := egress 56 (some 1) none 0
    sinceBoundary s % 4 = 2 ∧ s.ctrl.down = none ∧ headItem (queueOf s 1032) = some { cells := [0], len := 56, item := some 1 } ∧ (readItem s [0]).2 = 0
    ∧ wellFormedRecord ((readItem s [0]).1.take 56) 56 = true ∧ wellFormedRecord ((readItem (egress 56 (some 1) none 1) [0]).1.take 56) 56 = false ∧ wellFormedRecord ((readItem s [0]).1.take 55) 55 = false := by decide +kernel
theorem hyp_ResultsAndSeals_message : let s := { egress 56 none (some 4) 0 with ctrl := { State.reset.ctrl with msgs := [(4, { kind := 2 })] } }
    headItem (queueOf s 1032) = some { cells := [0], len := 56, msg := some 4 } ∧ (smGet {} s.ctrl.msgs 4).item = none ∧ (smGet {} s.ctrl.msgs 4).alarm = none ∧ (smGet {} s.ctrl.msgs 4).ended = none ∧ (smGet {} s.ctrl.msgs 4).kind = 2 := by decide +kernel
theorem hyp_ResultsAndSeals_wait : sinceBoundary { State.reset with cycle := 3 } % 4 ≠ 2 ∧ headItem (queueOf State.reset 1032) = none ∧ setOf { State.reset with ctrl := { State.reset.ctrl with sets := [{ tick := 7 }] } } 7 = some { tick := 7 } := by decide +kernel
/-- One open record set. -/
def sets (x : TickSet) : State := { State.reset with ctrl := { State.reset.ctrl with sets := [x] } }
theorem hyp_ResultsAndSeals_close : (sets {}).ctrl.sets = [{}] ∧ itemsRecorded (sets {}) 0 = true ∧ ({} : TickSet).alarms = 0 ∧ anyHandler (sets {}) = false ∧ itemsRecorded { sets {} with ctrl := { (sets {}).ctrl with items := [(0, {})] } } 0 = false
    ∧ anyHandler (modTile (sets {}) 71 fun t => { t with c0run := some {} }) = true ∧ (sets { message := some [] }).ctrl.sets = [{ message := some [] }] ∧ (sets {}).ctrl.enclaveFails < 2 ∧ State.reset.ctrl.sets = [] := by decide +kernel
theorem hyp_ResultsAndSeals_leaves : leafLe { ctx := 1, job := 2 } { ctx := 1, job := 3 } = true := by decide +kernel
/-- The part in operation, c tile cycles after a boundary, its controller as given. -/
def op (c : Nat) (f : Ctrl → Ctrl) : State := { State.reset with cycle := c, power := { State.reset.power with phase := 8 }, ctrl := f { State.reset.ctrl with guard := false } }
theorem hyp_TicksAndSteps_boundary : boundaryDue State.reset = false ∧ boundaryDue (withCfg [(oTickSource, 0)] (op 33333334 fun c => { c with guard := true })) = true ∧ (op 0 id).alaust.accepted = [] ∧ (op 0 id).alaust.lcTo = none
    ∧ (op 0 id).power.phase = 8 ∧ ticking State.reset = false := by decide +kernel
theorem hyp_TicksAndSteps_steps : ticking (op 8192 id) = true ∧ (op 8192 id).ctrl.guard = false ∧ (op 8192 id).ctrl.step + 1 < stepsNow (op 8192 id) ∧ (op 8192 id).ctrl.boundary + 8192 * ((op 8192 id).ctrl.step + 1) ≤ (op 8192 id).cycle := by decide +kernel
theorem hyp_TicksAndSteps_guard : let s := op (8192 * 4068) fun c => { c with step := 4067 }
    stepsNow s = 4068 ∧ stepsNow s ≤ s.ctrl.step + 1 ∧ s.ctrl.boundary + 8192 * stepsNow s ≤ s.cycle := by decide +kernel
/-- With load balancing on, tile 5 is free, and item 6 heads queue 1,031. -/
def shared : State :=
  let s := withCfg [(oPlanLoadBalance, 1)] (op 100 fun c => { c with runs := true, items := [(6, { job := 3 })] })
  { s with tiles := s.tiles.set 5 { s.tiles[5] with power := 0, role := 0, logical := 0 }, queues := { s.queues with used := [0], ptrA := [(1031, { items := [{ cells := [0], item := some 6 }] })] } }
theorem hyp_TicksAndSteps_shared : ticking shared = true ∧ shared.ctrl.runs = true ∧ shared.ctrl.guard = false ∧ cfgOn shared oPlanLoadBalance = true ∧ takesNext shared 5 = true ∧ sharedHead shared = some (1031, { cells := [0], item := some 6 })
    ∧ (readItem shared [0]).2 = 0 ∧ takesNext shared 4 = false ∧ sharedHead State.reset = none := by decide +kernel
/-- An attempt that has run too long on tile 5. -/
def late (n : Nat) : State := modTile (op (8192 * 9) fun c => { c with step := n }) 5 fun t => { t with run := some {} }
theorem hyp_TicksAndSteps_timeout : allowedSteps (late 3) (tile (late 3) 5) {} * 8192 < liveCycles {} (stepCycle (late 3) (late 3).ctrl.step) ∧ ¬ allowedSteps (late 2) (tile (late 2) 5) {} * 8192 < liveCycles {} (stepCycle (late 2) (late 2).ctrl.step) := by decide +kernel
theorem hyp_TicksAndSteps_timeout_none : ∀ r, (tile State.reset 4).run = some r → (ticking State.reset && !State.reset.ctrl.guard && decide (allowedSteps State.reset (tile State.reset 4) r * 8192 < liveCycles r (stepCycle State.reset State.reset.ctrl.step))) = false := fun _ h => nomatch h
/-- TICK_IN is the source; the last edge was e cycles ago. -/
def edges (phase : Nat) (e : Option Nat) (missed : Nat) : State :=
  let s := withCfg [(oTickSource, 2)] (op 100000000 fun c => { c with edgeAt := e, edgesMissed := missed, lock := 2 })
  { s with power := { s.power with phase := phase } }
theorem hyp_TicksAndSteps_edges : cfgNat (edges 7 none 0) oTickSource = 2 ∧ (edges 7 none 0).power.phase = 7 ∧ (edges 7 none 0).power.cut = none ∧ (edges 7 none 0).ctrl.edgeAt = none ∧ (edges 8 none 0).ctrl.guard = false
    ∧ edgeError (edges 8 (some (100000000 - 33333333)) 0) (100000000 - pNom (periodN (edges 8 none 0)) (periodD (edges 8 none 0))) ≤ cfgNat (edges 8 none 0) oTickTickInWindow
    ∧ cfgNat (edges 8 none 0) oTickTickInWindow < edgeError (edges 8 none 0) 99999999 ∧ cfgNat (edges 8 none 4) oTickTickInLoss ≤ (edges 8 none 4).ctrl.edgesMissed ∧ (edges 8 none 4).ctrl.lock ≠ 3
    ∧ (edges 8 none 3).ctrl.edgesMissed < cfgNat (edges 8 none 3) oTickTickInLoss ∧ cfgNat State.reset oTickSource ≠ 2 := by decide +kernel
theorem hyp_TicksAndSteps_frames : cfgNat (withCfg [(oTickSource, 3)] (op 0 fun c => { c with lock := 2 })) oTickSource = 3 ∧ (op 0 fun c => { c with lock := 2 }).ctrl.lock ≠ 0 ∧ State.reset.ctrl.lock = 0 := by decide +kernel
theorem hyp_SavesAndStore_pause : let s := op 0 fun c => { c with paused := true, saving := true }
    s.ctrl.paused = true ∧ s.ctrl.saving = true ∧ s.ctrl.plan = none ∧ (op 0 id).ctrl.saving = false ∧ (op 0 id).ctrl.verify ≠ 1 := by decide +kernel
/-- Without a plan nothing is carried. -/
theorem saveDigest_of_no_plan {s : State} (h : s.ctrl.plan = none) : (saveDigest s).1 = sha384 [] := by
  unfold saveDigest; rw [h]
theorem no_save (d : List Byte) : (op 0 fun c => { c with verify := 1 }).ctrl.save ≠ some d := fun h => nomatch h
theorem resume_verifies (d : List Byte) (h : d = sha384 []) : let s := op 0 fun c => { c with verify := 1, save := some d }
    s.ctrl.verify = 1 ∧ s.ctrl.save = some (saveDigest s).1 ∧ (op 0 fun c => { c with verify := 1 }).ctrl.save ≠ some (saveDigest (op 0 fun c => { c with verify := 1 })).1 := by
  refine ⟨rfl, ?_, no_save _⟩
  rw [saveDigest_of_no_plan rfl]
  exact congrArg some h
theorem hyp_SavesAndStore_verify : let s := op 0 fun c => { c with verify := 1, save := some (sha384 []) }
    s.ctrl.verify = 1 ∧ s.ctrl.save = some (saveDigest s).1 ∧ (op 0 fun c => { c with verify := 1 }).ctrl.save ≠ some (saveDigest (op 0 fun c => { c with verify := 1 })).1 := resume_verifies (sha384 []) rfl
theorem hyp_SavesAndStore_checkpoint : let p : Plan := { regions := [{ kind := 3 }] }
    let s := op 0 fun c => { c with checkpoint := some 7, plan := some p, loading := true }
    s.ctrl.checkpoint = some 7 ∧ s.ctrl.plan = some p ∧ p.regions.find? (fun r => r.kind = 3) = some { kind := 3 } ∧ checkpointContexts s = [] ∧ (s.keep.pos + recLen (.cpCommit 7 p.cpLayout p.digest 0)) / 65536 + 2 ≤ s.keep.ready
    ∧ s.ctrl.loading = true ∧ (op 0 id).ctrl.checkpoint = none ∧ (op 0 id).ctrl.loading = false := by decide +kernel
/-- A package of one byte whose blocks have been written. -/
def saved : State := { State.reset with saving := [{ digest := [1], bytes := [7] }] }
theorem hyp_SavesAndStore_store : saved.saving.find? (fun p => p.digest = [1]) = some { digest := [1], bytes := [7] } ∧ storePlace saved 1 = some (0, 0) ∧ saved.saving.find? (fun p => p.digest = [2]) = none := by decide +kernel
/-- No room: no device is fitted. -/
theorem hyp_SavesAndStore_full : storePlace { saved with part := { saved.part with devices := 0 } } 1 = none := by decide +kernel
theorem hyp_SavesAndStore_firmware : let s := { State.reset with fw := { State.reset.fw with state := 3, image := [0, 0, 0, 0, 0, 0, 0, 1, 9] } }
    s.fw.state = 3 ∧ leAt s.fw.image 7 1 % 2 = 1 ∧ leAt ([] : List Byte) 7 1 % 2 = 0 ∧ State.reset.fw.state ≠ 3 ∧ State.reset.fw.state ≠ 2 ∧ ({ s with fw := { s.fw with state := 2 } }).fw.state = 2 ∧ s.alaust.held = [] := by decide +kernel

/-- The part in operation and DEPLOYED, port 0 up, with session 65535 open and as given. -/
def host (x : Session) : State :=
  let s := modPort (op 100 id) 0 fun p => { p with link := true }
  { s with keep := { s.keep with otp := { s.keep.otp with lc := 2 } }, alaust := { s.alaust with sessions := [{ x with num := 65535 }] } }
/-- A datagram to Alaust of a length. -/
def toHost (n : Nat) : InFrame := { head := plain 100, rtag := none, src := List.replicate 16 9, dst := linkLocal (host {}) 0, sport := 9, dport := 45820, payload := List.replicate n 0 }
/-- A PROTECTED datagram to Alaust: the outer header, then as many bytes as make a length. -/
def protFrame (n : Nat) : InFrame := { toHost 0 with payload := outerHeader 5 65535 1 ++ List.replicate (n - 16) 0 }
/-- A PROTECTED datagram of session 65535. -/
def msg (c : Nat) (ok : Bool) (count : Nat) : AMsg := { e := 0, frame := protFrame 40, session := 65535, counter := BitVec.ofNat 64 c, ok := ok, flags := 0, req := 7, count := BitVec.ofNat 16 count, code := 0 }
theorem hyp_AlaustSessions_frame : alaustServed (host {}) = true ∧ alaustServed State.reset = false ∧ (udpIngress (host {}) 0 (toHost 1400)).1 = true ∧ toAlaust (udpIngress (host {}) 0 (toHost 1400)).2 0 (toHost 1400) = true := by decide +kernel
theorem hyp_AlaustSessions_hello : helloOk (leBytes 1 1 ++ leBytes 1 1 ++ List.replicate 1230 0) = true ∧ helloOk (leBytes 1 1 ++ leBytes 1 1 ++ List.replicate 1229 0) = false ∧ (host {}).alaust.shakes.length < 4
    ∧ 4 ≤ ({ host {} with alaust := { (host {}).alaust with shakes := List.replicate 4 {} } }).alaust.shakes.length ∧ (host {}).ctrl.trng ≠ 255 ∧ ({ host {} with ctrl := { (host {}).ctrl with trng := 255 } }).ctrl.trng = 255
    ∧ (host {}).alaust.sessions.length ≤ 4 := by decide +kernel
/-- One handshake at level Expert, with an owner key in slot 3. -/
def shake : State :=
  let s := host {}
  cfgPut { s with alaust := { s.alaust with shakes := [{ num := 1, expert := true, slot := 3 }] } } oLcOwnerKeys (List.replicate 294 0 ++ List.replicate 97 5 ++ [2])
theorem hyp_AlaustSessions_proof : shake.alaust.shakes.find? (fun x => x.num = (1 : BitVec 16).toNat) = some { num := 1, expert := true, slot := 3 } ∧ shake.alaust.shakes.find? (fun x => x.num = (2 : BitVec 16).toNat) = none
    ∧ (ownerKey shake 3 true).isSome = true ∧ ownerKey shake 3 false = none ∧ ownerKey shake 4 true = none ∧ shake.alaust.sessions.length < 4 := by decide +kernel
theorem hyp_AlaustSessions_receive : (receive (host {}) (msg 1 true 0)).1 = true ∧ (receive (host {}) (msg 1 true 0)).2.fw.state ≠ 2 ∧ (receive (host {}) (msg 1 false 0)).1 = false
    ∧ sessionOf (receive (host {}) (msg 1 true 0)).2 65535 ≠ none ∧ (sessionOf (host {}) (65535 : BitVec 16).toNat).isSome = true ∧ sessionOf (host {}) (1 : BitVec 16).toNat = none ∧ (toHost 1400).payload.length ≤ 1400 := by decide +kernel
theorem hyp_AlaustSessions_window : (37 : BitVec 64).toNat + 64 ≤ 101 ∧ 101 < (38 : BitVec 64).toNat + 64 ∧ (38 : BitVec 64).toNat ∉ ([101] : List Nat) ∧ (101 : BitVec 64).toNat ∈ ([101] : List Nat) ∧ (0xFFFFFFFFFFFF : BitVec 64).toNat < 2 ^ 48 := by decide
/-- A record in the ring, sent n times to the session; another raised. -/
def noted (n : Nat) : State :=
  let s := host { notify := [(4, n)] }
  { s with alaust := { s.alaust with raised := [{ code := 3 }], ring := [{ nseq := 4 }] } }
theorem hyp_AlaustSessions_notes : (noted 7).alaust.raised = [{ code := 3 }] ∧ (noted 7).alaust.sessions = [{ num := 65535, notify := [(4, 7)] }] ∧ ({ num := 65535, notify := [(4, 7)] } : Session).txNext < 2 ^ 48
    ∧ ([(4, 7)] : List (Nat × Nat)).find? (fun n => n.1 = (4 : BitVec 64).toNat) = some (4, 7) ∧ (noted 7).alaust.ring.find? (fun n => n.nseq = (4 : BitVec 64).toNat) = some { nseq := 4 } ∧ (7 : Nat) < 8 ∧ (8 : Nat) ≤ 8
    ∧ (∀ n ∈ ([(4, 7)] : List (Nat × Nat)), n.1 ≠ (5 : BitVec 64).toNat) ∧ (noted 7).alaust.ring.length ≤ 256 ∧ State.reset.alaust.raised = [] ∧ (ethPort (noted 7) 0).link = true ∧ portSecured (noted 7) 0 = true
    ∧ (ethPort (noted 7) 0).queue = [] ∧ (ethPort (noted 7) 0).gcl.count = 0 := by decide +kernel
/-- The session a new request meets. -/
def asked : Session := (sessionOf (receive (host { expert := true }) (msg 1 true 1)).2 65535).getD {}
theorem hyp_AlaustRequests : NewRequest (host { expert := true }) (msg 1 true 1) (receive (host { expert := true }) (msg 1 true 1)).2 asked :=
  ⟨Prod.ext (by decide +kernel) rfl, by decide +kernel, by decide +kernel, by decide +kernel, by decide +kernel, by decide +kernel⟩
theorem hyp_AlaustRequests_header : (0 : BitVec 8).toNat < 2 ∧ (1 : BitVec 8).toNat < 2 ∧ 2 ≤ (2 : BitVec 8).toNat ∧ (msg 1 true 0).count.toNat = 0 ∧ (msg 1 true 1).count.toNat ≠ ([] : List AEntry).length := by decide
/-- ctx.ssrc of context 1023, four bytes. -/
def entry : AEntry := { index := 0x57FF, sub := 6, reserved := 0, offset := 0, length := 4, data := [1, 2, 3, 4] }
theorem hyp_AlaustRequests_write : entry.reserved = 0 ∧ entry.data ≠ [] ∧ entry.data.length = entry.length.toNat ∧ entry.length.toNat ≤ 1024 ∧ (objNow (host {}) (entryKey entry)).map (fun r => (r.acc, r.bool, spanOk r entry.offset.toNat entry.data.length)) = some (.rws, false, true)
    ∧ (stagePut [] (entryKey entry) entry.offset.toNat entry.data).length ≤ 262144 ∧ asked.expert = true := by decide +kernel
theorem hyp_AlaustRequests_repeat : let s := host { replies := [(7, [1])] }
    (receive s (msg 1 true 1)).1 = true ∧ (sessionOf (receive s (msg 1 true 1)).2 65535).map (fun x => x.replies.find? (fun r => r.1 = (msg 1 true 1).req.toNat)) = some (some (7, [1])) := by decide +kernel
theorem hyp_AlaustRequests_held : let s := { host {} with fw := { (host {}).fw with state := 2 } }
    (receive s (msg 1 true 1)).1 = true ∧ (receive s (msg 1 true 1)).2.fw.state = 2 ∧ (receive s (msg 1 false 1)).1 = false := by decide +kernel
theorem hyp_AlaustRequests_objects : objNow (host {}) 0xFFFFFF = none ∧ (objNow (host {}) oFaultClear).map (·.acc) = some .wo ∧ (objNow (host {}) oTickPeriod).map (fun r => (r.acc, r.expert, spanOk r 0 8, spanOk r 0 7, spanOk r 1 8)) = some (.rws, false, true, false, false)
    ∧ (objNow (host {}) oIdentityPart).map (·.acc) = some .const ∧ (objNow (host {}) oTickNumber).map (·.acc) = some .ro ∧ (objNow (host {}) oTickSlewLimit).map (·.expert) = some true ∧ writerExpert (host {}) (.session 65535) = false
    ∧ writerExpert (host { expert := true }) (.session 65535) = true ∧ (objNow (host {}) oTickTickOut).map (·.bool) = some true ∧ 1 < leNat ([2] : List Byte) ∧ (objNow (host {}) oAlarmPulseWidth).isSome = true := by decide +kernel
theorem hyp_CommandObjects_commit : writerThere (host {}) (rowWriter (some 65535)) = true ∧ writerThere (host {}) (rowWriter none) = true ∧ writerThere (host {}) (rowWriter (some 1)) = false ∧ (host {}).alaust.validating = [] ∧ (host {}).alaust.accepted = []
    ∧ tooLate (host {}) 0 = false ∧ ({} : Group).bytes = [] ∧ tooLate (op 0 fun c => { c with tick := 7 }) 7 = true := by decide +kernel
theorem hyp_CommandObjects_i2c : 5 ≤ (host {}).power.phase ∧ (host {}).power.phase ≤ 8 ∧ (host {}).power.cut = none ∧ (host {}).alaust.i2c.busy = false ∧ (host {}).fw.state ≠ 2 ∧ (64 : BitVec 8).toNat ≤ 64 ∧ (List.replicate 64 (0 : Byte)).length ≤ 64
    ∧ i2cReaches 0x4001 0x43 = true ∧ i2cReaches 0x4001 0x44 = false ∧ i2cReaches 0x4001 0x0A = false := by decide +kernel
theorem hyp_CommandObjects_i2c_response : let s := { host {} with alaust := { (host {}).alaust with i2c := { (host {}).alaust.i2c with response := some [0, 0] } } }
    s.alaust.i2c.busy = false ∧ s.alaust.i2c.response = some [0, 0] ∧ ([0, 0] : List Byte) ≠ [] ∧ ({ s with alaust := { s.alaust with i2c := { s.alaust.i2c with busy := true } } }).alaust.i2c.busy = true := by decide +kernel
/-- The part in DEVELOPMENT. -/
def devel : State := { host {} with keep := { (host {}).keep with otp := { (host {}).keep.otp with lc := 1 } } }
theorem hyp_CommandObjects_test : devel.keep.otp.lc = 1 ∧ (host {}).keep.otp.lc ≠ 1 ∧ 0 < (1 : BitVec 16).toNat ∧ (1023 : BitVec 16).toNat + (1 : BitVec 16).toNat ≤ 1024 ∧ (testBytes devel (cfgNat devel oTestAddr + (1023 : BitVec 16).toNat) 1).isSome = true
    ∧ testByte (cfgPutNat devel oTestAddr meadowBase) (cfgNat (cfgPutNat devel oTestAddr meadowBase) oTestAddr + (1023 : BitVec 16).toNat) = some (.meadow 1023) ∧ memWf devel.meadow.mem = true
    ∧ (BitVec.ofNat 64 (7 * 2 ^ 48 + meadowBase)).toNat < 2 ^ 51 ∧ testByte devel ((BitVec.ofNat 64 (7 * 2 ^ 48 + meadowBase)).toNat % 2 ^ 48) = some (.meadow 0) ∧ 2 ^ 51 ≤ (BitVec.ofNat 64 (2 ^ 51)).toNat
    ∧ testByte devel (0xFFFFFFFFFFFF % 2 ^ 48) = none := by decide +kernel
/-- Test alarms are on; handler 2 is bound on logical tile 9. -/
def testing (x : List TickSet) : State := { bound id with ctrl := { (bound id).ctrl with sets := x } }
theorem hyp_CommandObjects_alarm : cfgOn (withCfg [(oDetTestAlarms, 0)] (host {})) oDetTestAlarms = false ∧ cfgOn (testing []) oDetTestAlarms = true ∧ holderOf (testing []) ((0x902 : BitVec 16).toNat / 256) = some 5 ∧ (0x902 : BitVec 16).toNat / 8 % 32 = 0
    ∧ (plannedHandler (testing []) 5 ((0x902 : BitVec 16).toNat % 8)).isSome = true ∧ setOf (testing [{}]) (testing [{}]).ctrl.tick = some {} ∧ setOf (testing []) (testing []).ctrl.tick = none := by decide +kernel
theorem hyp_CommandObjects_lifecycle : lcAllowed 1 (4 : BitVec 8).toNat = true ∧ lcAllowed 2 (1 : BitVec 8).toNat = false ∧ lcAllowed 0 (1 : BitVec 8).toNat = false ∧ devel.keep.otp.pkgSvn ≤ (64 : BitVec 8).toNat ∧ (64 : BitVec 8).toNat ≤ ({ svn := 64 } : Plan).svn
    ∧ 64 < (65 : BitVec 8).toNat ∧ packageBusy (host {}) [1] = false ∧ packageBusy (op 0 fun c => { c with plan := some { digest := [1] } }) [1] = true := by decide +kernel
theorem hyp_CommandObjects_system : (host {}).fw.state ≠ 1 ∧ ({ host {} with fw := { (host {}).fw with state := 1 } }).fw.state = 1 ∧ tooLate (host {}) (0 : Word).toNat = false ∧ tooLate (op 0 fun c => { c with tick := 7 }) (7 : Word).toNat = true
    ∧ 1 < (2 : BitVec 8).toNat ∧ (host {}).power.phase ≠ 10 ∧ ({ host {} with keep := { (host {}).keep with otp := { (host {}).keep.otp with lc := 3 } } }).keep.otp.lc = 3 := by decide +kernel
/-- Session 65535 with one transfer, of number 5. -/
def bulk (b : Bulk) : State := { host {} with alaust := { (host {}).alaust with bulks := [{ b with id := 5, session := 65535 }] } }
theorem hyp_BulkTransfers_open : plainHeader (msg 1 true 0) = true ∧ plainHeader { msg 1 true 0 with flags := 2 } = false ∧ openFields 1 1 0 = true ∧ openFields 1 2 0 = false ∧ openFields 4 0 0 = false
    ∧ openCode (host {}) 65535 2 0 1280 0 = cDone ∧ openCode (bulk { target := 2 }) 65535 2 0 1280 0 ≠ cDone ∧ openCode (host {}) 65535 3 0 0 0 = cDone ∧ downloadBytes (host {}) 0 0 = [] := by decide +kernel
theorem hyp_BulkTransfers_segments : let b : Bulk := { id := 5, session := 65535, target := 2, length := 1281 }
    (receive (bulk b) (msg 1 true 0)).1 = true ∧ bulkOf (receive (bulk b) (msg 1 true 0)).2 65535 (5 : BitVec 16).toNat = some b ∧ bulkOf (receive (bulk b) (msg 1 true 0)).2 65535 (4 : BitVec 16).toNat = none ∧ segCount b = 2 ∧ segLen b 0 = 1280 ∧ segLen b 1 = 1
    ∧ (1 : BitVec 32).toNat < segCount b ∧ (1 : BitVec 32).toNat ∉ b.got ∧ segCount b ≤ (2 : BitVec 32).toNat ∧ (30 : Nat) < 31 := by decide +kernel
theorem hyp_BulkTransfers_overlap : regionFree (host {}) { id := 5, session := 65535, target := 1, length := 1 } hbmPlanSize = false
    ∧ regionFree { host {} with ctrl := { (host {}).ctrl with plan := some { base := 65536, length := 65536 } } } { id := 5, length := 2 } 65535 = false := by decide +kernel
theorem hyp_BulkTransfers_close : ({ length := 0 } : Bulk).length = 0 ∧ 0 < ({ length := 1 } : Bulk).length ∧ ({ length := 1 } : Bulk).got.length < segCount { length := 1 } ∧ segCount { length := 1 } ≤ ({ length := 1, got := [0] } : Bulk).got.length := by decide +kernel
/-- An upload of one byte, received. -/
def up1 (d : List Byte) : Bulk := { length := 1, got := [0], parts := [(0, [7])], digest := d }
theorem hyp_BulkTransfers_digest : sha384 (uploadBytes (up1 (sha384 (uploadBytes (up1 []))))) = (up1 (sha384 (uploadBytes (up1 [])))).digest := by
  have h : ∀ d, uploadBytes (up1 d) = uploadBytes (up1 []) := fun _ => rfl
  rw [show ∀ d, (up1 d).digest = d from fun _ => rfl, h]
theorem hyp_BulkTransfers_no_digest : sha384 (uploadBytes (up1 [])) ≠ (up1 []).digest :=
  fun h => absurd (congrArg List.isEmpty h) (by decide +kernel)
theorem hyp_BulkTransfers_timers : (bulk {}).alaust.bulks.find? (fun b => b.id = (5 : BitVec 16).toNat) = some { id := 5, session := 65535 } ∧ (bulk {}).alaust.bulks.find? (fun b => b.id = (4 : BitVec 16).toNat) = none ∧ ({ unacked := 31 } : Bulk).unacked ≠ 0
    ∧ ({ target := 3, sent := 1 } : Bulk).sent ≤ (1 : BitVec 32).toNat ∧ (0 : BitVec 32).toNat < ({ target := 3, sent := 1 } : Bulk).sent ∧ (0 : BitVec 32).toNat ∉ ({ target := 3, sent := 1 } : Bulk).got ∧ ({ closing := some 7 } : Bulk).closing = some 7
    ∧ (sessionOf (bulk {}) 65535).isSome = true := by decide +kernel

/-- Beryl port 1 with a state of its own, object values and own window 63. -/
def link (f : BPort → BPort) (l : List (Nat × Nat)) : State :=
  let s := modBport (withCfg l State.reset) 1 fun p => f { p with state := 2, rxNext := 65535 }
  { s with beryl := { s.beryl with win := s.beryl.win.set 63 { state := 1, gen := 3, target := 0x1000, offset := 0x40, size := 64, sources := [9] } } }
/-- The header that port 1 of `link` takes. -/
def head1 : BLinkHead := { seq := 65535, ack := 7, credit0 := 15, credit1 := 0, code := 0, rdst := 0, rwindow := 0, rtag := 0, count := 0 }
/-- Window 63, generation 3, from device 9 to a device. -/
def toDev (d : BitVec 8) : BAddr := { vc := false, dst := d, src := 9, hops := 31, window := 63, gen := 3 }
/-- The state after reception of the header. -/
def got1 (f : BPort → BPort) (l : List (Nat × Nat)) : State := (linkReceive (link f l) 1 head1).getD {}
theorem hyp_BerylLinks_receive : (bport State.reset 1).state ≠ 2 ∧ (bport (link id []) 1).state = 2 ∧ head1.seq.toNat = (bport (link id []) 1).rxNext ∧ head1.code = 0 ∧ ({ head1 with seq := 0 } : BLinkHead).seq.toNat ≠ (bport (link id []) 1).rxNext
    ∧ (linkReceive (link id []) 1 head1).isSome = true ∧ deviceId (got1 id [(oBerylDeviceId, 200)]) = 200 := by decide +kernel
/-- Frames 8 and 9 wait in the replay buffer, and LINK_ACK has stood at 7 a number of rows. -/
def replays (k : Nat) : State := link (fun p => { p with replay := [(8, {}), (9, {})], rxAcks := some 7, replayRow := k }) []
theorem hyp_BerylLinks_replay : (bport (replays 7) 1).rxAcks = some head1.ack.toNat ∧ (bport (replays 7) 1).replay ≠ [] ∧ (bport (replays 7) 1).resend = [] ∧ (bport (replays 7) 1).replayRow < 8 ∧ (bport (replays 8) 1).replayRow = 8
    ∧ (7 : Nat) ≠ ({ head1 with ack := 8 } : BLinkHead).ack.toNat := by decide +kernel
theorem hyp_BerylLinks_write : let v := got1 id [(oBerylDeviceId, 200)]
    (toDev 200).dst.toNat = deviceId v ∧ (toDev 200).src.toNat ≠ deviceId v ∧ accepts (ownWin v 63) 9 3 0x40 64 = true ∧ accepts (ownWin v 63) 9 3 0x41 64 = false ∧ accepts (ownWin v 63) 9 2 0x40 64 = false
    ∧ ((ownWin v 63).target + (0x40 - (ownWin v 63).offset)) % 64 = 0 ∧ (ownWin v 63).target + (0x40 - (ownWin v 63).offset) < meadowBase ∧ (List.replicate 64 (0 : Byte)).length = 64 ∧ (63 : Fin 64).val = (toDev 200).window.toNat := by decide +kernel
/-- Every device is routed to port 1. -/
def routed : State := { link id [(oBerylDeviceId, 200)] with cfg := smPut (link id [(oBerylDeviceId, 200)]).cfg oBerylRoutes (List.replicate 256 0x81) }
theorem hyp_BerylLinks_pass : let v := (linkReceive routed 1 head1).getD {}
    (linkReceive routed 1 head1).isSome = true ∧ (toDev 17).dst.toNat ≠ deviceId v ∧ (toDev 17).src.toNat ≠ deviceId v ∧ routePort v (toDev 17).dst.toNat = some 1 ∧ (toDev 17).hops.toNat < 32 ∧ routePort (got1 id []) (toDev 17).dst.toNat = none
    ∧ (toDev 17).dst.toNat ≠ deviceId (got1 id []) ∧ (toDev 17).src.toNat ≠ deviceId (got1 id []) := by decide +kernel
/-- The credit table with n windows of device 8. -/
def table (n : Nat) : State := let s := link id [(oBerylDeviceId, 200)]
  { s with beryl := { s.beryl with remote := (List.range n).map fun i => { device := 8, window := i } } }
theorem hyp_BerylLinks_grants : ∀ n ∈ [255, 256], let v := (linkReceive (table n) 1 head1).getD {}
    (linkReceive (table n) 1 head1).isSome = true ∧ (toDev 200).dst.toNat = deviceId v ∧ ((v.beryl.remote.filter fun x => !(x.device = (toDev 200).src.toNat && x.window = (toDev 200).window.toNat)).length < 256 ↔ n = 255) := by decide +kernel
theorem hyp_BerylLinks_final : let s := { link id [(oBerylDeviceId, 200)] with beryl := { (link id [(oBerylDeviceId, 200)]).beryl with remote := [{ device := 9, window := 63, gen := 3 }] } }
    ∃ x ∈ ((linkReceive s 1 head1).getD {}).beryl.remote, x.device = (toDev 200).src.toNat ∧ x.window = (toDev 200).window.toNat ∧ x.gen = (toDev 200).gen.toNat := by decide +kernel
theorem hyp_BerylLinks_tick : let s := withCfg [(oTickSource, 3), (oTickMasterDevice, 17)] routed
    let v := (linkReceive s 1 head1).getD {}
    (linkReceive s 1 head1).isSome = true ∧ cfgNat v oTickSource = 3 ∧ routePort v (cfgNat v oTickMasterDevice) = some 1 ∧ (BitVec.ofNat 64 (cfgNat v oTickPeriod)).toNat = cfgNat v oTickPeriod ∧ v.ctrl.tick ≤ (0 : Word).toNat
    ∧ (0 : Word).toNat ≠ cfgNat v oTickPeriod ∧ cfgNat (got1 id []) oTickSource ≠ 3 := by decide +kernel
theorem hyp_BerylLinks_slots : (bport (link (fun p => { p with resend := [{}] }) []) 1).resend = {} :: [] ∧ (bport (link id []) 1).slotAt = 0 ∧ (bport (link id []) 1).resend = [] ∧ (bport (link id []) 1).replay.length < 64 ∧ slotReply (link id []) 1 = none
    ∧ (bport (link id []) 1).pass1 = [] ∧ (bport (link id []) 1).pass0 = [] ∧ (bport (link id []) 1).own = [] ∧ (link id []).beryl.writes = [] ∧ 64 ≤ (bport (link (fun p => { p with replay := List.replicate 64 (0, {}) }) []) 1).replay.length
    ∧ (bport (link (fun p => { p with pass1 := [(0, {})], credit1 := 1 }) []) 1).pass1 = (0, {}) :: [] ∧ 0 < (bport (link (fun p => { p with pass1 := [(0, {})], credit1 := 1 }) []) 1).credit1 := by decide +kernel
theorem hyp_BerylLinks_training : (bport (link (fun p => { p with state := 1 }) []) 1).state = 1 ∧ (0 : BitVec 8).toNat = deviceId State.reset ∧ (1 : BitVec 8).toNat ≠ deviceId State.reset ∧ roGet State.reset (oLinkLaneSpared 1) ≠ 1
    ∧ roGet (roPut State.reset (oLinkLaneSpared 1) 1) (oLinkLaneSpared 1) = 1 ∧ cfgOn (withCfg [(oLinkEnable 1, 1)] State.reset) (oLinkEnable 1) = true ∧ cfgOn (withCfg [(oLinkEnable 1, 0)] State.reset) (oLinkEnable 1) = false ∧ (bport State.reset 1).state = 0 := by decide +kernel
/-- The part in a phase of its start. -/
def phase (k : Nat) (f : Power → Power) : State := { State.reset with power := f { State.reset.power with phase := k } }
/-- The part in phase 8, with the system controller changed. -/
def ctrl8 (f : Ctrl → Ctrl) : State := { phase 8 id with ctrl := f (phase 8 id).ctrl }
theorem hyp_HealthEvents : (phase 8 id).power.phase = 8 ∧ (7 : Fin 8).val ∉ (phase 8 id).ctrl.isolated ∧ (7 : Fin 8).val ∈ (ctrl8 fun c => { c with isolated := [7] }).ctrl.isolated ∧ (tile (phase 8 id) 71).bistEnd = false
    ∧ (tile (modTile (phase 7 id) 71 fun t => { t with bistEnd := true }) 71).bistEnd = true ∧ 7 ≤ (phase 7 id).power.phase
    ∧ 2 ≤ ((ctrl8 fun c => { c with regionFaults := [(7, 0), (7, 1)] }).ctrl.regionFaults.filter fun f => decide (f.1 = (7 : Fin 8).val) && decide (nowNs (ctrl8 id) < f.2 + 1000000000)).length := by decide +kernel
theorem hyp_HealthEvents_controller : (ctrl8 id).ctrl.trng ≠ true.toNat ∧ (ctrl8 id).ctrl.trng = 0 ∧ (ctrl8 fun c => { c with trng := 1 }).ctrl.trng = 1 ∧ (ctrl8 id).ctrl.down = none ∧ (ctrl8 fun c => { c with down := some 4 }).ctrl.down = some 4
    ∧ (ctrl8 id).ctrl.enclaveFails = 0 ∧ (ctrl8 fun c => { c with enclaveFails := 1 }).ctrl.enclaveFails = 1 ∧ 2 ≤ (ctrl8 fun c => { c with enclaveFails := 2 }).ctrl.enclaveFails := by decide +kernel
/-- A power-fail commit of a cause. -/
def cutOf (cause : Nat) (done : Bool) : State := phase 8 fun p => { p with cut := some { cause := cause, done := done } }
theorem hyp_PowerEvents : (phase 8 fun p => { p with powerFail := true }).power.powerFail = true ∧ (phase 8 id).power.powerFail = false ∧ (phase 8 id).power.cut = none ∧ (phase 8 id).power.phase ≠ 10 ∧ (phase 8 id).eth.alarms = [] ∧ (4 : Fin 12) ∈ ([0, 1, 4] : List (Fin 12))
    ∧ (11 : Fin 12) ∉ ([0, 1, 4] : List (Fin 12)) ∧ (115 : Int) ≤ 115 ∧ (114 : Int) < 115 ∧ (105 : Int) ≤ 105 ∧ (104 : Int) < 105 := by decide +kernel
theorem hyp_PowerEvents_end : (∀ k ∈ [1, 3, 5, 6], (cutOf k false).power.cut = some { cause := k, done := false }) ∧ (cutOf 1 true).power.cut = some { cause := 1, done := true } ∧ (cutOf 1 true).power.cut.isSome = true := by decide +kernel
/-- Cap 100 W, with a measured power and a junction temperature. -/
def capped (mw : Nat) (j : Int) : State := withCfg [(oPowerCapEnable, 1), (oPowerCap, 100)] (phase 8 fun p => { p with samples := [mw], junction := j, level := 12, next := 12 })
theorem hyp_PowerEvents_cap : cfgOn (capped 0 0) oPowerCapEnable = true ∧ cfgOn (withCfg [(oPowerCapEnable, 0)] State.reset) oPowerCapEnable = false ∧ cfgNat (capped 100001 0) oPowerCap * 1000 < measuredPower (capped 100001 0)
    ∧ cfgInt16 (capped 0 125) oPowerTempLimit ≤ (capped 0 125).power.junction ∧ measuredPower (capped 94999 0) * 100 < 95 * (cfgNat (capped 94999 0) oPowerCap * 1000) ∧ (capped 94999 0).power.junction < cfgInt16 (capped 94999 0) oPowerTempLimit - 2
    ∧ 95 * (cfgNat (capped 95000 0) oPowerCap * 1000) ≤ measuredPower (capped 95000 0) * 100 ∧ measuredPower (capped 100000 0) ≤ cfgNat (capped 100000 0) oPowerCap * 1000 ∧ (capped 100000 0).power.junction < cfgInt16 (capped 100000 0) oPowerTempLimit := by decide +kernel
theorem hyp_PowerEvents_rails : (List.replicate 12 (0 : BitVec 16)).length = 12 ∧ railOut (phase 8 fun p => { p with rails := p.rails.set 0 720 }) 0 = false ∧ railOut (phase 8 fun p => { p with rails := p.rails.set 0 719 }) 0 = true
    ∧ railOut (phase 8 fun p => { p with rails := p.rails.set 11 780 }) 11 = false ∧ railOut (phase 8 fun p => { p with rails := p.rails.set 11 781 }) 11 = true := by decide +kernel
/-- Locked PLLs, with every domain in Run. -/
def plls (l : List Nat) (active : Nat) : State := phase 8 fun p => { p with pll := l, pllActive := active, blocks := Vector.replicate 13 0 }
theorem hyp_ClocksAndWakeUps_pll : (8 : Fin 9).val ∉ (plls [0, 1] 0).power.pll ∧ (0 : Fin 9).val ∈ (plls [0, 1] 0).power.pll ∧ 1 - (0 : Fin 9).val ∈ (plls [0, 1] 0).power.pll ∧ (plls [0, 1] 0).power.pllActive = (0 : Fin 9).val ∧ (plls [0, 1] 1).power.pllActive ≠ (0 : Fin 9).val
    ∧ 1 - (0 : Fin 9).val ∉ (plls [0] 0).power.pll ∧ (2 : Fin 9).val ∈ (plls [2] 0).power.pll ∧ (plls [0] 0).power.cut = none ∧ (plls [0] 0).power.phase ≠ 10
    ∧ (∀ e : Fin 2, 3 + e.val ∈ (plls [3, 4] 0).power.pll ∧ domainState (plls [3, 4] 0) (84 + e.val) = 0) ∧ (∀ n : Fin 4, 5 + n.val ∈ (plls [5, 6, 7, 8] 0).power.pll ∧ domainState (plls [5, 6, 7, 8] 0) (86 + n.val) = 0)
    ∧ (8 : Fin 9).val ∈ (phase 8 fun p => { p with pll := [8] }).power.pll ∧ domainState (phase 8 fun p => { p with pll := [8] }) (81 + 8) ≠ 0 := by decide +kernel
theorem hyp_ClocksAndWakeUps_refclk : (phase 8 id).power.ethRefclk = true ∧ (phase 8 fun p => { p with ethRefclk := false, linksHeld := [5] }).power.ethRefclk = false ∧ (∃ x ∈ (phase 8 fun p => { p with linksHeld := [5] }).power.linksHeld, x % 2 = (1 : Fin 2).val)
    ∧ (∀ x ∈ (phase 8 fun p => { p with linksHeld := [5] }).power.linksHeld, x % 2 ≠ (0 : Fin 2).val) := by decide +kernel
/-- Tile 71 wakes from a state, and the queue holds domain 92. -/
def waking (st : Nat) : State := modTile (phase 8 fun p => { p with waking := [71], wake := [{ domain := 92 }] }) 71 fun t => { t with power := st }
theorem hyp_ClocksAndWakeUps_wake : (phase 8 id).power.wake = [] ∧ (waking 2).power.wake = { domain := 92 } :: [] ∧ (71 : Fin 93).val ∈ (waking 2).power.waking ∧ (92 : Fin 93).val ∉ (waking 2).power.waking ∧ (tile (waking 2) 71).power < 3 ∧ 3 ≤ (tile (waking 3) 71).power
    ∧ (waking 3).ctrl.plan = none ∧ smFind (phase 8 id).power.lower (71 : PTile).val = none ∧ smFind (phase 8 fun p => { p with lower := [(71, 3)] }).power.lower (71 : PTile).val = some 3 ∧ tileIdle (tile (phase 8 id) 71) = true
    ∧ tileIdle (tile (modTile (phase 8 id) 71 fun t => { t with run := some {} }) 71) = false ∧ cfgOn (withCfg [(oPpsOutEnable, 1)] (phase 8 id)) oPpsOutEnable = true ∧ cfgOn (withCfg [(oPpsOutEnable, 0)] (phase 8 id)) oPpsOutEnable = false := by decide +kernel
/-- The part in a phase, with the keep store changed. -/
def store (k : Nat) (f : Keep → Keep) : State := { phase k id with keep := f State.reset.keep }
theorem hyp_StartUpAndRecovery : (∀ k < 10, (phase k id).power.phase = k) ∧ (phase 2 fun p => { p with bootMode := 1 }).power.bootMode = 1 ∧ (store 3 fun k => { k with image := [[1]] }).keep.image = [1] :: [] ∧ memWf (phase 3 id).hbm.mem = true ∧ (store 3 fun k => { k with image := [] }).keep.image = []
    ∧ (phase 3 fun p => { p with halted := true }).power.halted = true ∧ (phase 3 id).power.halted = false ∧ (∀ b ∈ [([1] : List Byte), []], verifyImage State.reset.keep.otp b ≠ cDone) ∧ (phase 4 fun p => { p with released := true }).power.released = true ∧ (phase 4 id).power.released = false := by decide +kernel
theorem hyp_StartUpAndRecovery_journal : let k := (store 4 fun k => { k with recs := [{ jseq := 3, body := .powerFail (List.replicate 40 1) }, { jseq := 9, body := .powerFail [] }] }).keep
    validRecord { k with recs := k.recs.filter fun r => !([9] : List Nat).contains r.jseq } = some (List.replicate 40 1) ∧ validRecord { k with recs := k.recs.filter fun r => !([9, 3] : List Nat).contains r.jseq } = none := by decide +kernel
theorem hyp_StartUpAndRecovery_selftest : (tile (modTile (phase 6 id) 71 fun t => { t with bistEnd := true }) 71).bistEnd = true ∧ (tile (phase 6 id) 71).bistEnd = false ∧ (phase 7 id).ctrl.lock ≠ 2 ∧ cfgNat (withCfg [(oTickSource, 1)] (phase 7 id)) oTickSource ≠ 0
    ∧ cfgNat (withCfg [(oTickSource, 0)] (phase 7 id)) oTickSource = 0 ∧ (ctrl8 fun c => { c with lock := 2 }).ctrl.lock = 2 := by decide +kernel
/-- A recovery of an image of 1,281 bytes. -/
def recover (got : List Byte) (n : Nat) : Recover := { port := 1, host := [1], length := 1281, got := got, repeats := n }
theorem hyp_StartUpAndRecovery_host : (phase 9 id).power.recover = none ∧ (phase 9 id).power.phase = 9 ∧ (phase 9 fun p => { p with recover := some (recover [] 7) }).power.recover = some (recover [] 7)
    ∧ (0 : BitVec 64).toNat = (recover [] 7).got.length ∧ (List.replicate 1280 (0 : Byte)).length = min 1280 ((recover [] 7).length - (recover [] 7).got.length) ∧ (recover [] 7).got.length + (List.replicate 1280 (0 : Byte)).length < (recover [] 7).length
    ∧ (1280 : BitVec 64).toNat = (recover (List.replicate 1280 0) 7).got.length ∧ ([0] : List Byte).length = min 1280 ((recover (List.replicate 1280 0) 7).length - (recover (List.replicate 1280 0) 7).got.length)
    ∧ (recover (List.replicate 1280 0) 7).length ≤ (recover (List.replicate 1280 0) 7).got.length + ([0] : List Byte).length ∧ (recover [] 7).repeats < 8 ∧ 8 ≤ (recover [] 8).repeats := by decide +kernel
theorem hyp_TileDmaCycles : (63 : Nat) < 64 := by decide
theorem hyp_EveryStepKeepsMemories : MemoriesWf State.reset ∧ goes (step State.reset) = true := ⟨⟨by decide +kernel, by decide +kernel, by decide +kernel⟩, by decide +kernel⟩
/-- A firmware image of one byte, 0, and the fuses of a part that it is for; whether its signature verifies is a free value. -/
def image1 : List Byte := [0x4D, 0x45, 0x46, 0x57, 1, 0, 0, 0, 0, 0, 0, 0] ++ List.replicate 4 0 ++ [1, 0, 0, 0, 0, 0, 0, 0] ++ List.replicate 97 4 ++ List.replicate 23 0 ++ sha384 [0] ++ List.replicate 320 0 ++ [0]
def fuses1 : Otp := { slots := [sha384 (List.replicate 97 4)] }
theorem hyp_StartUpAndRecovery_image : imageForm fuses1 image1 = true ∧ fuses1.revoked = [] ∧ fuses1.fwSvn ≤ leAt image1 8 1 ∧ sha384 (image1.drop 512) = slice image1 144 48 := by decide +kernel

/-- A datagram of well-formed addresses, and a message in it. -/
def okFrame : InFrame := { head := { len := 100, vid := none, sec := none }, rtag := none, src := List.replicate 16 0, dst := List.replicate 16 0, sport := 0, dport := 0, payload := [] }
def badSrc : InFrame := { okFrame with src := List.replicate 4 0 }
def badDst : InFrame := { okFrame with dst := List.replicate 17 0 }
def msgOf (f : InFrame) : AMsg := { e := 0, frame := f, session := 1, counter := 0, ok := true, flags := 0, req := 0, count := 0, code := 0 }
theorem test_wf_hbmPartialWriteback : Instr.wf (.hbmPartialWriteback 0x18000000) = false := by decide +kernel
theorem test_wf_hbmSoftRemap : Instr.wf (.hbmSoftRemap 25165824) = false := by decide +kernel
theorem test_wf_meadowRefill : Instr.wf (.meadowRefill 0x200000) = false := by decide +kernel
theorem test_wf_rtp_src : Instr.wf (.rtpPacketReceive 0 badSrc) = false := by decide +kernel
theorem test_wf_rtp_dst : Instr.wf (.rtpPacketReceive 0 badDst) = false := by decide +kernel
theorem test_wf_igmpQuery : Instr.wf (.igmpQuery 0 okFrame.head (List.replicate 6 0)) = false := by decide +kernel
theorem test_wf_arp_mac : Instr.wf (.arpRequest 0 okFrame.head (List.replicate 5 0) (List.replicate 4 0) (List.replicate 4 0)) = false := by decide +kernel
theorem test_wf_arp_ip : Instr.wf (.arpRequest 0 okFrame.head (List.replicate 6 0) (List.replicate 16 0) (List.replicate 4 0)) = false := by decide +kernel
theorem test_wf_arp_target : Instr.wf (.arpRequest 0 okFrame.head (List.replicate 6 0) (List.replicate 4 0) (List.replicate 5 0)) = false := by decide +kernel
theorem test_wf_ns_src : Instr.wf (.neighborSolicitation 0 okFrame.head (List.replicate 4 0) (List.replicate 16 0)) = false := by decide +kernel
theorem test_wf_ns_target : Instr.wf (.neighborSolicitation 0 okFrame.head (List.replicate 16 0) (List.replicate 4 0)) = false := by decide +kernel
theorem test_wf_icmp_src : Instr.wf (.icmpEchoRequest 0 okFrame.head (List.replicate 4 0) (List.replicate 16 0) (List.replicate 8 0)) = false := by decide +kernel
theorem test_wf_icmp_dst : Instr.wf (.icmpEchoRequest 0 okFrame.head (List.replicate 16 0) (List.replicate 4 0) (List.replicate 8 0)) = false := by decide +kernel
theorem test_wf_icmp_data : Instr.wf (.icmpEchoRequest 0 okFrame.head (List.replicate 16 0) (List.replicate 16 0) (List.replicate 3 0)) = false := by decide +kernel
theorem test_wf_announce : Instr.wf (.ptpAnnounceReceive 0 okFrame.head (List.replicate 6 0) 0) = false := by decide +kernel
theorem test_wf_hello : Instr.wf (.hello 0 badSrc) = false := by decide +kernel
theorem test_wf_proof_frame : Instr.wf (.proof 0 badDst 1 true (List.replicate 96 0)) = false := by decide +kernel
theorem test_wf_proof_sig : Instr.wf (.proof 0 okFrame 1 true (List.replicate 95 0)) = false := by decide +kernel
theorem test_wf_read_frame : Instr.wf (.alaustRead (msgOf badSrc) []) = false := by decide +kernel
theorem test_wf_read_data : Instr.wf (.alaustRead (msgOf okFrame) [{ index := 0, sub := 0, reserved := 0, offset := 0, length := 1, data := [1] }]) = false := by decide +kernel
theorem test_wf_write_frame : Instr.wf (.alaustWrite (msgOf badSrc) []) = false := by decide +kernel
theorem test_wf_write_length : Instr.wf (.alaustWrite (msgOf okFrame) [{ index := 0, sub := 0, reserved := 0, offset := 0, length := 2, data := [1] }]) = false := by decide +kernel
theorem test_wf_commit : Instr.wf (.alaustCommit (msgOf badSrc) 0) = false := by decide +kernel
theorem test_wf_discard : Instr.wf (.alaustDiscard (msgOf badSrc)) = false := by decide +kernel
theorem test_wf_bulkOpen_frame : Instr.wf (.bulkOpen (msgOf badSrc) 1 0 0 1 0 (List.replicate 48 0)) = false := by decide +kernel
theorem test_wf_bulkOpen_digest : Instr.wf (.bulkOpen (msgOf okFrame) 1 0 0 1 0 (List.replicate 32 0)) = false := by decide +kernel
theorem test_wf_bulkData_frame : Instr.wf (.bulkData (msgOf badSrc) 1 0 []) = false := by decide +kernel
theorem test_wf_bulkData_length : Instr.wf (.bulkData (msgOf okFrame) 1 0 (List.replicate 1281 0)) = false := by decide +kernel
theorem test_wf_bulkAck : Instr.wf (.bulkAck (msgOf badSrc) 1 0 0) = false := by decide +kernel
theorem test_wf_bulkClose : Instr.wf (.bulkClose (msgOf badSrc) 1) = false := by decide +kernel
theorem test_wf_notifyAck : Instr.wf (.notifyAck (msgOf badSrc) 0) = false := by decide +kernel
theorem test_wf_keepalive : Instr.wf (.keepalive (msgOf badSrc)) = false := by decide +kernel
theorem test_wf_alaustEnd : Instr.wf (.alaustEnd 1 (some (msgOf badSrc))) = false := by decide +kernel
theorem test_wf_cak : Instr.wf (.macsecCakWrite 0 (List.replicate 16 0)) = false := by decide +kernel
theorem test_wf_modelDelete : Instr.wf (.keepModelDelete (List.replicate 47 0)) = false := by decide +kernel
theorem test_wf_beryl_empty : Instr.wf (.berylWriteFrame 0 head1 (toDev 1) true 0 0 []) = false := by decide +kernel
theorem test_wf_beryl_long : Instr.wf (.berylWriteFrame 0 head1 (toDev 1) true 0 0 (List.replicate 257 0)) = false := by decide +kernel
theorem test_wf_offer_host : Instr.wf (.recoveryOffer 0 (List.replicate 4 0) 1 (List.replicate 48 0)) = false := by decide +kernel
theorem test_wf_offer_digest : Instr.wf (.recoveryOffer 0 (List.replicate 16 0) 1 (List.replicate 32 0)) = false := by decide +kernel
theorem test_wf_data_host : Instr.wf (.recoveryData 0 (List.replicate 4 0) 0 []) = false := by decide +kernel
theorem test_wf_measure : Instr.wf (.powerMeasure 0 0 (List.replicate 11 0)) = false := by decide +kernel
theorem test_wf_journal : Instr.wf (.packageDirJournal (List.replicate 49 0)) = false := by decide +kernel
theorem test_wf_accepts : Instr.wf (.hbmPartialWriteback 0x17FFFFFF) = true ∧ Instr.wf (.bulkData (msgOf okFrame) 1 0 (List.replicate 1280 0)) = true ∧ Instr.wf (.berylWriteFrame 0 head1 (toDev 1) true 0 0 (List.replicate 256 0)) = true := by decide +kernel
/-- A word of the table spells no command: the table gives no bits (notes/assumptions/1.md). -/
theorem test_no_word_spells_a_command : decodeTableWord 8 255 = none ∧ (State.reset.withFetchWord 8 255).pending = [] := by decide +kernel

/-- What one command sends to a general register of tile 5, with g3 and g63 set: due cycle, register, value. -/
theorem test_add_wraps : flying (out (exec (.add 5 7 3 63) (two 0xFFFFFFFFFFFFFFFF 2))) = [(101, 7, 1)] := by decide +kernel
theorem test_sub_order : flying (out (exec (.sub 5 7 3 63) (two 2 5))) = [(101, 7, 0xFFFFFFFFFFFFFFFD)] := by decide +kernel
theorem test_shl_low_six_bits : flying (out (exec (.shl 5 7 3 63) (two 3 65))) = [(101, 7, 6)] := by decide +kernel
theorem test_sar_keeps_sign : flying (out (exec (.sar 5 7 3 63) (two 0x8000000000000000 63))) = [(101, 7, 0xFFFFFFFFFFFFFFFF)] := by decide +kernel
theorem test_min_signed : flying (out (exec (.min 5 7 3 63) (two 0xFFFFFFFFFFFFFFFF 1))) = [(101, 7, 0xFFFFFFFFFFFFFFFF)] := by decide +kernel
theorem test_cmpLtu_unsigned : flying (out (exec (.cmpLtu 5 7 3 63) (two 0xFFFFFFFFFFFFFFFF 1))) = [(101, 7, 0)] := by decide +kernel
theorem test_sad4 : flying (out (exec (.sad4Bu 5 7 3 63) (two 0xFF00FF00 0x00FF00FF))) = [(101, 7, 1020)] := by decide +kernel
theorem test_add4_saturates : flying (out (exec (.add4Bu 5 7 3 63) (two 0xFF010203 0x02010203))) = [(101, 7, 0xFF020406)] := by decide +kernel
theorem test_avg4_rounds_up : flying (out (exec (.avg4Bu 5 7 3 63) (two 0x00010203 0x01010304))) = [(101, 7, 0x01010304)] := by decide +kernel
theorem test_addi_signed : flying (out (exec (.addi 5 7 3 0x3FFF) (two 5 0))) = [(101, 7, 4)] := by decide +kernel
theorem test_g0_reads_zero : flying (out (exec (.add 5 7 0 63) (two 5 9))) = [(101, 7, 9)] := by decide +kernel
theorem test_mulh_signed : (flying (out (exec (.mulh 5 7 3 63) (two 0xFFFFFFFFFFFFFFFF 1)))).map (·.2) = [(7, 0xFFFFFFFFFFFFFFFF)] := by decide +kernel
/-- Out of range in E4M3: 470; in range: 460, to 448 (the spec's own example, 05 R186). -/
theorem test_e4m3_range : convertOut 2 (fOfInt binary32 0 470).1 = (0x7E, true) ∧ convertOut 2 (fOfInt binary32 0 460).1 = (0x7E, false) ∧ convertOut 2 (fOfInt binary32 0 (-470)).1 = (0xFE, true) := by decide +kernel
theorem test_float_ties_to_even : (fAdd binary32 0 0x4B800000 0x3F800000).1 = 0x4B800000 ∧ (fAdd binary32 0 0x4B800001 0x3F800000).1 = 0x4B800002 ∧ (fAdd binary32 0 0x7F7FFFFF 0x7F7FFFFF).1 = 0x7F800000 := by decide +kernel
theorem test_float_specials : (fMul binary32 0 0x7F800000 0).1 = 0x7FC00000 ∧ (fDiv binary32 0 0x3F800000 0x80000000).1 = 0xFF800000 ∧ (fSqrt binary64 0 0x4010000000000000).1 = 0x4000000000000000 := by decide +kernel
/-- SHA-384 of the three bytes abc (FIPS 180-4). -/
theorem test_sha384_abc : beNat ((sha384 [0x61, 0x62, 0x63]).take 8) = 0xCB00753F45A35E8B ∧ beNat ((sha384 [0x61, 0x62, 0x63]).drop 40) = 0x58BAECA134C825A7 := by decide +kernel
/-- Core bytes 0x80, 0xFF, 1, 2 at 0x40; a1 points there. -/
def core40 : State := on5 fun t => { t with core := [(0x40, 0x80), (0x41, 0xFF), (0x42, 1), (0x43, 2)], job := { t.job with a := t.job.a.set 1 0x40, g := t.job.g.set 3 0x1122334455667788 } }
theorem test_ld_b_signed : (flying (out (exec (.ldB 5 0 7 1 (.offset 0)) core40))).map (·.2) = [(7, 0xFFFFFFFFFFFFFF80)] := by decide +kernel
theorem test_ld_hu_little_endian : (flying (out (exec (.ldHu 5 0 7 1 (.offset 0)) core40))).map (·.2) = [(7, 0xFF80)] := by decide +kernel
theorem test_ld_w_signed : (flying (out (exec (.ldW 5 0 7 1 (.offset 0)) core40))).map (·.2) = [(7, 0x201FF80)] := by decide +kernel
theorem test_st_w_bytes : (tile (out (exec (.stW 5 0 3 1 (.offset 0)) core40)) 5).commits.map (fun c => (c.addr, c.bytes)) = [(0x40, [0x88, 0x77, 0x66, 0x55])] := by decide +kernel
theorem test_ld_misaligned_traps : (tile (out (exec (.ldH 5 0 7 1 (.offset 1)) (on5 fun t => { t with run := some {}, job := { t.job with a := t.job.a.set 1 0x40 } }))) 5).run = none := by decide +kernel
theorem test_time_rd : flying (out (exec (.timeRd 5 7) { on5 id with cycle := 12345 })) ≠ [] := by decide +kernel
theorem test_branch_delay : (tile (out (exec (.br 5 3) (on5 id))) 5).job.branch.map (·.target) = [96] := by decide +kernel
/-- The reads of one tile cycle: an idle step passes it. -/
theorem test_idle_cycle : (out (step (on5 id))).cycle = 101 := by decide +kernel
theorem test_tick_boundary_waits_for_run : (out (exec .tickBoundary State.reset)).ctrl.tick = 0 := by decide +kernel
theorem test_refclk_loss_latches : faultN (out (exec (.refclkLoss false) (phase 8 id))) = true := by decide +kernel
theorem test_pps_edge_counts : roGet (out (exec .ppsInEdge (phase 8 id))) oPpsInCount = 1 := by decide +kernel
theorem test_thermal_limit_at_105 : (out (exec (.thermalLimit 105) (phase 8 id))).power.junction = 105 ∧ roGet (out (exec (.thermalLimit 105) (phase 8 id))) oFaultLastCode = cThermalLimit ∧ roGet (out (exec (.thermalLimit 104) (phase 8 id))) oFaultLastCode ≠ cThermalLimit := by decide +kernel
theorem test_throttle_over_cap : (out (exec .throttleUpdate (capped 100001 0))).power.next = 12 ∧ (out (exec .throttleUpdate (capped 94999 0))).power.next = 11 ∧ (out (exec .throttleUpdate (capped 95000 0))).power.next = 12 := by decide +kernel
theorem test_bist_fail_retires : (tile (out (exec (.bistEnd 5 false) (modTile (phase 8 id) 5 fun t => { t with bistEnd := true }))) 5).role = 5 := by decide +kernel
theorem test_beryl_bad_frame_counts : roGet (out (exec (.berylBadFrame 1) (link id []))) (oLinkCrcErrors 1) = 1 := by decide +kernel
theorem test_beryl_egress_idle : ((out (exec (.berylEgressSlot 1) (link id []))).beryl.sent).map (fun x => (x.seq, x.ack, x.frame)) = [(0, 65534, none)] := by decide +kernel
theorem test_wake_admission : (out (exec .wakeAdmissionSlot (waking 2))).power.waking = [71, 92] := by decide +kernel
theorem test_porst_rise_address : (out (exec (.porstNRise 0 3) State.reset)).power.i2cAddr = 0x5B := by decide +kernel
theorem test_recovery_repeats_end : (out (exec .recoveryReadRepeat (phase 9 fun p => { p with recover := some (recover [] 8) }))).power.recover = none := by decide +kernel
theorem test_vector_saturates : eSat 0 8 0x7F 1 = 0x7F ∧ eSat 1 8 0xFF 1 = 0xFF ∧ eSat 2 8 0x80 1 = 0x80 ∧ eSat 3 8 0 1 = 0 := by decide
theorem test_vector_widens : eWiden 4 8 0xFF 2 0 = 0xFFFE ∧ eWiden 5 8 0xFF 2 0 = 0x1FE ∧ eWiden 0 8 0xFF 0xFF 0 = 0xFFFE := by decide
theorem test_vector_narrows_to_even : eNarrow 2 8 0x0003 1 = 2 ∧ eNarrow 2 8 0x0005 1 = 2 ∧ eNarrow 2 8 0x7FFF 0 = 0x7F ∧ eNarrow 1 8 0xFFFF 4 = 0xFF := by decide +kernel
theorem test_vector_dot : eDot 0 32 0xFF010203 0x01020304 10 = 10 + 12 + 6 + 2 - 1 ∧ eDot 1 32 0xFF010203 0x01020304 0 = 255 + 2 + 6 + 12 := by decide +kernel
/-- rf.tree with an absent position: (1 + 2) + 4, then 8 + 7. -/
theorem test_tree_with_absent : (rfReduce binary32 0 0 0x41000000 [some 0x3F800000, some 0x40000000, none, some 0x40800000]).1 = 0x41700000 := by decide +kernel
/-- The four neighbours 0, 4, 8 and 12 at the middle, and a tie that goes to the even value. -/
theorem test_crop_mix : cropMix 128 128 0 4 8 12 = 6 ∧ cropMix 128 0 2 3 0 0 = 2 ∧ cropMix 128 0 3 4 0 0 = 4 := by decide

theorem hyp_ResultsLand_residue : some 1 ≠ residue3 (3 : Word) ∧ residue3 (3 : Word) = some 0
    ∧ frozen (on5 fun t => { t with sched := [{ due := 100, issue := 99, act := .gReg true 31 3, res := some 1 }] }) 5 = false := by decide +kernel
theorem hyp_CoreAccessFaults_wait : let hit := on5 fun t => { t with inC0 := true, port0 := [100] }
    let job := on5 fun t => { t with port0 := [100] }
    let own := on5 fun t => { t with intCtrl := 1, port0 := [100] }
    ((tile hit 5).inC0 = true ∧ hit.cycle ∈ (tile hit 5).port0) ∧ ((tile job 5).inC0 = false ∧ job.cycle ∉ (tile job 5).port0Old ∧ job.cycle ∈ (tile job 5).port0)
    ∧ serving (tile own 5) = true ∧ own.cycle ∉ (tile own 5).port0Old ∧ own.cycle ∈ (tile own 5).port0
    ∧ serving (tile (on5 fun t => { t with intCtrl := 1, port0Old := [100] }) 5) = true := by decide +kernel
theorem hyp_CoreAccessFaults_parity : PortFree top8 (tile top8 5) 0 ∧ PortFree badA (tile badA 5) 0 ∧ badByte (tile (on5 fun t => { t with coreBad := [0x1FFFFF] }) 5).coreBad 0x1FFFF8 8 = some 0x1FFFFF :=
  ⟨fun _ => ⟨by decide +kernel, fun _ h => absurd h (by decide +kernel)⟩, fun _ => ⟨by decide +kernel, fun _ h => absurd h (by decide +kernel)⟩, by decide +kernel⟩
theorem hyp_DescriptorHandover_cleared : (tile (on5 fun t => { t with dma := { t.dma with cleared := 101 } }) 5).dma.cleared = (on5 id).cycle + 1 ∧ (tile (on5 id) 5).dma.cleared ≠ (on5 id).cycle + 1 := by decide +kernel
/-- A handler with a1 one byte past a multiple of 64, a2 behind core memory, and a byte of bad parity at 63. -/
def handBad : State := on5 fun t => { t with inC0 := true, c0run := some {}, coreBad := [63], c0 := { t.c0 with a := (t.c0.a.set 1 0x1FFFC1).set 2 0x200000 } }
theorem hyp_EmitAndReturns_faults : (aVal (tile handBad 5) 1).toNat < coreSize ∧ (aVal (tile handBad 5) 1).toNat % 64 ≠ 0 ∧ coreSize ≤ (aVal (tile handBad 5) 2).toNat
    ∧ (aVal (tile handBad 5) 3).toNat < coreSize ∧ (aVal (tile handBad 5) 3).toNat % 64 = 0 ∧ badByte (tile handBad 5).coreBad (aVal (tile handBad 5) 3).toNat 64 = some 63 := by decide +kernel
theorem hyp_InterruptEntry_vector : interruptDue (live fun t => { t with vfEntry := true, intPending := 0x8000 }) 5 = true ∧ (tile (live fun t => { t with vfEntry := true }) 5).inC0 = false := by decide +kernel
theorem hyp_ResumedIssue_idle_channel : let s := live fun t => { t with reissueAt := some 100, intWait := waitDmaWord 7 }
    lives s = true ∧ (tile s 5).vReissueAt = none ∧ (tile s 5).dma.ch[(7 : Fin 8)].active = none ∧ (tile s 5).dma.ch[(7 : Fin 8)].pend = [] := by decide +kernel
/-- A bad byte in lane 7 of register 30. -/
def laneSick : Tile := tile (on5 fun t => { t with vBad := [32 * (8 * 30 + 7)] }) 5
theorem hyp_VectorLanes_parity : laneBad laneSick 7 30 = true ∧ laneBad laneSick 6 30 = false ∧ laneBad (tile (on5 id) 5) 0 31 = false ∧ (vReads (vArithWord 0x10 0 31 30 29 true 0)).any (laneBad laneSick 7) = true := by decide +kernel
theorem hyp_ArrayStages_residue : let r : ArrRun := { desc := layer, valid := true, sums := [{ sum1 with res := [1] }] }
    (tile (arr5 r) 5).arr.descs = [r] ∧ sumBad (tile (arr5 r) 5) (dAccSet r.desc) { sum1 with res := [1] } = false ∧ sumResidueBad (tile (arr5 r) 5) (dAccSet r.desc) { sum1 with res := [1] } = true := by decide +kernel
theorem hyp_ArrayStages_parity : let e : EntrySum := { sum1 with first := false }
    sumBad (tile (on5 fun t => { t with arr := { t.arr with acc := t.arr.acc.set 0 [(accKey e.m 0, { bad := true })] } }) 5) 0 e = true := by decide +kernel
theorem hyp_DmaDescriptors_faults : let r : DmaRun := { desc := move, staged := [{ pos := 0, bytes := [], due := 100, hop := true, errAddr := 9 }] }
    let s := chan7 { active := some r }
    (chan s 5 7).active = some r ∧ r.staged = { pos := 0, bytes := [], due := 100, hop := true, errAddr := 9 } :: [] ∧ (100 : Nat) ≤ s.cycle
    ∧ coreSettled (live id) 5 = false ∧ coreSettled (live fun t => { t with issued := 101 }) 5 = true ∧ (tile (live fun t => { t with dma := { t.dma with stopping := some 99 } }) 5).dma.stopping.isSome = true
    ∧ (mOp move ≠ 2 ∧ (r.copyBuf = [] ∨ mOp r.desc ≠ 2)) := by decide +kernel
/-- Tile 5 runs item 6; channel 7 sends a record of 64 bytes to queue 1,032. -/
def posts : State :=
  { chan7 { active := some { desc := BitVec.ofNat 512 ((0x020009000000) * 2 ^ 464 + 2 ^ 320 + 2 ^ 288 + 64 * 2 ^ 264 + 1032 * 2 ^ 133 + 48) } } with ctrl := { State.reset.ctrl with items := [(0, { attempt := 1, firstCode := 7 })] } }
theorem hyp_QueueOperations_record : (∃ r, (chan posts 5 7).active = some r ∧ r.cells = [] ∧ patTotal (srcPattern r.desc) ≤ 64 ∧ mQueue r.desc = 1032) ∧ (tile posts 5).run = some {} ∧ ({} : JobRun).replay = false ∧ 0 < poolFree posts
    ∧ (itemOf posts ({} : JobRun).item).linked = false := ⟨⟨_, rfl, by decide +kernel, by decide +kernel, by decide +kernel⟩, by decide +kernel, rfl, by decide +kernel, by decide +kernel⟩
/-- The two copies of the pointers of queue 1,100 differ. -/
def apart : State := { State.reset with queues := { State.reset.queues with ptrA := [(1100, { items := [{ cells := [] }] })] } }
theorem hyp_QueueOperations_sweep : mismatched apart = [1100] ∧ mismatched State.reset = [] ∧ State.reset.queues.used = State.reset.queues.usedB ∧ (∀ p : PTile, ∀ c : Fin 8, worksOn (chan apart p c) 1100 = false)
    ∧ apart.queues.ptrA.Pairwise (fun a b => a.1 < b.1) ∧ (slotS 64).queues.ptrBad = [] ∧ holderOf { live id with cycle := 9 } (sinceBoundary { live id with cycle := 9 } % 64) = some 5 := by decide +kernel
theorem hyp_MemoryCommands_slots : slotFree { part9 with cycle := 60 } none (pseudoOf 9) = true ∧ slotFree { part9 with cycle := 10 } none (pseudoOf 9) = false ∧ bankBusy State.reset (meadowBank 1) = false ∧ berylWants State.reset (meadowBank 1) = false
    ∧ (∀ p : PTile, meadowWant State.reset p ≠ some (meadowBank 1)) ∧ berylWants { State.reset with beryl := { State.reset.beryl with landing := [{ at_ := meadowBase + 128 }] } } (meadowBank 1) = true := by decide +kernel
theorem hyp_MemoryCommands_fill : ∀ k ∈ [0, 16383], let s := { on5 fun t => { t with scrubUntil := some (k + 16384) } with cycle := 2 * k }
    k = 0 ∨ (tile s 5).scrubUntil = some (s.cycle + 16384 - k) ∧ s.cycle + 16384 = (k + 16384) + k ∧ k < 16384 := by decide +kernel
theorem hyp_RtpIntake_joins : let s := stream 3
    let v : AccessUnit := { rtp := 9000 }
    let t := { s with intake := { s.intake with ctx := s.intake.ctx.map fun c => (c.1, { c.2 with unit := some v }) } }
    (ctxOf t 1023).unit = some v ∧ v.frag = false ∧ (parseRtp (rtp false 0)).map (fun r => (decide (v.rtp = r.ts), r.marker, leAt r.payload 0 1 % 32)) = some (true, false, 1) := by decide +kernel
theorem hyp_DecodeUnits_slot : let s := decodes id
    s.queues.slotAt ≠ s.cycle + 1 ∧ holderOf s (sinceBoundary s % 64) = none ∧ s.queues.ptrBad = [] ∧ freeEngine s = some 0 ∧ (∀ k : Fin 9, (s.intake.engines[k]).job = none) ∧ itemRead s = none := by decide +kernel
/-- Engine 4 has read its item of context 3, flags as given. -/
def readItems (flags : Byte) (poison : Nat) (gap : Bool) : State :=
  { State.reset with intake := { State.reset.intake with ctx := [(3, { state := 3, gapSkip := gap, engine := some 4 })], engines := State.reset.intake.engines.set 4 { job := some { ctx := 3, item := List.replicate 6 0 ++ [flags] ++ List.replicate 121 0, poison := poison } } } }
theorem hyp_DecodeUnits_read : (itemRead (readItems 0 0 false)).map (fun x => (x.1, x.2.poison, leAt x.2.item 6 2 % 2)) = some (4, 0, 0) ∧ (itemRead (readItems 1 0 false)).map (fun x => leAt x.2.item 6 2 % 2) = some 1
    ∧ (itemRead (readItems 0 1 false)).map (fun x => x.2.poison) = some 1 ∧ (ctxOf (readItems 0 0 true) 3).gapSkip = true ∧ (itemRead (readItems 2 0 true)).map (fun x => leAt x.2.item 6 2 / 2 % 2) = some 1 := by decide +kernel
/-- Parameters of a Main-profile stream of one macroblock, and a context that takes it. -/
def seqOk : SeqParams := { profile := 77, compatible := [], constraint1 := false, level := 51, chromaFormat := 1, depthLuma := 8, depthChroma := 8, frameMbsOnly := true, fieldSeq := false, rangeExt := false, left := 0, right := 0, top := 0, bottom := 0, codedWidth := 16, codedHeight := 16, buffering := 1 }
theorem hyp_DecodeUnits_sps : spsCheck (withCfg [(oCtxCodec 3, 1), (oCtxMaxLuma 3, 256), (oCtxDpbSlots 3, 4), (oCtxYPitch 3, 16), (oCtxCPitch 3, 8), (oCtxSlotSize 3, 384)] State.reset) 3 seqOk = 0
    ∧ spsCheck (withCfg [(oCtxCodec 3, 1), (oCtxMaxLuma 3, 255), (oCtxDpbSlots 3, 4), (oCtxYPitch 3, 16), (oCtxCPitch 3, 8), (oCtxSlotSize 3, 384)] State.reset) 3 seqOk ≠ 0 := by decide +kernel

theorem hyp_EthernetPorts_order : let f : EthTx := { cls := 5, dst := [], body := [] }
    let s := port1 { link := true, speed := 10000, queue := [f, { f with cls := 7 }] }
    nextFrame s 1 = some { f with cls := 7 } ∧ wireFree s 1 { f with cls := 7 } = true ∧ gateOpen s 1 (ethPort s 1).wireCls = true ∧ (ethPort s 1).wireX = 0 ∧ (ethPort s 1).wireP = 0
    ∧ wireFree (modPort s 1 fun p => { p with wireX := 10 ^ 6 }) 1 f = false := by decide +kernel
theorem hyp_AddressAnswers_takes : ((ethPort ip1 1).link = true ∧ portSecured ip1 1 = true) ∧ portSecured (port1 { link := true }) 1 = true ∧ (memberships joined 1).find? (fun m => m.1 = cfgBytes joined (oCtxDstAddr 1023)) = some (v4Lead ++ [239, 0, 0, 1], [])
    ∧ (let f : EthTx := { cls := 5, dst := [], src := [], proto := 3, body := List.replicate 8 0 }; frameLen ip1 1 f ≤ 1560 ∧ 1560 < frameLen ip1 1 { f with body := List.replicate 1560 0 }) := by decide +kernel
/-- An alarm of 96 bytes, built by the present cycle. -/
def built : State := { alarm1 with eth := { alarm1.eth with building := [(100, List.replicate 96 0)], alarms := [] } }
theorem hyp_ResultsAndSeals_built : (withCfg [(oAlarmPorts, 1)] built).eth.building = [(100, List.replicate 96 0)] ∧ 100 ≤ built.cycle ∧ ((ethPort (withCfg [(oAlarmPorts, 1)] built) 0).link = true ∧ portSecured (withCfg [(oAlarmPorts, 1)] built) 0 = true) ∧ cfgNat (withCfg [(oAlarmPorts, 1)] built) oAlarmPorts = 1
    ∧ (∀ x ∈ ({ built with cycle := 99 } : State).eth.building, ({ built with cycle := 99 } : State).cycle < x.1) := by decide +kernel
theorem hyp_ResultsAndSeals_slot : let s := egress 56 (some 1) none 0
    s.queues.slotAt ≠ s.cycle + 1 ∧ holderOf s (sinceBoundary s % 64) = none ∧ s.queues.ptrBad = [] ∧ s.queues.egress = none := by decide +kernel
/-- The egress has read a record of 56 bytes, of an item or of a message. -/
def readRecord (item msg : Option Nat) (poison : Nat) (rest : List Nat) : State :=
  { State.reset with queues := { State.reset.queues with egress := some { item := { cells := [0], len := 56, item := item, msg := msg }, cells := rest, bytes := List.replicate 64 0, poison := poison } }, ctrl := { State.reset.ctrl with msgs := [(4, { kind := 2 })] } }
theorem hyp_ResultsAndSeals_read : ((readRecord (some 1) none 0 []).queues.egress).map (fun x => (x.cells, x.poison, wellFormedRecord (x.bytes.take x.item.len) x.item.len)) = some ([], 0, true)
    ∧ ((readRecord (some 1) none 2 []).queues.egress).map (fun x => (x.cells, decide (x.poison ≠ 0))) = some ([], true) ∧ ((readRecord none (some 4) 0 [9]).queues.egress).map (fun x => decide (x.cells ≠ [])) = some true
    ∧ (smGet {} (readRecord none (some 4) 0 []).ctrl.msgs 4).kind = 2 ∧ (readRecord none (some 4) 0 []).ctrl.down = none := by decide +kernel
theorem hyp_TicksAndSteps_place : let s := { withCfg [(oTickSource, 0)] (op 33333334 fun c => { c with guard := true }) with power := { (op 0 id).power with tickOutAt := some 33333334 } }
    boundaryDue s = true ∧ 7 < s.power.phase ∧ s.power.tickOutAt = some s.cycle ∧ ({ s with cycle := 33333334 + 500 } : State).cycle = 33333334 + 500 ∧ State.reset.power.tickOutAt = none
    ∧ ((2000 : Int)).natAbs ≤ 2 * cfgNat (withCfg [(oTickSlewLimit, 1000)] State.reset) oTickSlewLimit := by decide +kernel
theorem hyp_TicksAndSteps_edge_boundary : let s := withCfg [(oTickSource, 2)] (op 33333333 fun c => { c with guard := true, lock := 2, edgeAt := some 0 })
    cfgNat s oTickSource = 2 ∧ ticking s = true ∧ s.ctrl.guard = true ∧ s.ctrl.lock = 2 ∧ s.ctrl.edgeAt = some 0 ∧ edgeError s 0 ≤ cfgNat s oTickTickInWindow ∧ s.alaust.accepted = [] ∧ s.alaust.lcTo = none := by decide +kernel
theorem hyp_TicksAndSteps_frame_loss : let s := withCfg [(oTickSource, 3)] (op 0 fun c => { c with lock := 2, edgesMissed := 4 })
    cfgNat s oTickSource = 3 ∧ s.ctrl.lock ≠ 3 ∧ cfgNat s oTickTickInLoss ≤ s.ctrl.edgesMissed ∧ (op 0 id).ctrl.edgesMissed < cfgNat (op 0 id) oTickTickInLoss := by decide +kernel
theorem hyp_SavesAndStore_carried : let r : PlanRegion := { kind := 2, base := meadowBase, length := 64 }
    let p : Plan := { regions := [{ kind := 1 }, r] }
    (p.regions.filter fun r => r.kind = 2 || r.kind = 3) = [r] ∧ meadowBase ≤ carriedCopy r 0 ∧ (op 0 fun c => { c with plan := some p }).ctrl.plan = some p ∧ State.reset.keep.programBad = []
    ∧ (State.reset.keep.pos + recLen (.reserve 0 0)) / 65536 + 2 ≤ State.reset.keep.ready := by decide +kernel
theorem hyp_AlaustSessions_outer : outerOk 5 (protFrame 40).payload = true ∧ outerOk 3 (protFrame 40).payload = false ∧ outerOk 3 (outerHeader 3 1 0) = true ∧ ((ethPort (host {}) 0).link = true ∧ portSecured (host {}) 0 = true) ∧ (protFrame 1400).payload.length = 1400
    ∧ devel.power.phase > 5 ∧ (phase 5 id).power.phase ≤ 5 := by decide +kernel
theorem hyp_BerylLinks_fresh : (bport (link id []) 1).rxAcks = none ∧ (∀ x ∈ (bport (link (fun p => { p with replay := [(8, {})] }) []) 1).replay, x.1 ≠ head1.ack.toNat) := by decide +kernel
/-- A write of n bytes to Meadow that port 1 has accepted, due in a cycle. -/
def landing (due n : Nat) : State := { link id [(oBerylDeviceId, 200)] with cycle := 100, beryl := { (link id [(oBerylDeviceId, 200)]).beryl with landing := [{ due := due, port := 1, window := 63, at_ := meadowBase, bytes := List.replicate n 1, size := n, reply := { code := 1, dst := 9 } }] } }
theorem hyp_BerylLinks_landing : let x : BLanding := { due := 100, port := 1, window := 63, at_ := meadowBase, bytes := List.replicate 128 1, size := 128, reply := { code := 1, dst := 9 } }
    (landing 100 128).beryl.landing.find? (fun y => y.port = 1 && y.due ≤ (landing 100 128).cycle) = some x ∧ landFree (landing 100 128) x = true ∧ landFree (bankTake (landing 100 128) (meadowBank 0)) x = false
    ∧ x.bytes.length ≤ landLen x ∧ x.reply.dst ≠ deviceId (landing 100 128) ∧ x.reply.code ≠ 0 ∧ (∀ y ∈ (landing 101 1).beryl.landing, y.port = 1 → (landing 101 1).cycle < y.due) := by decide +kernel
theorem hyp_BerylLinks_slot_time : (bport (link (fun p => { p with slotAt := 504 }) []) 1).slotAt < 5 * 100 + 5 ∧ 5 * 100 + 5 ≤ (bport (link (fun p => { p with slotAt := 505 }) []) 1).slotAt
    ∧ (∀ w ∈ ({ link id [] with beryl := { (link id []).beryl with writes := [{ port := 1, frame := { kind := 1, at_ := 1 } }] } } : State).beryl.writes, w.port = 1 → (link id []).cycle < w.frame.at_)
    ∧ ({ kind := 1, at_ := 0 } : BFrame).at_ ≤ (link id []).cycle := by decide +kernel
theorem hyp_BerylLinks_behind : let s := withCfg [(oTickSource, 3), (oTickMasterDevice, 17)] { routed with ctrl := { routed.ctrl with lock := 1, tick := 7 } }
    let v := (linkReceive s 1 head1).getD {}
    v.ctrl.lock ≠ 2 ∧ (6 : Word).toNat < v.ctrl.tick ∧ v.ctrl.tick ≤ (7 : Word).toNat := by decide +kernel
theorem hyp_HealthEvents_bist : (tile (modTile (phase 7 id) 71 fun t => { t with bistEnd := true, power := 0 }) 71).power < 3 := by decide +kernel
theorem hyp_PowerEvents_record : (State.reset.keep.pos + recLen (.powerFail (List.replicate 168 0))) / 65536 + 2 ≤ State.reset.keep.ready := by decide +kernel
theorem hyp_ClocksAndWakeUps_blocks : (80 : Fin 93).val ∈ (phase 8 fun p => { p with waking := [80] }).power.waking ∧ domainState (phase 8 fun p => { p with waking := [80] }) 80 = 4 ∧ domainState (plls [] 0) 80 ≠ 4 := by decide +kernel
theorem hyp_ClocksAndWakeUps_lower : let s := fun k st => modTile (phase 8 fun p => { p with lower := [(71, st)] }) 71 fun t => { t with power := k }
    tileIdle (tile (s 0 2) 71) = true ∧ (tile (s 0 2) 71).power < 3 ∧ 3 ≤ (tile (s 4 2) 71).power ∧ 2 < (tile (s 4 2) 71).power ∧ (71 : PTile).val ∉ (s 4 2).power.waking := by decide +kernel
theorem hyp_StartUpAndRecovery_copies : imageCopies { store 3 fun k => { k with image := [[1], [1]] } with part := { State.reset.part with devices := 2 } } = [1] :: [[1]] ∧ imageCopies (store 3 fun k => { k with image := [] }) = [] ∧ (ethPort (phase 9 id) 1).link = false
    ∧ (ethPort (modPort (phase 9 id) 1 fun p => { p with link := true }) 1).link = true := by decide +kernel

end Sys2Proof.Tests
end

section
/-! PROOFS. The elements of a vector register: what a mask, a put and a merge are at one element (04 R125). -/

namespace Sys2Proof.Proofs

open Sys2Proof Sys2Proof.Machine Sys2Proof.Laws

/-- The union of the masks of some elements. -/
def elemsMask (w : Nat) (l : List Nat) : BitVec 2048 := l.foldl (fun m i => m ||| vElemMask w i) 0

/-- The union of the values x i put at some elements i. -/
def elemsBits (w : Nat) (x : Nat → Nat) (l : List Nat) : BitVec 2048 := l.foldl (fun b i => b ||| vElemPut w i (x i)) 0

theorem testBit_vElemAt (w i : Nat) (v : BitVec 2048) (j : Nat) :
    (vElemAt w i v).testBit j = (decide (j < w) && v.getLsbD (i * w + j)) := by
  simp only [vElemAt, Nat.testBit_mod_two_pow, Nat.testBit_div_two_pow, BitVec.getLsbD, Nat.add_comm j]

/-- Bit j of element e lies within element i when e = i. -/
theorem bit_in_element_iff {w e i j : Nat} (hj : j < w) : (i * w ≤ e * w + j ∧ e * w + j - i * w < w) ↔ i = e := by
  constructor
  · rintro ⟨hlo, hhi⟩
    rcases Nat.lt_trichotomy i e with h | h | h
    · have := Nat.mul_le_mul_right w (Nat.succ_le_of_lt h)
      rw [Nat.succ_mul] at this
      omega
    · exact h
    · have := Nat.mul_le_mul_right w (Nat.succ_le_of_lt h)
      rw [Nat.succ_mul] at this
      omega
  · rintro rfl
    omega

theorem getLsbD_vElemPut {w e j : Nat} (i v : Nat) (hj : j < w) (he : e * w + j < 2048) :
    (vElemPut w i v).getLsbD (e * w + j) = (decide (i = e) && v.testBit j) := by
  have hin := bit_in_element_iff (i := i) (e := e) hj
  simp only [vElemPut, BitVec.getLsbD_ofNat, he, decide_true, Bool.true_and, Nat.testBit_mul_two_pow, Nat.testBit_mod_two_pow]
  by_cases h : i = e
  · subst h
    simp [hj]
  · have : ¬ (i * w ≤ e * w + j ∧ e * w + j - i * w < w) := fun x => h (hin.mp x)
    rw [decide_eq_false h, Bool.false_and, ← Bool.and_assoc, ← Bool.decide_and, decide_eq_false this, Bool.false_and]

theorem vElemMask_eq_vElemPut (w i : Nat) : vElemMask w i = vElemPut w i (2 ^ w - 1) := by
  have : 2 ^ w - 1 < 2 ^ w := Nat.sub_lt (Nat.two_pow_pos w) Nat.one_pos
  rw [vElemMask, vElemPut, Nat.mod_eq_of_lt this]

theorem getLsbD_vElemMask {w e j : Nat} (i : Nat) (hj : j < w) (he : e * w + j < 2048) :
    (vElemMask w i).getLsbD (e * w + j) = decide (i = e) := by
  rw [vElemMask_eq_vElemPut, getLsbD_vElemPut i _ hj he]
  simp [hj]

theorem getLsbD_elemsMask {w e j : Nat} (l : List Nat) (hj : j < w) (he : e * w + j < 2048) :
    (elemsMask w l).getLsbD (e * w + j) = decide (e ∈ l) := by
  have acc (m : BitVec 2048) : (l.foldl (fun m i => m ||| vElemMask w i) m).getLsbD (e * w + j) = (m.getLsbD (e * w + j) || decide (e ∈ l)) := by
    induction l generalizing m with
    | nil => simp
    | cons i l ih => simp [ih, getLsbD_vElemMask i hj he, eq_comm, Bool.or_assoc]
  simp [elemsMask, acc]

theorem getLsbD_elemsBits {w e j : Nat} (x : Nat → Nat) (l : List Nat) (hj : j < w) (he : e * w + j < 2048) :
    (elemsBits w x l).getLsbD (e * w + j) = (decide (e ∈ l) && (x e).testBit j) := by
  have acc (b : BitVec 2048) : (l.foldl (fun b i => b ||| vElemPut w i (x i)) b).getLsbD (e * w + j) = (b.getLsbD (e * w + j) || (decide (e ∈ l) && (x e).testBit j)) := by
    induction l generalizing b with
    | nil => simp
    | cons i l ih =>
      have hput : (decide (i = e) && (x i).testBit j) = (decide (e = i) && (x e).testBit j) := by
        by_cases h : i = e
        · simp [h]
        · simp [h, Ne.symm h]
      simp [ih, getLsbD_vElemPut i _ hj he, hput, Bool.or_assoc, Bool.and_or_distrib_right]
  simp [elemsBits, acc]

theorem getLsbD_vMerge (old mask bits : BitVec 2048) (n : Nat) :
    (vMerge old mask bits).getLsbD n = if mask.getLsbD n then bits.getLsbD n else old.getLsbD n := by
  by_cases h : n < 2048
  · cases hm : mask.getLsbD n <;> simp [vMerge, h, hm, -BitVec.getLsbD_eq_getElem]
  · simp [BitVec.getLsbD_of_ge _ n (Nat.le_of_not_lt h)]

/-- A merge writes the elements of the list. -/
theorem vElemAt_vMerge_of_mem {w e : Nat} {l : List Nat} (old : BitVec 2048) (x : Nat → Nat) (hmem : e ∈ l) (he : e * w + w ≤ 2048) :
    vElemAt w e (vMerge old (elemsMask w l) (elemsBits w x l)) = x e % 2 ^ w := by
  refine Nat.eq_of_testBit_eq fun j => ?_
  rw [testBit_vElemAt, Nat.testBit_mod_two_pow]
  by_cases hj : j < w
  · have hbit : e * w + j < 2048 := by omega
    simp [getLsbD_vMerge, getLsbD_elemsMask l hj hbit, getLsbD_elemsBits x l hj hbit, hmem, -BitVec.getLsbD_eq_getElem]
  · simp [hj]

/-- A merge keeps every element outside the list. -/
theorem vElemAt_vMerge_of_notMem {w e : Nat} {l : List Nat} (old : BitVec 2048) (x : Nat → Nat) (hmem : e ∉ l) (he : e * w + w ≤ 2048) :
    vElemAt w e (vMerge old (elemsMask w l) (elemsBits w x l)) = vElemAt w e old := by
  refine Nat.eq_of_testBit_eq fun j => ?_
  rw [testBit_vElemAt, testBit_vElemAt]
  by_cases hj : j < w
  · have hbit : e * w + j < 2048 := by omega
    simp [getLsbD_vMerge, getLsbD_elemsMask l hj hbit, hmem, -BitVec.getLsbD_eq_getElem]
  · simp [hj]

theorem elemsMask_ne_zero {w e : Nat} {l : List Nat} (hw : 0 < w) (hmem : e ∈ l) (he : e * w + w ≤ 2048) : elemsMask w l ≠ 0 := by
  intro hzero
  have hbit := getLsbD_elemsMask (e := e) l hw (by omega)
  simp [hzero, hmem] at hbit

end Sys2Proof.Proofs
end

section
/-! PROOFS. What the cycle of one lane of a vector operation puts in flight (04 R134, R152, R156, R164). -/

namespace Sys2Proof.Proofs

open Sys2Proof Sys2Proof.Machine Sys2Proof.Laws

/-- A tile with results put in flight behind those that it has. -/
def addSched (t : Tile) (l : List Sched) : Tile := { t with sched := t.sched ++ l }

theorem addSched_nil (t : Tile) : addSched t [] = t := by simp [addSched]

theorem addSched_addSched (t : Tile) (l m : List Sched) : addSched (addSched t l) m = addSched t (l ++ m) := by
  simp [addSched]

/-- The bits of a register that a lane lands, if it lands any. -/
def laneNews (due issue : Nat) (r : Fin 32) (b : BitVec 2048 × BitVec 2048) : List Sched :=
  if b.1 = 0 then [] else [{ due := due, issue := issue, act := .vLane r b.1 b.2 }]

/-- The sticky flags that a lane raises, if it raises any. -/
def flagNews (due issue : Nat) (f : BitVec 32) : List Sched :=
  if f = 0 then [] else [{ due := due, issue := issue, act := .vewSticky f }]

/-- The next lane of the operation, up to lane 7. -/
def nextLane (now issue : Nat) (op : VOp) (k : Nat) : List Sched :=
  if k < 7 then [{ due := now + 1, issue := issue, act := .vExec op (k + 1) }] else []

/-- What lane k of a lane-local operation puts in flight. -/
def localNews (t : Tile) (now issue : Nat) (op : VOp) (k : Nat) : List Sched :=
  let due := now + vLatency (vOpc op.word) (vSub op.word) op.ew
  let r := vLaneBits op t k
  laneNews due issue (vVd op.word) r.1 ++ laneNews due issue (vNext (vVd op.word)) r.2.1 ++ flagNews due issue r.2.2 ++ nextLane now issue op k

/-- What lane k of vpick or of a cross-lane operation puts in flight. -/
def crossNews (t : Tile) (now issue : Nat) (op : VOp) (k : Nat) : List Sched :=
  let w := op.word
  let due := issue + vLatency (vOpc w) (vSub w) op.ew
  let op := { op with src2 := capture op.src2 t.v[if vOpc w = 0x0A then vVs2Low w else vVs2 w] k, src1 := capture op.src1 t.v[vSrc1 w] k }
  if k < 7 then nextLane now issue op k
  else if vOpc w = 0x0A then
    let i := op.scalar.toNat
    if op.dst.val = 0 then [] else [{ due := due, issue := issue, act := .vgReg op.dst (if i < vlMax op.ew then BitVec.ofInt 64 (signedOf op.ew (vElemAt op.ew i op.src2)) else 0) }]
  else
    let r := vCrossBits op t.v[vVd w]
    { due := due, issue := issue, act := .vLane (vVd w) r.1 r.2.1 } :: flagNews due issue r.2.2

/-- What lane k of a vector operation puts in flight. -/
def execNews (t : Tile) (now issue : Nat) (op : VOp) (k : Nat) : List Sched :=
  if vCross (vOpc op.word) || vOpc op.word = 0x0A || vOpc op.word = 0x0B then crossNews t now issue op k else localNews t now issue op k

/-- Lane k of the operation reads a byte of bad parity. -/
def readsBad (t : Tile) (op : VOp) (k : Nat) : Bool :=
  (vReads op.word).any (laneBad t k) || (k = 0 && (vReadsAtIssue op.word).any (laneBad t 0))

theorem landAt_eq_addSched (t : Tile) (due issue : Nat) (act : Act) : landAt t due issue act = addSched t [{ due := due, issue := issue, act := act }] := rfl

theorem ite_addSched (c : Prop) [Decidable c] (t : Tile) (l m : List Sched) :
    (if c then addSched t l else addSched t m) = addSched t (if c then l else m) := (apply_ite (addSched t) c l m).symm

theorem ite_self_addSched (c : Prop) [Decidable c] (t : Tile) (m : List Sched) : (if c then t else addSched t m) = addSched t (if c then [] else m) := by
  rw [← ite_addSched, addSched_nil]

theorem ite_addSched_self (c : Prop) [Decidable c] (t : Tile) (l : List Sched) : (if c then addSched t l else t) = addSched t (if c then l else []) := by
  rw [← ite_addSched, addSched_nil]

theorem landVew_eq_addSched (t : Tile) (due issue : Nat) (f : BitVec 32) : landVew t due issue f = addSched t (flagNews due issue f) :=
  ite_self_addSched ..

theorem landLane_eq_addSched (t : Tile) (due issue : Nat) (r : Fin 32) (b : BitVec 2048 × BitVec 2048) :
    (if b.1 = 0 then t else landAt t due issue (.vLane r b.1 b.2)) = addSched t (laneNews due issue r b) :=
  ite_self_addSched ..

theorem landNext_eq_addSched (t : Tile) (now issue : Nat) (op : VOp) (k : Nat) :
    (if k < 7 then landAt t (now + 1) issue (.vExec op (k + 1)) else t) = addSched t (nextLane now issue op k) :=
  ite_addSched_self ..

/-- One lane of a vector operation puts results in flight and does nothing else, but for VLANE_PARITY (04 R152, R156). -/
theorem vExecLane_eq (s : State) (p : PTile) (issue : Nat) (op : VOp) (k : Nat) :
    vExecLane s p issue op k =
      let u := modTile s p fun t => addSched t (execNews (tile s p) s.cycle issue op k)
      if readsBad (tile s p) op k then stepFault u p cVlaneParity 0 else u := by
  simp only [vExecLane, execNews, readsBad]
  by_cases hx : (vCross (vOpc op.word) || decide (vOpc op.word = 0x0A) || decide (vOpc op.word = 0x0B)) = true
  · simp only [if_pos hx, crossNews, nextLane, landVew_eq_addSched, landAt_eq_addSched, ite_self_addSched, addSched_addSched, List.cons_append, List.nil_append]
    by_cases hk : k < 7
    · simp only [if_pos hk]
    · by_cases ha : vOpc op.word = 0x0A
      · simp only [if_neg hk, if_pos ha]
      · simp only [if_neg hk, if_neg ha]
  · simp only [if_neg hx, localNews, landLane_eq_addSched, landVew_eq_addSched, landNext_eq_addSched, addSched_addSched]

/-- A tile update counts only by what it makes of the present tile. -/
theorem modTile_congr {s : State} {p : PTile} {f g : Tile → Tile} (h : f (tile s p) = g (tile s p)) : modTile s p f = modTile s p g :=
  congrArg (fun x => { s with tiles := s.tiles.set p.val x p.isLt }) h

/-- Without a byte of bad parity a lane only puts its results in flight. -/
theorem vExecLane_sound {s : State} {p : PTile} {issue : Nat} {op : VOp} {k : Nat} (h : readsBad (tile s p) op k = false) :
    vExecLane s p issue op k = modTile s p fun t => addSched t (execNews (tile s p) s.cycle issue op k) := by
  simp [vExecLane_eq, h]

theorem readsBad_clear (t : Tile) (op : VOp) (k : Nat) : readsBad { t with vBad := [] } op k = false := by
  simp [readsBad, laneBad]

/-- A byte of bad parity changes nothing but that VLANE_PARITY is raised (04 R156). -/
theorem vExecLane_bad {s : State} {p : PTile} {issue : Nat} {op : VOp} {k : Nat} (h : readsBad (tile s p) op k = true) :
    vExecLane s p issue op k = stepFault (modTile (vExecLane (modTile s p fun t => { t with vBad := [] }) p issue op k) p fun t => { t with vBad := (tile s p).vBad }) p cVlaneParity 0 := by
  have hclear : readsBad (tile (modTile s p fun t => { t with vBad := [] }) p) op k = false := by
    rw [tile_modTile_self]
    exact readsBad_clear ..
  rw [vExecLane_sound hclear, vExecLane_eq, h, if_pos rfl, modTile_modTile, modTile_modTile]
  refine congrArg (stepFault · p cVlaneParity 0) (modTile_congr ?_)
  rw [tile_modTile_self]
  rfl

/-- The result of a lane-local operation at element i, where it neither widens nor narrows (04 R136, R164). -/
def laneResult (op : VOp) (t : Tile) (i : Nat) : FRes :=
  let w := op.word
  vElemOp (vOpc w) (vSub w) op.ew op.frm (vElemAt op.ew i t.v[vVs2 w]) (vX1 op t.v[vSrc1 w] i) (vElemAt op.ew i t.v[vVd w]) (op.mask.getLsbD i)

/-- An operation with one result register lands the results of its elements there, and nothing in the next register. -/
theorem vLaneBits_eq {op : VOp} (t : Tile) (k : Nat) (hw : vWidens (vOpc op.word) = false) (hn : vNarrows (vOpc op.word) = false) :
    ∃ f, vLaneBits op t k = ((elemsMask op.ew (laneElems op k), elemsBits op.ew (fun i => (laneResult op t i).1) (laneElems op k)), (0, 0), f) := by
  have acc (l : List Nat) (m b : BitVec 2048) (c : BitVec 32) :
      ∃ f, l.foldl (fun a i => ((a.1.1 ||| vElemMask op.ew i, a.1.2 ||| vElemPut op.ew i (laneResult op t i).1), a.2.1, a.2.2 ||| (laneResult op t i).2)) ((m, b), ((0, 0) : BitVec 2048 × BitVec 2048), c)
        = ((l.foldl (fun m i => m ||| vElemMask op.ew i) m, l.foldl (fun b i => b ||| vElemPut op.ew i (laneResult op t i).1) b), (0, 0), f) := by
    induction l generalizing m b c with
    | nil => exact ⟨c, rfl⟩
    | cons i l ih => exact ih ..
  obtain ⟨f, hf⟩ := acc (laneElems op k) 0 0 0
  refine ⟨f, ?_⟩
  simp only [vLaneBits, hw, hn, Bool.false_eq_true, if_false]
  exact hf

/-- The elements of lane k that an operation processes (04 R125, R134). -/
theorem mem_laneElems {op : VOp} {k i : Nat} (hew : 0 < 256 / op.ew) :
    i ∈ laneElems op k ↔ i / (256 / op.ew) = k ∧ i < op.vl ∧ (op.word.getLsbD 10 = true → (vOpc op.word = 0x17 ∧ vSub op.word = 0) ∨ op.mask.getLsbD i = true) := by
  have hlane : (∃ a < 256 / op.ew, 256 / op.ew * k + a = i) ↔ i / (256 / op.ew) = k := by
    constructor
    · rintro ⟨a, ha, rfl⟩
      rw [Nat.mul_add_div hew, Nat.div_eq_of_lt ha, Nat.add_zero]
    · rintro rfl
      exact ⟨i % (256 / op.ew), Nat.mod_lt _ hew, Nat.div_add_mod ..⟩
  have hbit : bitAt 10 op.word.toNat = op.word.getLsbD 10 := by
    simp [bitAt, BitVec.getLsbD, Nat.testBit_eq_decide_div_mod_eq]
  simp only [laneElems, List.mem_filter, List.mem_map, List.mem_range, hlane, hbit]
  by_cases hblend : vOpc op.word = 0x17 ∧ vSub op.word = 0
  · simp [hblend]
  · cases op.word.getLsbD 10 <;> simp [hblend]

end Sys2Proof.Proofs
end

section
/-! PROOFS. O28: the elements that a lane of a lane-local operation lands. -/

namespace Sys2Proof.Proofs

open Sys2Proof Sys2Proof.Machine Sys2Proof.Laws

/-- The opcodes of O28 are lane-local and have one result register. -/
theorem one_result_opcode : ∀ o ∈ [0x10, 0x11, 0x12, 0x15, 0x17, 0x20, 0x21, 0x23],
    (vCross o || o = 0x0A || o = 0x0B) = false ∧ vWidens o = false ∧ vNarrows o = false := by decide

/-- The element widths of 04 R125 divide a lane. -/
theorem lane_width : ∀ w ∈ [8, 16, 32, 64], 0 < w ∧ 0 < 256 / w := by decide

/-- An element below VLMAX lies within the register. -/
theorem elem_fits {w i : Nat} (hw : 0 < w) (hi : i < 2048 / w) : i * w + w ≤ 2048 := by
  have := (Nat.le_div_iff_mul_le hw).mp (Nat.succ_le_of_lt hi)
  rwa [Nat.succ_mul] at this

theorem laneNews_zero (due issue : Nat) (r : Fin 32) : laneNews due issue r (0, 0) = [] := if_pos rfl

/-- What lane k of an operation with one result register puts in flight. -/
theorem execNews_eq {op : VOp} (t : Tile) (now issue k : Nat) (hop : vOpc op.word ∈ [0x10, 0x11, 0x12, 0x15, 0x17, 0x20, 0x21, 0x23]) :
    ∃ f, execNews t now issue op k
      = laneNews (now + vLatency (vOpc op.word) (vSub op.word) op.ew) issue (vVd op.word)
          (elemsMask op.ew (laneElems op k), elemsBits op.ew (fun i => (laneResult op t i).1) (laneElems op k))
        ++ flagNews (now + vLatency (vOpc op.word) (vSub op.word) op.ew) issue f ++ nextLane now issue op k := by
  obtain ⟨hlocal, hw, hn⟩ := one_result_opcode _ hop
  obtain ⟨f, hf⟩ := vLaneBits_eq t k hw hn
  refine ⟨f, ?_⟩
  rw [execNews, hlocal, if_neg Bool.false_ne_true]
  simp only [localNews, hf, laneNews_zero, List.append_nil]

theorem mem_laneNews {due issue : Nat} {r : Fin 32} {b : BitVec 2048 × BitVec 2048} {e : Sched} :
    e ∈ laneNews due issue r b ↔ b.1 ≠ 0 ∧ e = { due := due, issue := issue, act := .vLane r b.1 b.2 } := by
  rw [laneNews, List.mem_ite_nil_left, List.mem_singleton]

theorem mem_flagNews {due issue : Nat} {f : BitVec 32} {e : Sched} :
    e ∈ flagNews due issue f ↔ f ≠ 0 ∧ e = { due := due, issue := issue, act := .vewSticky f } := by
  rw [flagNews, List.mem_ite_nil_left, List.mem_singleton]

theorem mem_nextLane {now issue k : Nat} {op : VOp} {e : Sched} :
    e ∈ nextLane now issue op k ↔ k < 7 ∧ e = { due := now + 1, issue := issue, act := .vExec op (k + 1) } := by
  rw [nextLane, List.mem_ite_nil_right, List.mem_singleton]

/-- Settles O28: a lane lands one mask and one value, the union of those of its elements, so each element is read back alone. -/
theorem vectorLaneResults : Obligations.VectorLaneResults := by
  refine ⟨fun s p issue k op _ hew hvl hop hsound => ?_, fun s p issue k op hbad => ⟨_, rfl, vExecLane_bad ?_⟩⟩
  · intro t active
    obtain ⟨hw0, hq0⟩ := lane_width _ hew
    have hactive (i : Nat) : active i ↔ i ∈ laneElems op k := (mem_laneElems hq0).symm
    have hgood : readsBad (tile s p) op k = false := by simpa [readsBad] using hsound
    obtain ⟨f, hnews⟩ := execNews_eq (tile s p) s.cycle issue k hop
    refine ⟨execNews (tile s p) s.cycle issue op k, vExecLane_sound hgood, fun i hi => ?_, ?_, ?_, ?_⟩
    · have hfits : i * op.ew + op.ew ≤ 2048 := elem_fits hw0 (Nat.lt_of_lt_of_le hi.2.1 hvl)
      have hmem := (hactive i).mp hi
      refine ⟨elemsMask op.ew (laneElems op k), elemsBits op.ew (fun i => (laneResult op t i).1) (laneElems op k), ?_,
        fun old => vElemAt_vMerge_of_mem old (fun i => (laneResult op t i).1) hmem hfits⟩
      rw [hnews, List.append_assoc]
      exact List.mem_append_left _ (mem_laneNews.mpr ⟨elemsMask_ne_zero hw0 hmem hfits, rfl⟩)
    · intro e he r m b hact
      simp only [hnews, List.mem_append, mem_laneNews, mem_flagNews, mem_nextLane] at he
      rcases he with (⟨-, rfl⟩ | ⟨-, rfl⟩) | ⟨-, rfl⟩
      · obtain ⟨rfl, rfl, rfl⟩ := Act.vLane.inj hact
        exact ⟨rfl, fun i hi hoff old => vElemAt_vMerge_of_notMem old _ (fun h => hoff ((hactive i).mpr h)) (elem_fits hw0 hi)⟩
      · cases hact
      · cases hact
    · simp [hnews, mem_laneNews, mem_flagNews, mem_nextLane]
    · intro e he
      simp only [hnews, List.mem_append, mem_laneNews, mem_flagNews, mem_nextLane] at he
      rcases he with (⟨-, rfl⟩ | ⟨-, rfl⟩) | ⟨-, rfl⟩
      · exact .inl ⟨_, _, _, rfl⟩
      · exact .inr (.inl ⟨_, rfl⟩)
      · exact .inr (.inr rfl)
  · simpa [readsBad] using hbad

end Sys2Proof.Proofs
end

section
/-! PROOFS. Little-endian fields of a list of bytes (00 R9), and a key of a sparse table after a change. -/

namespace Sys2Proof.Proofs

open Sys2Proof Sys2Proof.Machine Sys2Proof.Laws

@[simp] theorem length_leBytes (n v : Nat) : (leBytes n v).length = n := by
  induction n generalizing v with
  | zero => rfl
  | succ n ih => simp [leBytes, ih]

theorem leNat_leBytes (n v : Nat) : leNat (leBytes n v) = v % 256 ^ n := by
  induction n generalizing v with
  | zero => simp [leBytes, leNat, Nat.mod_one]
  | succ n ih => rw [leBytes, leNat, ih, Nat.pow_succ', Nat.mod_mul, BitVec.toNat_ofNat]

@[simp] theorem length_slice (b : List Byte) (o n : Nat) : (slice b o n).length = n := by
  simp only [slice, List.length_append, List.length_replicate, List.length_take]
  omega

/-- A slice of three lists joined that starts and ends with the second is the second. -/
theorem slice_middle {x a b r : List Byte} {o n : Nat} (hx : x = a ++ (b ++ r)) (ha : a.length = o) (hb : b.length = n) : slice x o n = b := by
  subst hx ha hb
  simp [slice]

@[simp] theorem smGet_smPut_self {α : Type} (d : α) (m : SMap α) (k : Nat) (v : α) : smGet d (smPut m k v) k = v := by
  induction m with
  | nil => simp [smPut, smGet]
  | cons x m ih =>
    obtain ⟨j, w⟩ := x
    by_cases hlt : k < j
    · simp [smPut, smGet, hlt]
    · by_cases heq : j = k
      · simp [smPut, smGet, heq]
      · simp [smPut, smGet, hlt, heq, ih]

@[simp] theorem smGet_smDel_self {α : Type} (d : α) (m : SMap α) (k : Nat) : smGet d (smDel m k) k = d := by
  induction m with
  | nil => rfl
  | cons x m ih =>
    obtain ⟨j, w⟩ := x
    by_cases heq : j = k
    · simpa [smDel, heq] using ih
    · by_cases hlt : k < j
      · simp [smDel, smGet, heq, hlt]
      · simpa [smDel, smGet, heq, hlt] using ih

end Sys2Proof.Proofs
end

section
/-! PROOFS. Rules of the intake's state: a context after a change, and what each helper of the intake leaves unchanged (10 R320 to R329). -/

namespace Sys2Proof.Proofs

open Sys2Proof Sys2Proof.Machine Sys2Proof.Laws

@[simp] theorem ctxOf_modCtx_self (s : State) (c : Nat) (f : Ctx → Ctx) : ctxOf (modCtx s c f) c = f (ctxOf s c) := by
  change smGet {} (if f (ctxOf s c) = {} then smDel s.intake.ctx c else smPut s.intake.ctx c (f (ctxOf s c))) c = f (ctxOf s c)
  by_cases h : f (ctxOf s c) = {}
  · rw [if_pos h, smGet_smDel_self, h]
  · rw [if_neg h, smGet_smPut_self]

/-- A context is read from the intake alone. -/
theorem ctxOf_congr {s t : State} (h : t.intake = s.intake) (c : Nat) : ctxOf t c = ctxOf s c := by rw [ctxOf, h, ctxOf]

@[simp] theorem ctxOf_roPut (s : State) (k v c : Nat) : ctxOf (roPut s k v) c = ctxOf s c := ctxOf_congr (roPut_intake ..) c
@[simp] theorem ctxOf_roAdd (s : State) (k n c : Nat) : ctxOf (roAdd s k n) c = ctxOf s c := ctxOf_congr (roAdd_intake ..) c
@[simp] theorem ctxOf_countDropped (s : State) (a c : Nat) : ctxOf (countDropped s a) c = ctxOf s c := ctxOf_roAdd ..
@[simp] theorem countDropped_tiles (s : State) (c : Nat) : (countDropped s c).tiles = s.tiles := roAdd_tiles ..
@[simp] theorem countDropped_queues (s : State) (c : Nat) : (countDropped s c).queues = s.queues := roAdd_queues ..
@[simp] theorem countDropped_hbm (s : State) (c : Nat) : (countDropped s c).hbm = s.hbm := roAdd_hbm ..
@[simp] theorem ringWrite_tiles (s : State) (c o : Nat) (b : List Byte) : (ringWrite s c o b).tiles = s.tiles := rfl
@[simp] theorem ctxOf_ringWrite (s : State) (c o : Nat) (b : List Byte) (a : Nat) : ctxOf (ringWrite s c o b) a = ctxOf s a := rfl
@[simp] theorem addPacket_tiles (s : State) (c : Nat) (r : Rtp) (g : Bool) : (addPacket s c r g).tiles = s.tiles := rfl
@[simp] theorem addPacket_queues (s : State) (c : Nat) (r : Rtp) (g : Bool) : (addPacket s c r g).queues = s.queues := rfl
@[simp] theorem addPacket_hbm (s : State) (c : Nat) (r : Rtp) (g : Bool) : (addPacket s c r g).hbm = s.hbm := rfl
@[simp] theorem addPacket_cfg (s : State) (c : Nat) (r : Rtp) (g : Bool) : (addPacket s c r g).cfg = s.cfg := rfl
@[simp] theorem addPacket_cycle (s : State) (c : Nat) (r : Rtp) (g : Bool) : (addPacket s c r g).cycle = s.cycle := rfl
@[simp] theorem enterWait_tiles (s : State) (c code n : Nat) (b : Bool) : (enterWait s c code n b).tiles = s.tiles := by
  simp [enterWait, streamEvent, postMsg]
@[simp] theorem enterWait_high (s : State) (c code n : Nat) (b : Bool) : (ctxOf (enterWait s c code n b) c).high = (ctxOf s c).high := by
  have hsame : ctxOf (streamEvent (notify (roPut (roAdd s (oCtxResyncs c) 1) (oCtxLastCode c) code) code 1 c (leBytes 4 n)) c code n) c = ctxOf s c :=
    ctxOf_congr (by simp [streamEvent, postMsg]) c
  simp [enterWait, hsame]

/-- A configured number is read from the dictionary alone. -/
theorem cfgNat_congr {s t : State} (h : t.cfg = s.cfg) (k : Nat) : cfgNat t k = cfgNat s k := by rw [cfgNat, h, cfgNat]

theorem qLimit_congr {s t : State} (hc : t.cfg = s.cfg) (q : Nat) : qLimit t q = qLimit s q := by
  simp only [qLimit, cfgNat_congr hc]

theorem poolOpen_congr {s t : State} (hq : t.queues = s.queues) (ht : t.tiles = s.tiles) : poolOpen t = poolOpen s := by
  simp only [poolOpen, poolFree, cellsOwed, hq, ht]

theorem queueFill_congr {s t : State} (hq : t.queues = s.queues) (q : Nat) : queueFill t q = queueFill s q := by
  simp only [queueFill, queueOf, hq]

/-- Admission of a unit looks at queues, tiles and the dictionary (09 R308). -/
theorem unitAdmitted_congr {s t : State} (hq : t.queues = s.queues) (ht : t.tiles = s.tiles) (hc : t.cfg = s.cfg) (c : Nat) : unitAdmitted t c = unitAdmitted s c := by
  rw [unitAdmitted, admits, qLimit_congr hc, poolOpen_congr hq ht, queueFill_congr hq, cfgNat_congr hc, hq, unitAdmitted, admits]

/-- The bytes held of a ring depend on the units of its context and the ring's size (10 R327). -/
theorem ringHeld_congr {s t : State} {c : Nat} (hr : (ctxOf t c).ring = (ctxOf s c).ring) (hp : (ctxOf t c).ringPos = (ctxOf s c).ringPos) (hc : t.cfg = s.cfg) :
    ringHeld t c = ringHeld s c := by
  simp only [ringHeld, hr, hp, cfgNat_congr hc]

/-- The tokens depend on the context's bucket, the time and the dictionary (10 R334). -/
theorem tokensNow_congr {s t : State} {c : Nat} (hn : (ctxOf t c).tokens = (ctxOf s c).tokens) (ha : (ctxOf t c).tokensAt = (ctxOf s c).tokensAt)
    (hy : t.cycle = s.cycle) (hc : t.cfg = s.cfg) : tokensNow t c = tokensNow s c := by
  simp only [tokensNow, bucketDepth, declaredLoad, hn, ha, hy, cfgNat_congr hc]

end Sys2Proof.Proofs
end

section
/-! PROOFS. One RTP packet and the completion of its unit, for single H.264 NAL units (01 R26 to R28; 10 R324 to R328). -/

namespace Sys2Proof.Proofs

open Sys2Proof Sys2Proof.Machine Sys2Proof.Laws

/-- How far a sequence number is ahead of the highest accepted one. -/
def ahead (seq high : Nat) : Nat := (seq + 65536 - high) % 65536

/-- The state once a packet is accepted as the highest: a jump is counted (01 R28, 10 R324). -/
def acceptSeq (s : State) (c seq : Nat) (gap : Prop) [Decidable gap] : State :=
  modCtx (if gap then roAdd s (oCtxSeqGaps c) 1 else s) c fun y => { y with high := some seq }

@[simp] theorem ctxOf_acceptSeq (s : State) (c seq : Nat) (gap : Prop) [Decidable gap] : ctxOf (acceptSeq s c seq gap) c = { ctxOf s c with high := some seq } := by
  by_cases h : gap <;> simp [acceptSeq, h]

@[simp] theorem acceptSeq_tiles (s : State) (c seq : Nat) (gap : Prop) [Decidable gap] : (acceptSeq s c seq gap).tiles = s.tiles := by by_cases h : gap <;> simp [acceptSeq, h]
@[simp] theorem acceptSeq_queues (s : State) (c seq : Nat) (gap : Prop) [Decidable gap] : (acceptSeq s c seq gap).queues = s.queues := by by_cases h : gap <;> simp [acceptSeq, h]
@[simp] theorem acceptSeq_hbm (s : State) (c seq : Nat) (gap : Prop) [Decidable gap] : (acceptSeq s c seq gap).hbm = s.hbm := by by_cases h : gap <;> simp [acceptSeq, h]
@[simp] theorem acceptSeq_cfg (s : State) (c seq : Nat) (gap : Prop) [Decidable gap] : (acceptSeq s c seq gap).cfg = s.cfg := by by_cases h : gap <;> simp [acceptSeq, h]
@[simp] theorem acceptSeq_cycle (s : State) (c seq : Nat) (gap : Prop) [Decidable gap] : (acceptSeq s c seq gap).cycle = s.cycle := by by_cases h : gap <;> simp [acceptSeq, h]
@[simp] theorem nowNs_acceptSeq (s : State) (c seq : Nat) (gap : Prop) [Decidable gap] : nowNs (acceptSeq s c seq gap) = nowNs s := by by_cases h : gap <;> simp [acceptSeq, h, nowNs, timeAt]

/-- A packet not ahead of the highest accepted number is counted as late (10 R324). -/
theorem contextPacket_late {s : State} {c h : Nat} {r : Rtp} (hh : (ctxOf s c).high = some h) (hd : ahead r.seq h = 0 ∨ 32768 < ahead r.seq h) :
    contextPacket s c r = roAdd s (oCtxLatePackets c) 1 := by
  rw [ahead] at hd
  simp [contextPacket, hh, hd]

/-- The state once a packet has joined its unit. -/
def joined (s : State) (c h : Nat) (r : Rtp) : State := addPacket (acceptSeq s c r.seq (ahead r.seq h ≠ 1)) c r (decide (ahead r.seq h ≠ 1))

@[simp] theorem joined_tiles (s : State) (c h : Nat) (r : Rtp) : (joined s c h r).tiles = s.tiles := by simp [joined]
@[simp] theorem joined_queues (s : State) (c h : Nat) (r : Rtp) : (joined s c h r).queues = s.queues := by simp [joined]
@[simp] theorem joined_hbm (s : State) (c h : Nat) (r : Rtp) : (joined s c h r).hbm = s.hbm := by simp [joined]
@[simp] theorem joined_cfg (s : State) (c h : Nat) (r : Rtp) : (joined s c h r).cfg = s.cfg := by simp [joined]
@[simp] theorem joined_cycle (s : State) (c h : Nat) (r : Rtp) : (joined s c h r).cycle = s.cycle := by simp [joined]

/-- A timestamp is not later than itself. -/
@[simp] theorem laterStamp_self (t : BitVec 32) : laterStamp t t = false := by
  rw [laterStamp, BitVec.sub_self]
  rfl

/-- A packet ahead that finds no older unit joins the unit of its timestamp; the marker completes it (10 R324, R325). -/
theorem contextPacket_joins {s : State} {c h : Nat} {r : Rtp} (hh : (ctxOf s c).high = some h) (hpos : 0 < ahead r.seq h) (hle : ahead r.seq h ≤ 32768)
    (hunit : ∀ u, (ctxOf s c).unit = some u → laterStamp r.ts u.rtp = false) :
    contextPacket s c r = if r.marker then completeUnit (joined s c h r) c else joined s c h r := by
  have hin : ¬ (ahead r.seq h = 0 ∨ 32768 < ahead r.seq h) := by omega
  rw [ahead] at hin
  simp only [contextPacket, hh, Bool.or_eq_true, decide_eq_true_eq, if_neg hin]
  cases hu : (ctxOf s c).unit with
  | none => rfl
  | some u =>
    simp only [hunit u hu, Bool.not_false, if_true]
    rfl

/-- A unit with one whole H.264 NAL unit more, in Annex B form (10 R325, R326). -/
def withNal (v : AccessUnit) (gap : Bool) (nal : List Byte) : AccessUnit :=
  { v with bytes := v.bytes ++ [0, 0, 0, 1] ++ nal, damaged := v.damaged || gap, idr := v.idr || decide (leAt nal 0 1 % 32 = 5), fragBytes := [] }

/-- The unit that a packet opens (10 R325). -/
def newUnit (s : State) (c : Nat) (r : Rtp) : AccessUnit := { rtp := r.ts, arrival := nowNs s, start := (ctxOf s c).ringPos }

/-- The unit that a packet joins: the one in progress, or a new one. -/
def joinedUnit (s : State) (c : Nat) (r : Rtp) : AccessUnit := ((ctxOf s c).unit).getD (newUnit s c r)

/-- A single NAL unit packet adds its NAL unit to a unit without an open fragment (10 R325). -/
theorem ctxOf_addPacket_single {s : State} {c : Nat} {r : Rtp} (gap : Bool) (hcodec : cfgNat s (oCtxCodec c) = 1) (hlo : 1 ≤ leAt r.payload 0 1 % 32) (hhi : leAt r.payload 0 1 % 32 ≤ 23)
    (hfrag : (joinedUnit s c r).frag = false) :
    ctxOf (addPacket s c r gap) c = { ctxOf s c with unit := some (withNal (joinedUnit s c r) gap r.payload) } := by
  have hbytes : depacketH264 r.payload = { bytes := startCode ++ r.payload } := by simp [depacketH264, hlo, hhi]
  have htypes : payloadTypes true r.payload = [leAt r.payload 0 1 % 32] := by simp [payloadTypes, nalType, hlo, hhi]
  have hjoin (v : AccessUnit) (hv : v.frag = false) :
      joinPayload v gap ([leAt r.payload 0 1 % 32].any (idrType true)) { bytes := startCode ++ r.payload } = withNal v gap r.payload := by
    simp [joinPayload, withNal, hv, startCode, idrType]
  rw [addPacket, ctxOf_modCtx_self]
  simp only [hcodec, decide_true, if_true, hbytes, htypes]
  have hnew := hjoin _ hfrag
  rw [joinedUnit] at hnew ⊢
  cases hu : (ctxOf s c).unit <;> rw [hu] at hnew <;> exact congrArg (fun v => { ctxOf s c with unit := some v }) hnew

/-- The context once a single NAL unit packet has joined its unit. -/
theorem ctxOf_joined {s : State} {c h : Nat} {r : Rtp} (hcodec : cfgNat s (oCtxCodec c) = 1) (hlo : 1 ≤ leAt r.payload 0 1 % 32) (hhi : leAt r.payload 0 1 % 32 ≤ 23)
    (hfrag : (joinedUnit s c r).frag = false) :
    ctxOf (joined s c h r) c = { ctxOf s c with high := some r.seq, unit := some (withNal (joinedUnit s c r) (decide (ahead r.seq h ≠ 1)) r.payload) } := by
  have hsame : joinedUnit (acceptSeq s c r.seq (ahead r.seq h ≠ 1)) c r = joinedUnit s c r := by simp [joinedUnit, newUnit]
  have hcfg := cfgNat_congr (acceptSeq_cfg s c r.seq (ahead r.seq h ≠ 1)) (oCtxCodec c)
  rw [joined, ctxOf_addPacket_single _ (hcfg.trans hcodec) hlo hhi (by rwa [hsame]), hsame, ctxOf_acceptSeq]

/-- The state once the unit in progress leaves its context and takes its number (10 R328). -/
def numbered (s : State) (c : Nat) : State :=
  roPut (modCtx s c fun y => { y with unit := none, seq := (y.seq + 1) % 2 ^ 32 }) (oCtxUnits c) (ctxOf s c).seq

@[simp] theorem ctxOf_numbered (s : State) (c : Nat) : ctxOf (numbered s c) c = { ctxOf s c with unit := none, seq := ((ctxOf s c).seq + 1) % 2 ^ 32 } := by simp [numbered]
@[simp] theorem numbered_tiles (s : State) (c : Nat) : (numbered s c).tiles = s.tiles := by simp [numbered]
@[simp] theorem numbered_queues (s : State) (c : Nat) : (numbered s c).queues = s.queues := by simp [numbered]
@[simp] theorem numbered_hbm (s : State) (c : Nat) : (numbered s c).hbm = s.hbm := by simp [numbered]
@[simp] theorem numbered_cfg (s : State) (c : Nat) : (numbered s c).cfg = s.cfg := by simp [numbered]
@[simp] theorem numbered_cycle (s : State) (c : Nat) : (numbered s c).cycle = s.cycle := by simp [numbered]

/-- In WAIT_IDR a unit without an IDR NAL unit is discarded (10 R327). -/
theorem completeUnit_discards {s : State} {c : Nat} {u : AccessUnit} (hu : (ctxOf s c).unit = some u) (hst : (ctxOf s c).state = 2) (hidr : u.idr = false) :
    completeUnit s c = countDropped (numbered s c) c := by
  simp [completeUnit, hu, hst, hidr, numbered]

@[simp] theorem queueUnit_tiles (s : State) (c n : Nat) (u : AccessUnit) (b : List Byte) (x y : Bool) : (queueUnit s c n u b x y).tiles = s.tiles := by
  simp [queueUnit]

theorem ctxOf_withQueues (s : State) (q : Queues) (c : Nat) : ctxOf { s with queues := q } c = ctxOf s c := rfl

@[simp] theorem queueUnit_state (s : State) (c n : Nat) (u : AccessUnit) (b : List Byte) (x y : Bool) : (ctxOf (queueUnit s c n u b x y) c).state = 3 := by
  simp only [queueUnit, ctxOf_withQueues, ctxOf_modCtx_self]
@[simp] theorem queueUnit_high (s : State) (c n : Nat) (u : AccessUnit) (b : List Byte) (x y : Bool) : (ctxOf (queueUnit s c n u b x y) c).high = (ctxOf s c).high := by
  simp only [queueUnit, ctxOf_withQueues, ctxOf_modCtx_self, ctxOf_ringWrite]
@[simp] theorem queueUnit_unit (s : State) (c n : Nat) (u : AccessUnit) (b : List Byte) (x y : Bool) : (ctxOf (queueUnit s c n u b x y) c).unit = (ctxOf s c).unit := by
  simp only [queueUnit, ctxOf_withQueues, ctxOf_modCtx_self, ctxOf_ringWrite]
@[simp] theorem queueUnit_tokens (s : State) (c n : Nat) (u : AccessUnit) (b : List Byte) (x y : Bool) : (ctxOf (queueUnit s c n u b x y) c).tokens = (ctxOf s c).tokens := by
  simp only [queueUnit, ctxOf_withQueues, ctxOf_modCtx_self, ctxOf_ringWrite]

/-- From s to t no tile and no highest accepted number of the context has changed. -/
def KeepsHigh (s : State) (c : Nat) (t : State) : Prop := t.tiles = s.tiles ∧ (ctxOf t c).high = (ctxOf s c).high

theorem keepsHigh_ite {s a b : State} {c : Nat} {q : Prop} [Decidable q] (ha : KeepsHigh s c a) (hb : KeepsHigh s c b) : KeepsHigh s c (if q then a else b) := by
  by_cases h : q
  · rwa [if_pos h]
  · rwa [if_neg h]

/-- A completed unit touches no tile and keeps the highest accepted number, whether it is discarded, dropped for one of four causes or queued. -/
theorem completeUnit_keeps (s : State) (c : Nat) : KeepsHigh s c (completeUnit s c) := by
  have hnumbered : roPut (modCtx s c fun y => { y with unit := none, seq := (y.seq + 1) % 2 ^ 32 }) (oCtxUnits c) (ctxOf s c).seq = numbered s c := rfl
  have hdiscard : KeepsHigh s c (countDropped (numbered s c) c) := ⟨by simp only [countDropped_tiles, numbered_tiles], by simp only [ctxOf_countDropped, ctxOf_numbered]⟩
  have hdrop (code n : Nat) : KeepsHigh s c (enterWait (countDropped (numbered s c) c) c code n true) :=
    ⟨by rw [enterWait_tiles, hdiscard.1], by rw [enterWait_high, hdiscard.2]⟩
  have hqueue (n k : Nat) (u : AccessUnit) (b : List Byte) (x y : Bool) :
      KeepsHigh s c (queueUnit (modCtx (numbered s c) c fun y => { y with tokens := n, tokensAt := k }) c (ctxOf s c).seq u b x y) :=
    ⟨by rw [queueUnit_tiles, modCtx_tiles, numbered_tiles], by rw [queueUnit_high, ctxOf_modCtx_self, ctxOf_numbered]⟩
  cases hu : (ctxOf s c).unit with
  | none => simp only [completeUnit, hu, KeepsHigh, and_self]
  | some u =>
    simp only [completeUnit, hu, hnumbered]
    exact keepsHigh_ite hdiscard (keepsHigh_ite (hdrop ..) (keepsHigh_ite (hdrop ..) (keepsHigh_ite (hdrop ..) (keepsHigh_ite (hdrop ..) (hqueue ..)))))

end Sys2Proof.Proofs
end

section
/-! PROOFS. The item of a unit that the intake keeps (10 R326 to R328, R334). -/

namespace Sys2Proof.Proofs

open Sys2Proof Sys2Proof.Machine Sys2Proof.Laws

/-- The length in an item (10 R328). -/
theorem leAt_unitItem_length (a f l n x v t : Nat) (d : List Byte) : leAt (unitItem a f l n x v t d) 8 4 = l % 2 ^ 32 := by
  rw [leAt, slice_middle (a := leBytes 6 a ++ leBytes 2 f) (b := leBytes 4 l)
    (r := leBytes 4 n ++ leBytes 8 x ++ leBytes 8 v ++ leBytes 8 t ++ List.replicate 24 0 ++ slice d 0 48 ++ List.replicate 16 0) (by simp [unitItem]) (by simp) (by simp)]
  exact leNat_leBytes 4 l

/-- The sequence number in an item (10 R328). -/
theorem leAt_unitItem_seq (a f l n x v t : Nat) (d : List Byte) : leAt (unitItem a f l n x v t d) 12 4 = n % 2 ^ 32 := by
  rw [leAt, slice_middle (a := leBytes 6 a ++ leBytes 2 f ++ leBytes 4 l) (b := leBytes 4 n)
    (r := leBytes 8 x ++ leBytes 8 v ++ leBytes 8 t ++ List.replicate 24 0 ++ slice d 0 48 ++ List.replicate 16 0) (by simp [unitItem]) (by simp) (by simp)]
  exact leNat_leBytes 4 n

/-- The digest in an item (10 R328). -/
theorem slice_unitItem_digest (a f l n x v t : Nat) (d : List Byte) : slice (unitItem a f l n x v t d) 64 48 = slice d 0 48 :=
  slice_middle (a := leBytes 6 a ++ leBytes 2 f ++ leBytes 4 l ++ leBytes 4 n ++ leBytes 8 x ++ leBytes 8 v ++ leBytes 8 t ++ List.replicate 24 0)
    (r := List.replicate 16 0) (by simp [unitItem]) (by simp) (by simp)

/-- A unit that is kept goes to the intake queue with its length, number and digest (10 R328). -/
theorem queueUnit_item (s : State) (c n : Nat) (u : AccessUnit) (b : List Byte) (x y : Bool) :
    ∃ it, (queueUnit s c n u b x y).queues.intake = s.queues.intake ++ [{ queue := c, bytes := it }]
      ∧ leAt it 8 4 = b.length % 2 ^ 32 ∧ leAt it 12 4 = n % 2 ^ 32 ∧ slice it 64 48 = slice (sha384 b) 0 48 :=
  ⟨_, rfl, leAt_unitItem_length .., leAt_unitItem_seq .., slice_unitItem_digest ..⟩

@[simp] theorem cfgNat_numbered (s : State) (c k : Nat) : cfgNat (numbered s c) k = cfgNat s k := cfgNat_congr (numbered_cfg ..) k
@[simp] theorem ringHeld_numbered (s : State) (c : Nat) : ringHeld (numbered s c) c = ringHeld s c := ringHeld_congr (by simp) (by simp) (by simp)
@[simp] theorem tokensNow_numbered (s : State) (c : Nat) : tokensNow (numbered s c) c = tokensNow s c := tokensNow_congr (by simp) (by simp) (by simp) (by simp)
@[simp] theorem unitAdmitted_numbered (s : State) (c : Nat) : unitAdmitted (numbered s c) c = unitAdmitted s c := unitAdmitted_congr (by simp) (by simp) (by simp) c

/-- Tokens that a unit takes from its context's bucket (10 R334). -/
def unitCost (s : State) (c : Nat) : Nat := (cfgNat s (oCtxMaxLuma c) + 2000) * 500000000000

/-- In RUNNING a unit without an IDR NAL unit that fits the ring, the queue and the bucket is queued as it is (10 R326 to R328, R334). -/
theorem completeUnit_queues {s : State} {c : Nat} {u : AccessUnit} (hu : (ctxOf s c).unit = some u) (hst : (ctxOf s c).state = 3) (hidr : u.idr = false)
    (hsize : 4 * u.bytes.length ≤ cfgNat s (oCtxRingSize c)) (hheld : ringHeld s c + u.bytes.length ≤ cfgNat s (oCtxRingSize c))
    (hadm : unitAdmitted s c = true) (hcost : unitCost s c ≤ tokensNow s c) :
    ∃ it, (completeUnit s c).queues.intake = s.queues.intake ++ [{ queue := c, bytes := it }]
      ∧ leAt it 8 4 = u.bytes.length % 2 ^ 32 ∧ leAt it 12 4 = (ctxOf s c).seq % 2 ^ 32 ∧ slice it 64 48 = slice (sha384 u.bytes) 0 48
      ∧ (ctxOf (completeUnit s c) c).state = 3 ∧ (ctxOf (completeUnit s c) c).unit = none ∧ (ctxOf (completeUnit s c) c).tokens = tokensNow s c - unitCost s c := by
  have hnumbered : roPut (modCtx s c fun y => { y with unit := none, seq := (y.seq + 1) % 2 ^ 32 }) (oCtxUnits c) (ctxOf s c).seq = numbered s c := rfl
  rw [unitCost] at hcost
  have hkept : completeUnit s c = queueUnit (modCtx (numbered s c) c fun y => { y with tokens := tokensNow s c - unitCost s c, tokensAt := s.cycle }) c (ctxOf s c).seq
      { u with damaged := u.damaged || u.frag || u.bytes.isEmpty } u.bytes false false := by
    simp only [completeUnit, hu, hnumbered, hst, hidr]
    simp [hadm, Nat.not_lt.mpr hsize, Nat.not_lt.mpr hheld, Nat.not_lt.mpr hcost, unitCost]
  rw [hkept]
  obtain ⟨it, hit, hlen, hseq, hdigest⟩ := queueUnit_item (modCtx (numbered s c) c fun y => { y with tokens := tokensNow s c - unitCost s c, tokensAt := s.cycle }) c (ctxOf s c).seq
    { u with damaged := u.damaged || u.frag || u.bytes.isEmpty } u.bytes false false
  exact ⟨it, by simpa using hit, hlen, hseq, hdigest, queueUnit_state .., by simp, by simp⟩

end Sys2Proof.Proofs
end

section
/-! PROOFS. O41: RTP packets to access units and intake items (01 R26 to R28; 10 R324 to R328). -/

namespace Sys2Proof.Proofs

open Sys2Proof Sys2Proof.Machine Sys2Proof.Laws

/-- A packet that no check of its port stops and that a context takes is that context's (01 R26). -/
theorem exec_rtpPacketReceive {e : Fin 2} {f : InFrame} {s s' : State} {r : Rtp} {c : Nat} (hudp : udpIngress s e f = (true, s')) (hr : parseRtp f.payload = some r)
    (hc : matchContext s' e f r = some c) : exec (.rtpPacketReceive e f) s = .next (contextPacket s' c r) := by
  change execRtpPacketReceive e f s = _
  simp [execRtpPacketReceive, hudp, hr, hc]

/-- A packet of no context is counted for its port (01 R26). -/
theorem exec_rtpPacketReceive_unmatched {e : Fin 2} {f : InFrame} {s s' : State} (hudp : udpIngress s e f = (true, s'))
    (hnone : ∀ r, parseRtp f.payload = some r → matchContext s' e f r = none) :
    exec (.rtpPacketReceive e f) s = .next (roAdd s' (if e = 0 then oStreamUnmatchedEth0 else oStreamUnmatchedEth1) 1) := by
  change execRtpPacketReceive e f s = _
  cases hr : parseRtp f.payload with
  | none => simp [execRtpPacketReceive, hudp, hr]
  | some r => simp [execRtpPacketReceive, hudp, hr, hnone r hr]

section NewUnit

variable {s : State} {c h : Nat} {r : Rtp} (hcodec : cfgNat s (oCtxCodec c) = 1) (hunit : (ctxOf s c).unit = none)
  (hlo : 1 ≤ leAt r.payload 0 1 % 32) (hhi : leAt r.payload 0 1 % 32 ≤ 23)

include hcodec hunit hlo hhi

/-- The context once a single NAL unit packet has opened a unit. -/
theorem ctxOf_joined_new : ctxOf (joined s c h r) c = { ctxOf s c with high := some r.seq, unit := some (withNal (newUnit s c r) (decide (ahead r.seq h ≠ 1)) r.payload) } := by
  have hnew : joinedUnit s c r = newUnit s c r := by rw [joinedUnit, hunit, Option.getD_none]
  rw [ctxOf_joined hcodec hlo hhi (by rw [hnew]; rfl), hnew]

/-- A new unit without an IDR NAL unit that completes in WAIT_IDR is discarded (10 R327). -/
theorem completeUnit_joined_waiting (hst : (ctxOf s c).state = 2) (hty : leAt r.payload 0 1 % 32 ≠ 5) :
    let u := completeUnit (joined s c h r) c
    u.queues = s.queues ∧ u.hbm = s.hbm ∧ (ctxOf u c).unit = none ∧ (ctxOf u c).state = 2 ∧ (ctxOf u c).seq = ((ctxOf s c).seq + 1) % 2 ^ 32 := by
  have hctx := ctxOf_joined_new (h := h) hcodec hunit hlo hhi
  have hdiscard := completeUnit_discards (s := joined s c h r) (c := c) (by rw [hctx]) (by rw [hctx, hst]) (by simp [withNal, newUnit, hty])
  rw [hdiscard]
  refine ⟨by simp, by simp, ?_, ?_, ?_⟩ <;> simp [hctx, hst]

/-- A new unit without an IDR NAL unit that completes in RUNNING and fits is queued (10 R326 to R328, R334). -/
theorem completeUnit_joined_running (hst : (ctxOf s c).state = 3) (hty : leAt r.payload 0 1 % 32 ≠ 5) (hsize : 4 * (4 + r.payload.length) ≤ cfgNat s (oCtxRingSize c))
    (hheld : ringHeld s c + (4 + r.payload.length) ≤ cfgNat s (oCtxRingSize c)) (hadm : unitAdmitted s c = true) (hcost : unitCost s c ≤ tokensNow s c) :
    let u := completeUnit (joined s c h r) c
    ∃ it, u.queues.intake = s.queues.intake ++ [{ queue := c, bytes := it }] ∧ leAt it 8 4 = (4 + r.payload.length) % 2 ^ 32 ∧ leAt it 12 4 = (ctxOf s c).seq % 2 ^ 32
      ∧ slice it 64 48 = slice (sha384 ([0, 0, 0, 1] ++ r.payload)) 0 48 ∧ (ctxOf u c).state = 3 ∧ (ctxOf u c).unit = none ∧ (ctxOf u c).tokens = tokensNow s c - unitCost s c := by
  have hctx := ctxOf_joined_new (h := h) hcodec hunit hlo hhi
  have hring : ringHeld (joined s c h r) c = ringHeld s c := ringHeld_congr (by rw [hctx]) (by rw [hctx]) (joined_cfg ..)
  have htokens : tokensNow (joined s c h r) c = tokensNow s c := tokensNow_congr (by rw [hctx]) (by rw [hctx]) (joined_cycle ..) (joined_cfg ..)
  have hadmit : unitAdmitted (joined s c h r) c = unitAdmitted s c := unitAdmitted_congr (joined_queues ..) (joined_tiles ..) (joined_cfg ..) c
  have hprice : unitCost (joined s c h r) c = unitCost s c := by rw [unitCost, unitCost, cfgNat_congr (joined_cfg ..)]
  have hbytes : (withNal (newUnit s c r) (decide (ahead r.seq h ≠ 1)) r.payload).bytes = [0, 0, 0, 1] ++ r.payload := rfl
  have hlen : ([0, 0, 0, 1] ++ r.payload).length = 4 + r.payload.length := by rw [List.length_append]; rfl
  have hkept := completeUnit_queues (s := joined s c h r) (c := c) (by rw [hctx]) (by rw [hctx, hst]) (by simp [withNal, newUnit, hty])
    (by rwa [hbytes, hlen, cfgNat_congr (joined_cfg ..)]) (by rwa [hring, hbytes, hlen, cfgNat_congr (joined_cfg ..)]) (hadmit.trans hadm) (by rwa [hprice, htokens])
  rwa [joined_queues, hbytes, hlen, hprice, htokens, hctx] at hkept

end NewUnit

/-- Settles O41: by the place of the packet in the sequence, then by what its unit does. -/
theorem rtpIntake : Obligations.RtpIntake := by
  refine ⟨fun e f s hudp => ?_, fun e f s s' hudp hnone => exec_rtpPacketReceive_unmatched hudp hnone, fun e f s s' r c h hudp hr hc hh => ⟨fun hd => ?_, ?_, ?_⟩⟩
  · change execRtpPacketReceive e f s = _
    simp [execRtpPacketReceive, hudp]
  · rw [exec_rtpPacketReceive hudp hr hc, contextPacket_late hh hd]
  · intro hpos hle hcodec hunit hlo hhi
    have hctx := ctxOf_joined_new (h := h) hcodec hunit hlo hhi
    refine ⟨_, exec_rtpPacketReceive hudp hr hc, ?_⟩
    rw [contextPacket_joins hh hpos hle (by simp [hunit])]
    cases hm : r.marker with
    | false => exact ⟨by rw [if_neg Bool.false_ne_true, hctx], joined_tiles .., fun _ => ⟨joined_queues .., joined_hbm .., by rw [if_neg Bool.false_ne_true, hctx]; rfl⟩, nofun, nofun⟩
    | true =>
      obtain ⟨htiles, hhigh⟩ := completeUnit_keeps (joined s' c h r) c
      exact ⟨hhigh.trans (by rw [hctx]), htiles.trans (joined_tiles ..), nofun, fun _ hst hty => completeUnit_joined_waiting hcodec hunit hlo hhi hst hty,
        fun _ hst hty hsize hheld hadm hcost => completeUnit_joined_running hcodec hunit hlo hhi hst hty hsize hheld hadm hcost⟩
  · intro v hpos hle hcodec hunit hts hfrag hm hlo hhi
    have hold : joinedUnit s' c r = v := by rw [joinedUnit, hunit, Option.getD_some]
    refine ⟨_, exec_rtpPacketReceive hudp hr hc, ?_⟩
    rw [contextPacket_joins hh hpos hle (by simp [hunit, hts]), if_neg (by simp [hm])]
    refine ⟨joined_tiles .., joined_queues .., ?_⟩
    rw [ctxOf_joined hcodec hlo hhi (by rwa [hold]), hold]
    rfl

end Sys2Proof.Proofs
end
